-- ==== Sys2Proof/Word.lean ====
section
/-! DEFINITION. The word of the serial line: the byte (spec/11 R172, R183). Every other quantity of the part is an
integer in the units of spec/00 Conventions and is a `Nat` or an `Int`. -/

namespace Sys2Proof

/-- A byte of the serial line, the one place where the spec speaks of bits and bytes. -/
abbrev Byte := BitVec 8

end Sys2Proof
end

