-- ==== Sys2Proof/Config.lean ====
section
/-! DEFINITION. What one implementation fixes: the types that hold the machine configuration, a recipe and the gas
table, and the values the spec leaves open. The figures themselves (defaults, ranges, capacities) stand in
Machine/Figures.lean. -/

namespace Sys2Proof

/-- The machine configuration record: 41 fields by field number (spec/09, the machine configuration table). A field
is an unsigned integer (R185); coded fields use R185's codes. -/
structure MachineConfig where
  fields : Vector Nat 41
deriving DecidableEq, Repr

/-- A recipe record: 25 fields by field number (spec/09 R154). -/
structure Recipe where
  fields : Vector Nat 25
deriving DecidableEq, Repr

/-- The gas table T0 to T16, in 0.01 mg/ml (spec/06 R109). -/
structure GasTable where
  points : Vector Nat 17
deriving DecidableEq, Repr

namespace Config

/-- DESIGN CHOICE (log 14), safe. What stands in a reply or report item whose value does not fit the width R188 gives
it: an item of `width` bytes and the value it should carry. The spec states no result there, so this is free. -/
opaque unstatedItem : (width : Nat) → (value : Int) → Nat

end Config

end Sys2Proof
end

