-- ==== Sys2Proof/Syntax.lean ====
section
/-! DEFINITION. The commands of the GC-16: one constructor of `Instr` per row of spec/opcode_table.json, with the
operands each row carries; the frames of the message link and the requests their payloads spell (spec/11 R184). -/

namespace Sys2Proof

/-- The two encoder inputs of the board (spec/01 Sources). -/
inductive EncoderInput
  | primary
  | secondary
deriving DecidableEq, Repr

/-- The direction of a count, and of the index pulse that comes with it (spec/01 R1). -/
inductive Direction
  | forward
  | reverse
deriving DecidableEq, Repr

/-- What the line gives the receiver: a byte whose stop bit was high, or a line fault (spec/11 R172). -/
inductive LineByte
  | data (b : Byte)
  | fault
deriving DecidableEq, Repr

/-- The converter readings of one head before any clamping (spec/04 R70, R72): pressure in kPa, crimp depth in µm,
crimp diameter in 0.01 mm. -/
structure HeadSensors where
  pressure : Int
  depth    : Int
  diameter : Int
deriving DecidableEq, Repr

/-- The sensor inputs a command may sample: those of the sixteen heads and the pocket sensor at the infeed (spec/00
Connections). -/
structure Sensors where
  heads  : Vector HeadSensors 16
  pocket : Bool
deriving DecidableEq, Repr

/-- Who takes something at a turret position: a head its station phases, the verdict unit its due positions and
confirm ends (spec/01 R14, spec/08 R142, R145). -/
inductive Taker
  | head (h : Fin 16)
  | verdictUnit
deriving DecidableEq, Repr

/-- What the head transducer shows around the end of a build (spec/04 R75): the reading that reaches the probe pressure, and
the reading at the closing of the probe valve, which is Pa once corrected (log 5). -/
structure BuildReadings where
  reached : Int
  closing : Int
deriving DecidableEq, Repr

/-- A good frame, less its start byte, length byte and check (spec/11 R183). -/
structure Frame where
  kind    : Byte
  payload : List Byte
deriving DecidableEq, Repr

/-- The refusal codes of spec/11 R177, in the order of its table. -/
inductive RefusalCode
  | unknownKind
  | badLength
  | badField
  | outOfRange
  | wrongState
  | busy
  | full
  | outOfSequence
  | noMatch
deriving DecidableEq, Repr

/-- A request as its payload spells it, one constructor per request kind of spec/11 R184. -/
inductive Request
  | read (item index : Nat)
  | configure (mask : BitVec 48) (values : List Nat)
  | loadGasTable (points : List Nat)
  | loadRecipe (fields : List Nat)
  | amendRecipe (mask : BitVec 32) (values : List Nat)
  | activateRecipe (id : Nat)
  | discardRecipe
  | fill (tag mass : Nat)
  | resyncFill
  | head (head action : Nat)
  | cylinder (cylinder action : Nat)
  | infeedHold
  | infeedRelease
  | takeVerdicts (count : Nat)
  | clearConditions (mask : BitVec 16)
  | setReports (mask : BitVec 16)
  | selectSource (code : Nat)
  | relock
  | restart
deriving DecidableEq, Repr

/-- A command of the block, one constructor per row of spec/opcode_table.json, in the table's order. The operands of
a request are the fields of its payload. A command that can sample sensors carries their levels at its moment
(`sensors`, `raw`). `order` says in which order the agents that meet one turret position take it, which the spec leaves
open (log 6). -/
inductive Instr
  | powerOnReset (strapA strapB : Bool)
  | byteReceived (b : LineByte) (sensors : Sensors)
  | gapTimerExpiry
  | frameSent (sensors : Sensors)
  | restartPerform
  | unknownRequest (kind : Byte) (payload : List Byte)
  | readStatus (index : Nat)
  | readHead (head : Nat) (sensors : Sensors)
  | readCylinder (cylinder : Nat)
  | readQueues (part : Nat)
  | readRecipe (slot : Nat)
  | readConfig (index : Nat)
  | readGasTable (index : Nat)
  | readAllowances (index : Nat)
  | configure (mask : BitVec 48) (values : List Nat)
  | loadGasTable (points : List Nat)
  | loadRecipe (fields : List Nat)
  | amendRecipe (mask : BitVec 32) (values : List Nat)
  | activateRecipe (id : Nat)
  | discardRecipe
  | fill (tag mass : Nat)
  | resyncFill
  | headEnable (head : Nat)
  | headDisable (head : Nat)
  | headReset (head : Nat)
  | cylinderEnable (cylinder : Nat)
  | cylinderDisable (cylinder : Nat)
  | infeedHold
  | infeedRelease
  | takeVerdicts (count : Nat)
  | clearConditions (mask : BitVec 16)
  | setReports (mask : BitVec 16)
  | selectSource (code : Nat)
  | relock
  | restart
  | encoderCount (input : EncoderInput) (dir : Direction) (index : Bool) (sensors : Sensors) (order : List Taker)
  | simulatedCount (sensors : Sensors) (order : List Taker)
  | stopDetectExpiry
  | probeBuildEnd (h : Fin 16) (raw : BuildReadings)
  | buildTimeoutExpiry (h : Fin 16)
  | probeHoldExpiry (h : Fin 16) (raw : Int)
  | dwellTimerExpiry (h : Fin 16) (raw : Int)
  | flowDetectTimerExpiry (h : Fin 16)
  | cylinderPressureReading (c : Fin 4) (raw : Int)
  | refillTimerExpiry (c : Fin 4)
  | retryTimerExpiry (c : Fin 4)
  | settleTimerExpiry (c : Fin 4)
  | bufferReading (raw : Int)
  | temperatureReading (reading : Option Int)
  | tempHoldExpiry
  | idleTimerExpiry
  | laneSensorOff
  | laneSensorOn
  | wakeTimerExpiry
  | confirmSensorOn
  | gatePulseExpiry
  | readBadItem (item index : Nat)
  | headBadAction (head action : Nat)
  | cylinderBadAction (cylinder action : Nat)
deriving DecidableEq, Repr

end Sys2Proof
end

