-- ==== Sys2Proof/WellFormed.lean ====
section
/-! DEFINITION. The checks on commands: the values a frame can carry (spec/11 R184 to R186), and that each row of the
table that names a group of requests carries one of that group. -/

namespace Sys2Proof

/-- The configuration field or recipe field numbers, below `n`, that a field mask names (spec/11 R185). -/
def maskFields {w : Nat} (n : Nat) (mask : BitVec w) : List Nat :=
  (List.range n).filter fun f => mask.getLsbD f

/-- The width of a configuration field in bytes: 2, but for the idle delay, field 32 (spec/11 R185). -/
def configWidth (f : Nat) : Nat := if f = 32 then 4 else 2

/-- The width of a recipe field in bytes (spec/11 R185). -/
def recipeWidth (_ : Nat) : Nat := 2

/-- One value for each named field, each within its width. -/
def valuesFit (width : Nat → Nat) : List Nat → List Nat → Bool
  | [], [] => true
  | f :: fs, v :: vs => decide (v < 256 ^ width f) && valuesFit width fs vs
  | _, _ => false

/-- A request whose fields a payload of spec/11 R184 can carry. -/
def Request.wf : Request → Bool
  | .read item index => decide (item < 256) && decide (index < 256)
  | .configure mask values => valuesFit configWidth (maskFields 41 mask) values
  | .loadGasTable points => valuesFit recipeWidth (List.range 17) points
  | .loadRecipe fields => valuesFit recipeWidth (List.range 25) fields
  | .amendRecipe mask values => valuesFit recipeWidth (maskFields 25 mask) values
  | .activateRecipe id => decide (id < 65536)
  | .fill tag mass => decide (tag < 65536) && decide (mass < 65536)
  | .head h a => decide (h < 256) && decide (a < 256)
  | .cylinder c a => decide (c < 256) && decide (a < 256)
  | .takeVerdicts n => decide (n < 256)
  | .selectSource c => decide (c < 256)
  | .discardRecipe | .resyncFill | .infeedHold | .infeedRelease | .clearConditions _ | .setReports _ | .relock
  | .restart => true

/-- The kind bytes that name a request, 01h to 13h (spec/11 R184). -/
def isRequestKind (k : Byte) : Bool := decide (1 ≤ k.toNat) && decide (k.toNat ≤ 19)

/-- The request a command of the table is the arrival of; none for an event, and for a frame whose kind names no
request. -/
def Instr.request : Instr → Option Request
  | .readStatus i => some (.read 0 i)
  | .readHead h _ => some (.read 1 h)
  | .readCylinder c => some (.read 2 c)
  | .readQueues p => some (.read 3 p)
  | .readRecipe p => some (.read 4 p)
  | .readConfig i => some (.read 5 i)
  | .readGasTable i => some (.read 6 i)
  | .readAllowances i => some (.read 7 i)
  | .readBadItem item i => some (.read item i)
  | .configure m v => some (.configure m v)
  | .loadGasTable p => some (.loadGasTable p)
  | .loadRecipe f => some (.loadRecipe f)
  | .amendRecipe m v => some (.amendRecipe m v)
  | .activateRecipe id => some (.activateRecipe id)
  | .discardRecipe => some .discardRecipe
  | .fill t m => some (.fill t m)
  | .resyncFill => some .resyncFill
  | .headEnable h => some (.head h 0)
  | .headDisable h => some (.head h 1)
  | .headReset h => some (.head h 2)
  | .headBadAction h a => some (.head h a)
  | .cylinderEnable c => some (.cylinder c 0)
  | .cylinderDisable c => some (.cylinder c 1)
  | .cylinderBadAction c a => some (.cylinder c a)
  | .infeedHold => some .infeedHold
  | .infeedRelease => some .infeedRelease
  | .takeVerdicts n => some (.takeVerdicts n)
  | .clearConditions m => some (.clearConditions m)
  | .setReports m => some (.setReports m)
  | .selectSource c => some (.selectSource c)
  | .relock => some .relock
  | .restart => some .restart
  | .powerOnReset _ _ | .byteReceived _ _ | .gapTimerExpiry | .frameSent _ | .restartPerform | .unknownRequest _ _
  | .encoderCount _ _ _ _ _ | .simulatedCount _ _ | .stopDetectExpiry | .probeBuildEnd _ _ | .buildTimeoutExpiry _
  | .probeHoldExpiry _ _ | .dwellTimerExpiry _ _ | .flowDetectTimerExpiry _ | .cylinderPressureReading _ _
  | .refillTimerExpiry _ | .retryTimerExpiry _ | .settleTimerExpiry _ | .bufferReading _ | .temperatureReading _
  | .tempHoldExpiry | .idleTimerExpiry | .laneSensorOff | .laneSensorOn | .wakeTimerExpiry | .confirmSensorOn
  | .gatePulseExpiry => none

/-- A command of its own row: a request whose fields fit a payload, with a bad item or action where the row says so; a
kind that names no request; a payload of at most 120 bytes (spec/11 R183). -/
def Instr.wf (i : Instr) : Bool :=
  (match i.request with | some r => r.wf | none => true) &&
  (match i with
   | .unknownRequest k p => !isRequestKind k && decide (p.length ≤ 120)
   | .readBadItem item _ => decide (7 < item)
   | .headBadAction _ a => decide (2 < a)
   | .cylinderBadAction _ a => decide (1 < a)
   | .encoderCount _ _ _ _ order | .simulatedCount _ order => decide order.Nodup
   | .powerOnReset _ _ | .byteReceived _ _ | .gapTimerExpiry | .frameSent _ | .restartPerform | .readStatus _
   | .readHead _ _ | .readCylinder _ | .readQueues _ | .readRecipe _ | .readConfig _ | .readGasTable _
   | .readAllowances _ | .configure _ _ | .loadGasTable _ | .loadRecipe _ | .amendRecipe _ _ | .activateRecipe _
   | .discardRecipe | .fill _ _ | .resyncFill | .headEnable _ | .headDisable _ | .headReset _ | .cylinderEnable _
   | .cylinderDisable _ | .infeedHold | .infeedRelease | .takeVerdicts _ | .clearConditions _ | .setReports _
   | .selectSource _ | .relock | .restart | .stopDetectExpiry | .probeBuildEnd _ _ | .buildTimeoutExpiry _
   | .probeHoldExpiry _ _ | .dwellTimerExpiry _ _ | .flowDetectTimerExpiry _ | .cylinderPressureReading _ _
   | .refillTimerExpiry _ | .retryTimerExpiry _ | .settleTimerExpiry _ | .bufferReading _ | .temperatureReading _
   | .tempHoldExpiry | .idleTimerExpiry | .laneSensorOff | .laneSensorOn | .wakeTimerExpiry | .confirmSensorOn
   | .gatePulseExpiry => true)

end Sys2Proof
end

