-- ==== Sys2Proof/Decode.lean ====
section
/-! DEFINITION. Frames and requests: the check of a frame (spec/11 R174), its bytes on the line (R183), the request a
payload spells (R176, R184 to R186) and, after it, the encoder of a request. The table of commands gives no row any
bits, so `decodeTableWord` answers none for every word. -/

namespace Sys2Proof

/-- The number a little-endian list of bytes spells (spec/00 Conventions). -/
def leNat : List Byte → Nat
  | [] => 0
  | b :: bs => b.toNat + 256 * leNat bs

/-- The low `n` bytes of a number, little-endian. -/
def leBytes : Nat → Nat → List Byte
  | 0, _ => []
  | n + 1, v => BitVec.ofNat 8 v :: leBytes n (v / 256)

/-- One shift of the check register (spec/11 R174 step 2). -/
def crcShift (r : BitVec 16) : BitVec 16 :=
  if r.msb then (r <<< 1) ^^^ 0x1021#16 else r <<< 1

/-- Eight shifts. -/
def crcShifts : Nat → BitVec 16 → BitVec 16
  | 0, r => r
  | n + 1, r => crcShifts n (crcShift r)

/-- One byte combined with the check register (spec/11 R174 steps 1 to 3). -/
def crcByte (r : BitVec 16) (b : Byte) : BitVec 16 :=
  crcShifts 8 (r ^^^ (b.setWidth 16 <<< 8))

/-- The check over a list of bytes, from FFFFh, with no final inversion (spec/11 R174). -/
def crc (bs : List Byte) : BitVec 16 := bs.foldl crcByte 0xFFFF#16

/-- The bytes of a frame that its check covers: length, kind, payload (spec/11 R174). -/
def Frame.checked (f : Frame) : List Byte :=
  BitVec.ofNat 8 f.payload.length :: f.kind :: f.payload

/-- The check of a frame. -/
def Frame.check (f : Frame) : BitVec 16 := crc f.checked

/-- A frame as it stands on the line: start byte C3h, length, kind, payload, check high byte first (spec/11 R183). -/
def Frame.lineBytes (f : Frame) : List Byte :=
  0xC3#8 :: f.checked ++ [(f.check >>> 8).setWidth 8, f.check.setWidth 8]

/-- The values of the named fields, each of its width, taken from a payload in ascending field number; none where the
length does not suit (spec/11 R176, R185). -/
def parseValues (width : Nat → Nat) : List Nat → List Byte → Option (List Nat)
  | [], [] => some []
  | [], _ :: _ => none
  | f :: fs, bs =>
    if bs.length < width f then none
    else (parseValues width fs (bs.drop (width f))).map (leNat (bs.take (width f)) :: ·)

/-- The bytes of the named fields' values. -/
def valueBytes (width : Nat → Nat) : List Nat → List Nat → List Byte
  | f :: fs, v :: vs => leBytes (width f) v ++ valueBytes width fs vs
  | _, _ => []

/-- The request a payload of a request kind spells; none where its length is not the one the kind requires (spec/11
R176, R184). Bits of a mask that name no field add no width. -/
def decodePayload (kind : Nat) (p : List Byte) : Option Request :=
  match kind with
  | 0x01 => match p with
    | [item, index] => some (.read item.toNat index.toNat)
    | _ => none
  | 0x02 =>
    if p.length < 6 then none
    else
      let mask := BitVec.ofNat 48 (leNat (p.take 6))
      (parseValues configWidth (maskFields 41 mask) (p.drop 6)).map (.configure mask)
  | 0x03 => (parseValues recipeWidth (List.range 17) p).map .loadGasTable
  | 0x04 => (parseValues recipeWidth (List.range 25) p).map .loadRecipe
  | 0x05 =>
    if p.length < 4 then none
    else
      let mask := BitVec.ofNat 32 (leNat (p.take 4))
      (parseValues recipeWidth (maskFields 25 mask) (p.drop 4)).map (.amendRecipe mask)
  | 0x06 => if p.length = 2 then some (.activateRecipe (leNat p)) else none
  | 0x07 => if p = [] then some .discardRecipe else none
  | 0x08 => if p.length = 4 then some (.fill (leNat (p.take 2)) (leNat (p.drop 2))) else none
  | 0x09 => if p = [] then some .resyncFill else none
  | 0x0A => match p with
    | [h, a] => some (.head h.toNat a.toNat)
    | _ => none
  | 0x0B => match p with
    | [c, a] => some (.cylinder c.toNat a.toNat)
    | _ => none
  | 0x0C => if p = [] then some .infeedHold else none
  | 0x0D => if p = [] then some .infeedRelease else none
  | 0x0E => match p with
    | [n] => some (.takeVerdicts n.toNat)
    | _ => none
  | 0x0F => if p.length = 2 then some (.clearConditions (BitVec.ofNat 16 (leNat p))) else none
  | 0x10 => if p.length = 2 then some (.setReports (BitVec.ofNat 16 (leNat p))) else none
  | 0x11 => match p with
    | [c] => some (.selectSource c.toNat)
    | _ => none
  | 0x12 => if p = [] then some .relock else none
  | 0x13 => if p = [] then some .restart else none
  | _ => none

/-- The link's own two checks of a request taken: its kind, then its length (spec/11 R176). -/
def decodeRequest (f : Frame) : Except RefusalCode Request :=
  if isRequestKind f.kind then
    match decodePayload f.kind.toNat f.payload with
    | some r => .ok r
    | none => .error .badLength
  else .error .unknownKind

/-- The frame that carries a request (spec/11 R184 to R186). -/
def encodeRequest : Request → Frame
  | .read item index => ⟨0x01, leBytes 1 item ++ leBytes 1 index⟩
  | .configure mask values => ⟨0x02, leBytes 6 mask.toNat ++ valueBytes configWidth (maskFields 41 mask) values⟩
  | .loadGasTable points => ⟨0x03, valueBytes recipeWidth (List.range points.length) points⟩
  | .loadRecipe fields => ⟨0x04, valueBytes recipeWidth (List.range fields.length) fields⟩
  | .amendRecipe mask values => ⟨0x05, leBytes 4 mask.toNat ++ valueBytes recipeWidth (maskFields 25 mask) values⟩
  | .activateRecipe id => ⟨0x06, leBytes 2 id⟩
  | .discardRecipe => ⟨0x07, []⟩
  | .fill tag mass => ⟨0x08, leBytes 2 tag ++ leBytes 2 mass⟩
  | .resyncFill => ⟨0x09, []⟩
  | .head h a => ⟨0x0A, leBytes 1 h ++ leBytes 1 a⟩
  | .cylinder c a => ⟨0x0B, leBytes 1 c ++ leBytes 1 a⟩
  | .infeedHold => ⟨0x0C, []⟩
  | .infeedRelease => ⟨0x0D, []⟩
  | .takeVerdicts n => ⟨0x0E, leBytes 1 n⟩
  | .clearConditions mask => ⟨0x0F, leBytes 2 mask.toNat⟩
  | .setReports mask => ⟨0x10, leBytes 2 mask.toNat⟩
  | .selectSource c => ⟨0x11, leBytes 1 c⟩
  | .relock => ⟨0x12, []⟩
  | .restart => ⟨0x13, []⟩

/-- The command a table word spells. No row of spec/opcode_table.json has bits, so there is none (log 23). -/
def decodeTableWord (_nbits _w : Nat) : Option Instr := none

end Sys2Proof
end

