-- ==== Sys2Proof/Machine/Figures.lean ====
section
/-! DEFINITION. The figures of the spec: capacities and fixed times, the 41 configuration fields with their ranges,
defaults and names (spec/09 and the rules it names), the 25 recipe fields (R154), the stations (spec/01 R16), the
default gas table (spec/06 R109). -/

namespace Sys2Proof.Machine

/-- Counts of one revolution (spec/00 Conventions). -/
def countsPerRev : Nat := 4096
/-- Revolution counts run from 0 to 4,294,967,295 (spec/01 R17). -/
def revolutions : Nat := 4294967296
/-- Sequence numbers run to 16,777,215 (spec/03 R53). -/
def lastSequence : Nat := 16777215
/-- The count of log, cans in process and pending admissions that holds a pocket back (spec/03 R50). -/
def logRoom : Nat := 64
/-- Room of the fill report queue (spec/03 R61). -/
def fillRoom : Nat := 8
/-- The greatest late-report debt (spec/03 R62). -/
def debtLimit : Nat := 16
/-- The greatest cream mass of a fill report (spec/03 R55). -/
def massLimit : Nat := 9999
/-- A fill report may run ahead of the expected tag by at most this many (spec/03 R55, R56). -/
def skipLimit : Nat := 8
/-- The fixed build timeout of the leak probe, in ms (spec/04 R74, R84). -/
def buildTimeout : Nat := 100
/-- Failures in succession that take a head or a cylinder out of service (spec/02 R26, spec/05 R91). -/
def faultLimit : Nat := 3
/-- Ceiling of the stray can count and of the unmatched confirm count (spec/03 R52, spec/08 R144). -/
def countLimit : Nat := 65535
/-- Reasons a can record keeps (spec/03 R65). -/
def reasonRoom : Nat := 4
/-- The gap timer of the frame assembler, in ms (spec/11 R173). -/
def gapTime : Nat := 5
/-- The longest payload (spec/11 R183). -/
def payloadLimit : Nat := 120
/-- Places of the receive buffer (spec/11 R175). -/
def receiveRoom : Nat := 2
/-- Places of the transmit queue (spec/11 R180). -/
def transmitRoom : Nat := 8
/-- Places of the transmit queue that reports may hold (spec/11 R180). -/
def reportRoom : Nat := 6
/-- The greatest allowance, in mg (spec/06 R118). -/
def allowanceLimit : Nat := 2000
/-- The lowest and highest temperature the arithmetic uses, in 0.1 °C (spec/00 Conventions, spec/05 R94). -/
def temperatureUsedMin : Int := -100
def temperatureUsedMax : Int := 500
/-- The held gas temperature at power-on reset (spec/05 R103). -/
def temperatureAtReset : Int := 200
/-- The defaults of the 41 configuration fields (spec/01 R16, R18, spec/05 R106, spec/07 R136, spec/08 R149, spec/04
R84, spec/06 R120). -/
def configDefaults : Vector Nat 41 :=
  #v[0, 192, 384, 640, 704, 1024, 2560, 2624, 3136, 3328, 3456, 3840, 3968,
     2, 128, 200, 1, 546,
     1500, 1500, 1500, 1500,
     60, 25, 20,
     80, 400, 500, 50, 3950, 4150, 10000, 30000, 1500,
     1024, 60, 128,
     101, 15,
     200, 1000]

/-- The ranges of the 41 configuration fields, both ends included (the same rules). -/
def configRanges : Vector (Nat × Nat) 41 :=
  #v[(0, 4095), (0, 4095), (0, 4095), (0, 4095), (0, 4095), (0, 4095), (0, 4095), (0, 4095), (0, 4095), (0, 4095),
     (0, 4095), (0, 4095), (0, 4095),
     (0, 16), (16, 1024), (50, 2000), (0, 1), (64, 4096),
     (500, 2500), (500, 2500), (500, 2500), (500, 2500),
     (20, 500), (5, 500), (5, 500),
     (20, 500), (100, 5000), (100, 10000), (10, 500), (1000, 5800), (1100, 6000), (1000, 60000), (5000, 600000),
     (200, 10000),
     (256, 1536), (10, 1000), (16, 255),
     (80, 120), (1, 50),
     (50, 2000), (0, 5000)]

/-- The ranges of the 25 recipe fields, both ends included (spec/09 R154); policies are 0 NOMINAL and 1 REJECT (R185). -/
def recipeRanges : Vector (Nat × Nat) 25 :=
  #v[(1, 65535), (0, 9999), (0, 9999), (0, 9999), (0, 1), (100, 600), (500, 20000), (500, 20000), (0, 2000), (0, 2000),
     (0, 9999), (0, 9999), (1, 9999), (0, 9999), (0, 9999), (150, 800), (0, 800), (20, 500), (1, 100), (50, 2000),
     (1, 200), (2000, 4000), (500, 3500), (0, 2000), (1, 3)]

/-- The default gas table (spec/06 R109). -/
def gasTableDefaults : Vector Nat 17 :=
  #v[0, 459, 932, 1421, 1925, 2447, 2989, 3545, 4126, 4729, 5347, 5995, 6665, 7361, 8087, 8837, 9627]

/-- The greatest density of a gas table point (spec/06 R109). -/
def densityLimit : Nat := 65000

/-- The thirteen stations, in the order of the station table (spec/01 R16). -/
inductive Station
  | infeed | seat | crimp | crimpRead | probe | chargeOpen | chargeClose | dwell | lift | outfeed | vent | zero | gate
deriving DecidableEq, Repr

/-- The stations in the order of the station table. -/
def stations : List Station :=
  [.infeed, .seat, .crimp, .crimpRead, .probe, .chargeOpen, .chargeClose, .dwell, .lift, .outfeed, .vent, .zero, .gate]

/-- The configured angle of a station: fields 0 to 12 (spec/09). -/
def stationAngle (c : MachineConfig) : Station → Nat
  | .infeed => c.fields[0]
  | .seat => c.fields[1]
  | .crimp => c.fields[2]
  | .crimpRead => c.fields[3]
  | .probe => c.fields[4]
  | .chargeOpen => c.fields[5]
  | .chargeClose => c.fields[6]
  | .dwell => c.fields[7]
  | .lift => c.fields[8]
  | .outfeed => c.fields[9]
  | .vent => c.fields[10]
  | .zero => c.fields[11]
  | .gate => c.fields[12]

/-- The turret position at which a station falls for a head (spec/01 R14). -/
def stationPosition (c : MachineConfig) (h : Fin 16) (st : Station) : Nat :=
  (stationAngle c st + 256 * h.val) % countsPerRev

/-! The named configuration fields 13 to 40 (spec/09). -/

def indexTolerance (c : MachineConfig) : Nat := c.fields[13]
def reverseLimit (c : MachineConfig) : Nat := c.fields[14]
def stopDetectTime (c : MachineConfig) : Nat := c.fields[15]
def autoRelock (c : MachineConfig) : Bool := c.fields[16] == 1
def simulatedRate (c : MachineConfig) : Nat := c.fields[17]
def cylinderVolume (c : MachineConfig) (n : Fin 4) : Nat := c.fields[18 + n.val]
def flowDetectTime (c : MachineConfig) : Nat := c.fields[22]
def flowThreshold (c : MachineConfig) : Nat := c.fields[23]
def backflowThreshold (c : MachineConfig) : Nat := c.fields[24]
def settleTime (c : MachineConfig) : Nat := c.fields[25]
def refillTimeout (c : MachineConfig) : Nat := c.fields[26]
def retryDelay (c : MachineConfig) : Nat := c.fields[27]
def topUpBand (c : MachineConfig) : Nat := c.fields[28]
def throttleOn (c : MachineConfig) : Nat := c.fields[29]
def throttleOff (c : MachineConfig) : Nat := c.fields[30]
def tempHoldLimit (c : MachineConfig) : Nat := c.fields[31]
def idleDelay (c : MachineConfig) : Nat := c.fields[32]
def wakeWait (c : MachineConfig) : Nat := c.fields[33]
def rejectDistance (c : MachineConfig) : Nat := c.fields[34]
def gatePulse (c : MachineConfig) : Nat := c.fields[35]
def confirmWindow (c : MachineConfig) : Nat := c.fields[36]
def atmosphere (c : MachineConfig) : Nat := c.fields[37]
def zeroWindow (c : MachineConfig) : Nat := c.fields[38]
def minimumShot (c : MachineConfig) : Nat := c.fields[39]
def adaptationBand (c : MachineConfig) : Nat := c.fields[40]

/-! The named recipe fields (spec/09 R154). -/

def recipeId (r : Recipe) : Nat := r.fields[0]
def nominalMass (r : Recipe) : Nat := r.fields[1]
def fillMin (r : Recipe) : Nat := r.fields[2]
def fillMax (r : Recipe) : Nat := r.fields[3]
def policyRejects (r : Recipe) : Bool := r.fields[4] == 1
def gasRatio (r : Recipe) : Nat := r.fields[5]
def doseMin (r : Recipe) : Nat := r.fields[6]
def doseMax (r : Recipe) : Nat := r.fields[7]
def toleranceLow (r : Recipe) : Nat := r.fields[8]
def toleranceHigh (r : Recipe) : Nat := r.fields[9]
def depthMin (r : Recipe) : Nat := r.fields[10]
def depthMax (r : Recipe) : Nat := r.fields[11]
def noCupDepth (r : Recipe) : Nat := r.fields[12]
def diameterMin (r : Recipe) : Nat := r.fields[13]
def diameterMax (r : Recipe) : Nat := r.fields[14]
def probePressure (r : Recipe) : Nat := r.fields[15]
def probeBuildMin (r : Recipe) : Nat := r.fields[16]
def probeHold (r : Recipe) : Nat := r.fields[17]
def probeDecayLimit (r : Recipe) : Nat := r.fields[18]
def dwellTime (r : Recipe) : Nat := r.fields[19]
def dwellDecayLimit (r : Recipe) : Nat := r.fields[20]
def fillPressure (r : Recipe) : Nat := r.fields[21]
def floorPressure (r : Recipe) : Nat := r.fields[22]
def initialAllowance (r : Recipe) : Nat := r.fields[23]
def maxShots (r : Recipe) : Nat := r.fields[24]

end Sys2Proof.Machine
end

