-- ==== Sys2Proof/Machine/State.lean ====
section
/-! DEFINITION. The state of the GC-16 as plain data, block by block, and the machine right after power-on reset. Each
field names the rule of spec/ that gives it; INVENTORY.md lists them with their reset values. -/

namespace Sys2Proof.Machine

/-- A timer: not running, running on the time it was started with (in ms), or expired where the spec keeps that apart
(spec/05 item table: idle and wake timer). -/
inductive Timer
  | stopped
  | running (ms : Nat)
  | expired
deriving DecidableEq, Repr

/-! ## Position tracker (spec/01) -/

inductive Source
  | primary | secondary | simulated
deriving DecidableEq, Repr

inductive TrackerState
  | unlocked | seeking | locked | slipped
deriving DecidableEq, Repr

inductive Motion
  | running | stopped
deriving DecidableEq, Repr

/-- The position tracker (spec/01 item table, R20). `genCount` is the count generator's own count (R2). -/
structure Tracker where
  source         : Source
  state          : TrackerState
  firstIndexSeen : Bool
  position       : Nat
  revolution     : Nat
  highWater      : Nat
  interval       : Int
  motion         : Motion
  stopDetect     : Timer
  genRunning     : Bool
  genCount       : Nat
deriving DecidableEq, Repr

/-! ## Can records (spec/03 R64) -/

/-- The reasons, in the order of their codes (spec/11 R187). -/
inductive Reason
  | noCup | crimpShallow | crimpDeep | crimpDiameter | crimpLeak | probeLate | fillLost | noFillReport | fillOutOfRange
  | noFlow | backflow | noCharge | doseLow | doseHigh | doseUnknown | settleLeak | dwellShort | headFault | headReset
  | positionLost
deriving DecidableEq, Repr

inductive DoseBasis
  | weighed | nominal | none
deriving DecidableEq, Repr

inductive Verdict
  | good | reject
deriving DecidableEq, Repr

/-- One entry of a can's shot list (spec/03 R64). -/
structure ShotEntry where
  cylinder    : Fin 4
  startP      : Nat
  cutoff      : Nat
  endP        : Nat
  temperature : Int
  delivered   : Nat
  short       : Bool
  aborted     : Bool
  backflow    : Bool
  overRange   : Bool
deriving DecidableEq, Repr

/-- A can record (spec/03 R64). -/
structure CanRecord where
  seq        : Nat
  head       : Fin 16
  slot       : Fin 2
  recipeId   : Nat
  tag        : Option Nat
  fillMass   : Option Nat
  boundLost  : Bool
  basis      : Option DoseBasis
  target     : Option Nat
  shots      : List ShotEntry
  total      : Nat
  depth      : Option Nat
  diameter   : Option Nat
  probeDecay : Option Int
  dwellDecay : Option Int
  reasons    : List Reason
  more       : Bool
  verdict    : Option Verdict
deriving DecidableEq, Repr

/-! ## Heads (spec/02, with the inspection items of spec/04 and the charge items of spec/07) -/

inductive Service
  | enabled | disabling | disabled | zeroing | outOfService
deriving DecidableEq, Repr

inductive ReturnState
  | enabled | zeroing
deriving DecidableEq, Repr

inductive Cycle
  | empty | seated | crimped | probing | probed | waiting | charging | charged | dwelling | lifted
deriving DecidableEq, Repr

inductive ProbeStep
  | idle | build | hold
deriving DecidableEq, Repr

/-- The probe timer runs on the build timeout or on the probe hold (spec/04 item table). -/
inductive ProbeTimer
  | stopped
  | build (ms : Nat)
  | hold (ms : Nat)
deriving DecidableEq, Repr

inductive Window
  | notOpen | isOpen | closed
deriving DecidableEq, Repr

/-- One head (spec/02 item table and R47; spec/04 item table and R86; spec/07 item table and R138). -/
structure Head where
  service       : Service
  returnState   : Option ReturnState
  cycle         : Cycle
  record        : Option CanRecord
  pendingResult : Option (Fin 4)
  paired        : Option (Fin 4)
  zeroOffset    : Int
  noFlowCount   : Nat
  zeroCount     : Nat
  probeStep     : ProbeStep
  pa            : Option Nat
  probeTimer    : ProbeTimer
  dwellTimer    : Timer
  flowTimer     : Timer
  headDown      : Bool
  collet        : Bool
  probeValve    : Bool
  ventValve     : Bool
  inlets        : Vector Bool 4
  window        : Window
  decided       : Bool
  flowDetected  : Bool
  firstDwell    : Option Nat
deriving DecidableEq, Repr

/-- A head after power-on reset and RESTART (spec/02 R47, spec/04 R86, spec/07 R138). -/
def Head.atReset : Head where
  service := .zeroing
  returnState := none
  cycle := .empty
  record := none
  pendingResult := none
  paired := none
  zeroOffset := 0
  noFlowCount := 0
  zeroCount := 0
  probeStep := .idle
  pa := none
  probeTimer := .stopped
  dwellTimer := .stopped
  flowTimer := .stopped
  headDown := false
  collet := false
  probeValve := false
  ventValve := false
  inlets := Vector.replicate 4 false
  window := .notOpen
  decided := false
  flowDetected := false
  firstDwell := none

/-! ## Infeed block (spec/03) -/

/-- The nine stored reasons of the withhold set (spec/03 R48); LOG is evaluated, not stored. -/
structure Withhold where
  noRecipe    : Bool
  holdRequest : Bool
  gas         : Bool
  wake        : Bool
  temp        : Bool
  position    : Bool
  simulated   : Bool
  stop        : Bool
  noCylinder  : Bool
deriving DecidableEq, Repr

/-- A fill entry: a tag, and the mass of a real entry or none for a placeholder marked lost (spec/03). -/
structure FillEntry where
  tag  : Nat
  mass : Option Nat
deriving DecidableEq, Repr

/-- An entry of the awaiting list names its record by head and sequence number (spec/03 R66) and may be noted as
settled (R62). `owed` is the number of cans noted as settled that stood behind it and have left the turret: their entries
are out of the list, which holds cans in process alone (R61), and the debt rises for them when this can leaves it (R62, log
18). -/
structure AwaitEntry where
  head    : Fin 16
  seq     : Nat
  settled : Bool
  owed    : Nat
deriving DecidableEq, Repr

/-- The infeed block (spec/03 item table, R68). -/
structure Infeed where
  withhold    : Withhold
  admitted    : Vector Bool 16
  gateOpen    : Bool
  nextSeq     : Nat
  fillQueue   : List FillEntry
  awaiting    : List AwaitEntry
  debt        : Nat
  expectedTag : Option Nat
  strayCount  : Nat
deriving DecidableEq, Repr

/-- The infeed block after power-on reset (spec/03 R68, R48). -/
def Infeed.atReset : Infeed where
  withhold := { noRecipe := true, holdRequest := false, gas := false, wake := false, temp := false, position := true,
                simulated := false, stop := false, noCylinder := false }
  admitted := Vector.replicate 16 false
  gateOpen := false
  nextSeq := 1
  fillQueue := []
  awaiting := []
  debt := 0
  expectedTag := none
  strayCount := 0

/-! ## Cylinders and gas supply (spec/05) -/

inductive CylState
  | idle | refilling | ready | discharging | measuring | fault | disabled | outOfService
deriving DecidableEq, Repr

/-- Why a discharge that is measured ended, in the order of the table of spec/05 R95. -/
inductive EndCause
  | cutoff | backflow | chargeClose | slip | headReset
deriving DecidableEq, Repr

/-- The shot in flight (spec/05 item list) with the dose calculator's items (spec/06 item table). -/
structure Shot where
  owner        : Fin 16
  slot         : Fin 2
  startP       : Nat
  startOver    : Bool
  cutoff       : Nat
  short        : Bool
  temperature  : Int
  cause        : Option EndCause
  aborted      : Bool
  backflow     : Bool
  endP         : Option Nat
  endOver      : Bool
  delivered    : Option Nat
  startDensity : Int
  volume       : Nat
  target       : Int
  mayAdapt     : Bool
deriving DecidableEq, Repr

/-- One dosing cylinder (spec/05 item table). -/
structure Cylinder where
  state          : CylState
  pressure       : Nat
  overRange      : Bool
  failures       : Nat
  disablePending : Bool
  owner          : Option (Fin 16)
  shot           : Option Shot
  lastShot       : Option Shot
  refillTimer    : Timer
  retryTimer     : Timer
  settleTimer    : Timer
  refillValve    : Bool
  dischargeValve : Bool
deriving DecidableEq, Repr

/-- A cylinder after power-on reset (spec/05 R108). DESIGN CHOICE (log 12), unsafe: a measured pressure of 0. -/
def Cylinder.atReset : Cylinder where
  state := .idle
  pressure := 0
  overRange := false
  failures := 0
  disablePending := false
  owner := none
  shot := none
  lastShot := none
  refillTimer := .stopped
  retryTimer := .stopped
  settleTimer := .stopped
  refillValve := false
  dischargeValve := false

inductive Standby
  | active | standby | waking
deriving DecidableEq, Repr

/-- The gas supply monitor (spec/05 item table) with the lane sensor it reads. -/
structure Gas where
  buffer       : Nat
  throttleOn   : Bool
  heldTemp     : Int
  tempGood     : Bool
  holdTimer    : Timer
  standby      : Standby
  idleTimer    : Timer
  wakeTimer    : Timer
  economy      : Bool
  laneSensor   : Bool
deriving DecidableEq, Repr

/-- The gas supply monitor after power-on reset (spec/05 R103, R104, R108). DESIGN CHOICE (log 12), unsafe: a buffer
pressure of 0 and an empty lane. -/
def Gas.atReset : Gas where
  buffer := 0
  throttleOn := false
  heldTemp := temperatureAtReset
  tempGood := false
  holdTimer := .running (tempHoldLimit ⟨configDefaults⟩)
  standby := .active
  idleTimer := .running (idleDelay ⟨configDefaults⟩)
  wakeTimer := .stopped
  economy := false
  laneSensor := false

/-! ## Verdict unit (spec/08) -/

/-- A reject entry (spec/08); `confirmEnd` is present while the entry is FIRED and absent while it is QUEUED. -/
structure RejectEntry where
  seq        : Nat
  due        : Nat
  fired      : Bool
  confirmEnd : Option Nat
deriving DecidableEq, Repr

/-- The verdict unit (spec/08 item table, R151). -/
structure VerdictUnit where
  log       : List CanRecord
  rejects   : List RejectEntry
  gateOn    : Bool
  gateTimer : Timer
  unmatched : Nat
deriving DecidableEq, Repr

/-- The verdict unit after power-on reset and RESTART (spec/08 R151). -/
def VerdictUnit.atReset : VerdictUnit where
  log := []
  rejects := []
  gateOn := false
  gateTimer := .stopped
  unmatched := 0

/-! ## Recipe store (spec/09) -/

inductive SlotState
  | free | pending | active | retiring
deriving DecidableEq, Repr

/-- A recipe slot (spec/09 item table). -/
structure Slot where
  state  : SlotState
  recipe : Option Recipe
  refs   : Nat
deriving DecidableEq, Repr

/-- A slot after power-on reset (spec/09 R163). -/
def Slot.atReset : Slot := { state := .free, recipe := none, refs := 0 }

/-! ## Condition set (spec/10) -/

/-- The twelve conditions in the order of their numbers (spec/10 R164). -/
inductive Condition
  | positionSlip | rejectUnconfirmed | rejectLost | allCylindersOut | headOutOfService | cylinderOutOfService | bufferLow
  | tempSensor | fillSequence | fillQueueFull | lateFill | linkFrameError
deriving DecidableEq, Repr

/-- The condition set (spec/10 item table). The report mask is a register the host writes whole; its bits are those of
spec/11 R185. -/
structure Conditions where
  isSet    : Vector Bool 12
  mask     : BitVec 16
  stopLine : Bool
deriving DecidableEq, Repr

/-- The condition set after power-on reset (spec/10 R171, R167). -/
def Conditions.atReset : Conditions where
  isSet := Vector.replicate 12 false
  mask := 0xFFFF#16
  stopLine := false

/-! ## Message link (spec/11) -/

inductive LineRate
  | baud57600 | baud115200 | baud230400
deriving DecidableEq, Repr

inductive AsmState
  | hunt | length | kind | payload | checkHigh | checkLow
deriving DecidableEq, Repr

/-- The frame assembler with the frame in assembly (spec/11 R173). -/
structure Assembler where
  state     : AsmState
  length    : Nat
  kind      : Byte
  payload   : List Byte
  checkHigh : Byte
  gapTimer  : Timer
deriving DecidableEq, Repr

/-- The assembler in HUNT with no frame in assembly (spec/11 R182; the empty frame is held as zeros, log 12). -/
def Assembler.hunting : Assembler where
  state := .hunt
  length := 0
  kind := 0
  payload := []
  checkHigh := 0
  gapTimer := .stopped

/-- A frame of the transmit queue, a reply or a report (spec/11 R180). -/
structure TxFrame where
  isReport : Bool
  frame    : Frame
deriving DecidableEq, Repr

/-- The message link (spec/11 item table). `lineOut` is the serial line's output: the bytes of the frame last sent
(log 26). -/
structure Link where
  rate           : LineRate
  asm            : Assembler
  rx             : List Frame
  tx             : List TxFrame
  restartPending : Bool
  lineOut        : List Byte
deriving DecidableEq, Repr

/-- The link after power-on reset at a line rate (spec/11 R182). -/
def Link.atReset (rate : LineRate) : Link where
  rate := rate
  asm := .hunting
  rx := []
  tx := []
  restartPending := false
  lineOut := []

/-! ## The whole part -/

/-- The state of the GC-16, and the queue of commands that wait. -/
structure State where
  tracker    : Tracker
  heads      : Vector Head 16
  infeed     : Infeed
  cylinders  : Vector Cylinder 4
  grantQueue : List (Fin 16)
  gas        : Gas
  gasTable   : GasTable
  allowances : Vector (Vector Nat 4) 2
  verdicts   : VerdictUnit
  slots      : Vector Slot 2
  config     : MachineConfig
  conds      : Conditions
  link       : Link
  sensors    : Sensors
  pending    : List Instr
deriving DecidableEq, Repr

/-- No command of the GC-16 stops the machine: every rule gives a next state, so there is no fault to name (log 25). -/
inductive Fault
deriving DecidableEq, Repr

/-- The reasons for which a command has no meaning. -/
inductive Refusal
  /-- Raised by an arm of `exec` whose command has no meaning yet, by its mnemonic. Safe: the run stops. No arm uses it. -/
  | notModelled (mnemonic : String)
deriving DecidableEq, Repr

/-- The position tracker after power-on reset and RESTART (spec/01 R20). The generator's own count is 0 at each start
(R2); before the first it is 0 by DESIGN CHOICE (log 12). -/
def Tracker.atReset : Tracker where
  source := .primary
  state := .unlocked
  firstIndexSeen := false
  position := 0
  revolution := 0
  highWater := 0
  interval := 0
  motion := .stopped
  stopDetect := .stopped
  genRunning := false
  genCount := 0

/-- Sensor inputs before any command has shown their levels. DESIGN CHOICE (log 12), unsafe. -/
def quietSensors : Sensors where
  heads := Vector.replicate 16 { pressure := 0, depth := 0, diameter := 0 }
  pocket := false

/-- The GC-16 right after power-on reset (spec/01 R20, spec/02 R47, spec/03 R68, spec/04 R86, spec/05 R108, spec/06
R122, spec/07 R138, spec/08 R151, spec/09 R163, spec/10 R171, spec/11 R182), with no command waiting. DESIGN CHOICE (log
12), unsafe: both rate straps low, and the inputs at rest. -/
def State.reset : State where
  tracker := .atReset
  heads := Vector.replicate 16 .atReset
  infeed := .atReset
  cylinders := Vector.replicate 4 .atReset
  grantQueue := []
  gas := .atReset
  gasTable := ⟨gasTableDefaults⟩
  allowances := Vector.replicate 2 (Vector.replicate 4 0)
  verdicts := .atReset
  slots := Vector.replicate 2 .atReset
  config := ⟨configDefaults⟩
  conds := .atReset
  link := .atReset .baud57600
  sensors := quietSensors
  pending := []

end Sys2Proof.Machine
end

