-- ==== Sys2Proof/Machine/Operands.lean ====
section
/-! DEFINITION. Operand forms: how a converter's reading is taken (clamping), the integer roundings of spec/00
Conventions, the items of replies and reports at the widths of spec/11 R188, and the codes of named values. -/

namespace Sys2Proof.Machine

/-! ## Readings -/

/-- A converter's reading taken within 0 to `hi` (spec/04 R70, R72, spec/05 R87, R102). -/
def clampReading (hi : Nat) (raw : Int) : Nat := min hi raw.toNat

/-- The raw head pressure, 0 to 2000 kPa (spec/04 R70). -/
def rawHeadPressure (raw : Int) : Nat := clampReading 2000 raw

/-- The corrected head pressure: raw minus zero offset, clamped again (spec/04 R70). -/
def correctedPressure (raw : Int) (offset : Int) : Nat := clampReading 2000 ((rawHeadPressure raw : Int) - offset)

/-- A value taken within two limits. -/
def clampInt (lo hi v : Int) : Int := max lo (min hi v)

/-! ## Roundings (spec/00 Conventions) -/

/-- The nearest integer to n / d for d above 0, halves going up. -/
def roundHalfUp (n d : Int) : Int := (2 * n + d) / (2 * d)

/-- The least integer not below n / d for d above 0. -/
def ceilDiv (n d : Int) : Int := -((-n) / d)

/-! ## Items of replies and reports (spec/11 R188) -/

/-- An unsigned item of `w` bytes. A value that does not fit gives a free value (log 14). -/
def item (w : Nat) (v : Nat) : List Byte :=
  leBytes w (if v < 256 ^ w then v else Config.unstatedItem w v)

/-- An unsigned item or, absent, FFh in every byte. -/
def itemOr (w : Nat) : Option Nat → List Byte
  | some v => item w v
  | none => List.replicate w 0xFF

/-- A signed 2-byte item, two's complement; 8000h stands for none, and what does not fit is free (log 14). -/
def signedItem (v : Int) : List Byte :=
  leBytes 2 (if -32768 < v ∧ v < 32768 then (v % 65536).toNat else Config.unstatedItem 2 v)

/-- A signed 2-byte item or, absent, 8000h. -/
def signedOr : Option Int → List Byte
  | some v => signedItem v
  | none => [0x00, 0x80]

/-- A yes or no, or a two-way output: 1 for yes, on, open valve, given, asserted, running; 0 otherwise (log 13). -/
def flag (b : Bool) : List Byte := [if b then 1 else 0]

/-- A number with bit i set where entry i of the list holds (spec/11 R188, a set of up to 16 members). -/
def setBits : List Bool → Nat
  | [] => 0
  | b :: bs => (if b then 1 else 0) + 2 * setBits bs

/-- A set item: 2 bytes, one bit per member in table order (spec/11 R188). -/
def setItem (bs : List Bool) : List Byte := item 2 (setBits bs)

/-- The expected tag: a presence byte, then the tag (spec/11 R188). -/
def expectedTagItem : Option Nat → List Byte
  | some t => 1 :: item 2 t
  | none => [0, 0, 0]

/-! ## Codes of named values: the place in the table that lists them, from 0 (spec/11 R188, log 13) -/

def Source.code : Source → Nat
  | .primary => 0 | .secondary => 1 | .simulated => 2

/-- The source a SELECT SOURCE code names (spec/11 R184). -/
def sourceOfCode : Nat → Option Source
  | 0 => some .primary
  | 1 => some .secondary
  | 2 => some .simulated
  | _ => none

def TrackerState.code : TrackerState → Nat
  | .unlocked => 0 | .seeking => 1 | .locked => 2 | .slipped => 3

def Motion.code : Motion → Nat
  | .running => 0 | .stopped => 1

/-- SEEN 0, NOT SEEN 1 (spec/01 item table). -/
def firstIndexCode (seen : Bool) : Nat := if seen then 0 else 1

def Service.code : Service → Nat
  | .enabled => 0 | .disabling => 1 | .disabled => 2 | .zeroing => 3 | .outOfService => 4

def ReturnState.service : ReturnState → Service
  | .enabled => .enabled | .zeroing => .zeroing

def Cycle.code : Cycle → Nat
  | .empty => 0 | .seated => 1 | .crimped => 2 | .probing => 3 | .probed => 4 | .waiting => 5 | .charging => 6
  | .charged => 7 | .dwelling => 8 | .lifted => 9

def ProbeStep.code : ProbeStep → Nat
  | .idle => 0 | .build => 1 | .hold => 2

def ProbeTimer.code : ProbeTimer → Nat
  | .build _ => 0 | .hold _ => 1 | .stopped => 2

def ProbeTimer.isRunning : ProbeTimer → Bool
  | .stopped => false | .build _ | .hold _ => true

def Timer.isRunning : Timer → Bool
  | .running _ => true | .stopped | .expired => false

/-- Running 0, expired 1, not running 2 (spec/05 item table). -/
def Timer.code : Timer → Nat
  | .running _ => 0 | .expired => 1 | .stopped => 2

def Window.code : Window → Nat
  | .notOpen => 0 | .isOpen => 1 | .closed => 2

def CylState.code : CylState → Nat
  | .idle => 0 | .refilling => 1 | .ready => 2 | .discharging => 3 | .measuring => 4 | .fault => 5 | .disabled => 6
  | .outOfService => 7

def EndCause.code : EndCause → Nat
  | .cutoff => 0 | .backflow => 1 | .chargeClose => 2 | .slip => 3 | .headReset => 4

/-- ON 0, OFF 1 (spec/05 item table). -/
def throttleCode (on : Bool) : Nat := if on then 0 else 1

/-- GOOD 0, FAULT 1 (spec/05 item table). -/
def tempStateCode (good : Bool) : Nat := if good then 0 else 1

def Standby.code : Standby → Nat
  | .active => 0 | .standby => 1 | .waking => 2

def SlotState.code : SlotState → Nat
  | .free => 0 | .pending => 1 | .active => 2 | .retiring => 3

/-- QUEUED 0, FIRED 1 (spec/08). -/
def entryStateCode (fired : Bool) : Nat := if fired then 1 else 0

/-- The refusal codes, 1 for UNKNOWN_KIND to 9 for NO_MATCH (spec/11 R184). -/
def refusalNumber : RefusalCode → Nat
  | .unknownKind => 1 | .badLength => 2 | .badField => 3 | .outOfRange => 4 | .wrongState => 5 | .busy => 6 | .full => 7
  | .outOfSequence => 8 | .noMatch => 9

/-- The reason codes of spec/11 R187. -/
def Reason.code : Reason → Nat
  | .noCup => 1 | .crimpShallow => 2 | .crimpDeep => 3 | .crimpDiameter => 4 | .crimpLeak => 5 | .probeLate => 6
  | .fillLost => 7 | .noFillReport => 8 | .fillOutOfRange => 9 | .noFlow => 10 | .backflow => 11 | .noCharge => 12
  | .doseLow => 13 | .doseHigh => 14 | .doseUnknown => 15 | .settleLeak => 16 | .dwellShort => 17 | .headFault => 18
  | .headReset => 19 | .positionLost => 20

/-- 0 absent, 1 WEIGHED, 2 NOMINAL, 3 NONE (spec/11 R187). -/
def basisCode : Option DoseBasis → Nat
  | none => 0 | some .weighed => 1 | some .nominal => 2 | some .none => 3

/-- The causes of a HEAD report, in the order of the table of spec/02 R45. -/
inductive HeadCause
  | enableRequest | disableRequest | disableComplete | resetRequest | zeroGood | noFlowLimit | zeroLimit
deriving DecidableEq, Repr

def HeadCause.code : HeadCause → Nat
  | .enableRequest => 0 | .disableRequest => 1 | .disableComplete => 2 | .resetRequest => 3 | .zeroGood => 4
  | .noFlowLimit => 5 | .zeroLimit => 6

/-- The causes of a CYLINDER report, in the order of the table of spec/05 R107. -/
inductive CylCause
  | refillTimeout | refillLimit | refillRecovered | disableRequest | disableComplete | enableRequest
deriving DecidableEq, Repr

def CylCause.code : CylCause → Nat
  | .refillTimeout => 0 | .refillLimit => 1 | .refillRecovered => 2 | .disableRequest => 3 | .disableComplete => 4
  | .enableRequest => 5

end Sys2Proof.Machine
end

