-- ==== Sys2Proof/Machine/Flags.lean ====
section
/-! DEFINITION. Flag computations: what the counts, the withhold set, the cause-present inputs and the stop request are
at a state (spec/03 R48, R50, spec/05 R88, R99, spec/10 R164, R170). -/

namespace Sys2Proof.Machine

/-- The heads, the cylinders and the slots in the order of their numbers. -/
def allHeads : List (Fin 16) := List.finRange 16
def allCylinders : List (Fin 4) := List.finRange 4
def allSlots : List (Fin 2) := List.finRange 2

/-- Marked: the record holds at least one reason (spec/00 Terms, spec/03 R65). -/
def CanRecord.marked (r : CanRecord) : Bool := !r.reasons.isEmpty

/-- The head holds a can record. -/
def Head.holdsCan (h : Head) : Bool := h.record.isSome

/-- The number of cans in process (spec/02 R46). -/
def inProcess (s : State) : Nat := s.heads.toList.countP Head.holdsCan

/-- The number of pending admissions of all heads (spec/03 R50). -/
def pendingAdmissions (s : State) : Nat := s.infeed.admitted.toList.countP id

/-- Verdict log count, cans in process and pending admissions together (spec/03 R50). -/
def roomTaken (s : State) : Nat := s.verdicts.log.length + inProcess s + pendingAdmissions s

/-- The withhold reason LOG, evaluated when read (spec/03 R48). -/
def logReason (s : State) : Bool := decide (logRoom ≤ roomTaken s)

/-- Some stored reason is present (spec/03 R50). -/
def Withhold.any (w : Withhold) : Bool :=
  w.noRecipe || w.holdRequest || w.gas || w.wake || w.temp || w.position || w.simulated || w.stop || w.noCylinder

/-- The withhold set as an item: the reasons in the order of the table of spec/03 R48, LOG last. -/
def withholdItem (s : State) : List Byte :=
  let w := s.infeed.withhold
  setItem [w.noRecipe, w.holdRequest, w.gas, w.wake, w.temp, w.position, w.simulated, w.stop, w.noCylinder, logReason s]

/-- The slot that is ACTIVE, if any (spec/09 R152). -/
def activeSlot (s : State) : Option (Fin 2) := allSlots.find? fun i => s.slots[i].state == .active

/-- The slot that is PENDING, if any (spec/09 R152). -/
def pendingSlot (s : State) : Option (Fin 2) := allSlots.find? fun i => s.slots[i].state == .pending

/-- The refill condition: a slot is ACTIVE and the standby state is ACTIVE (spec/05 R88). -/
def refillCondition (s : State) : Bool := (activeSlot s).isSome && s.gas.standby == .active

/-- The recipe of a slot. A can refers only to an ACTIVE or RETIRING slot (spec/09 R152), which holds a record; a slot
without one reads as zeros (log 22: no run reaches it). -/
def slotRecipe (s : State) (i : Fin 2) : Recipe := (s.slots[i].recipe).getD ⟨Vector.replicate 25 0⟩

/-- The fill pressure P1 of the ACTIVE slot, if any (spec/05 R88). -/
def activeFillPressure (s : State) : Option Nat := (activeSlot s).map fun i => fillPressure (slotRecipe s i)

/-- The cylinder is DISABLED or OUT_OF_SERVICE. -/
def Cylinder.isOut (c : Cylinder) : Bool := c.state == .disabled || c.state == .outOfService

/-- The bank is all out (spec/05 R99). -/
def allOut (s : State) : Bool := allCylinders.all fun c => s.cylinders[c].isOut

/-- The number of a condition (spec/10 R164). -/
def Condition.num : Condition → Fin 12
  | .positionSlip => 0 | .rejectUnconfirmed => 1 | .rejectLost => 2 | .allCylindersOut => 3 | .headOutOfService => 4
  | .cylinderOutOfService => 5 | .bufferLow => 6 | .tempSensor => 7 | .fillSequence => 8 | .fillQueueFull => 9
  | .lateFill => 10 | .linkFrameError => 11

/-- The conditions in the order of their numbers. -/
def conditions : List Condition :=
  [.positionSlip, .rejectUnconfirmed, .rejectLost, .allCylindersOut, .headOutOfService, .cylinderOutOfService, .bufferLow,
   .tempSensor, .fillSequence, .fillQueueFull, .lateFill, .linkFrameError]

/-- The condition is of class STOP (spec/10 R164). -/
def Condition.isStop : Condition → Bool
  | .positionSlip | .rejectUnconfirmed | .rejectLost | .allCylindersOut => true
  | .headOutOfService | .cylinderOutOfService | .bufferLow | .tempSensor | .fillSequence | .fillQueueFull | .lateFill
  | .linkFrameError => false

/-- The condition is SET. -/
def Conditions.has (c : Conditions) (k : Condition) : Bool := c.isSet[k.num]

/-- At least one STOP-class condition is SET (spec/10 R170). -/
def Conditions.anyStop (c : Conditions) : Bool := conditions.any fun k => k.isStop && c.has k

/-- The cause-present input of a condition, false for one that has none (spec/10 R164). -/
def causePresent (s : State) : Condition → Bool
  | .positionSlip => s.tracker.state != .locked
  | .allCylindersOut => allOut s
  | .headOutOfService => allHeads.any fun h => s.heads[h].service == .outOfService
  | .cylinderOutOfService => allCylinders.any fun c => s.cylinders[c].state == .outOfService
  | .bufferLow => s.gas.throttleOn
  | .tempSensor => !s.gas.tempGood
  | .rejectUnconfirmed | .rejectLost | .fillSequence | .fillQueueFull | .lateFill | .linkFrameError => false

/-- The states of all twelve conditions as an item. -/
def conditionsItem (c : Conditions) : List Byte := setItem (conditions.map c.has)

/-- The absolute position (spec/01 R17). -/
def Tracker.absolute (t : Tracker) : Nat := t.revolution * countsPerRev + t.position

end Sys2Proof.Machine
end

