-- ==== Sys2Proof/Machine/Ops.lean ====
section
/-! DEFINITION. The named operations over State that every block shares: an update of each part of State, replies and
reports (spec/11 R177, R179, R180), setting a condition (spec/10 R165), the withhold reason POSITION (spec/03 R51),
reasons (spec/03 R65, spec/02 R42) and the grant queue (spec/05 R100). -/

namespace Sys2Proof.Machine

/-! ## One update per part of State -/

def State.modTracker (f : Tracker → Tracker) (s : State) : State := { s with tracker := f s.tracker }
def State.modHead (h : Fin 16) (f : Head → Head) (s : State) : State := { s with heads := s.heads.set h (f s.heads[h]) }
def State.modInfeed (f : Infeed → Infeed) (s : State) : State := { s with infeed := f s.infeed }
def State.modWithhold (f : Withhold → Withhold) (s : State) : State :=
  { s with infeed := { s.infeed with withhold := f s.infeed.withhold } }
def State.modCyl (c : Fin 4) (f : Cylinder → Cylinder) (s : State) : State :=
  { s with cylinders := s.cylinders.set c (f s.cylinders[c]) }
def State.modGrants (f : List (Fin 16) → List (Fin 16)) (s : State) : State := { s with grantQueue := f s.grantQueue }
def State.modGas (f : Gas → Gas) (s : State) : State := { s with gas := f s.gas }
def State.setAllowance (i : Fin 2) (c : Fin 4) (v : Nat) (s : State) : State :=
  { s with allowances := s.allowances.set i (s.allowances[i].set c v) }
/-- The four allowances of a slot written alike (spec/06 R118). -/
def State.setSlotAllowances (i : Fin 2) (v : Nat) (s : State) : State :=
  { s with allowances := s.allowances.set i (Vector.replicate 4 v) }
def State.modVerdicts (f : VerdictUnit → VerdictUnit) (s : State) : State := { s with verdicts := f s.verdicts }
def State.modSlot (i : Fin 2) (f : Slot → Slot) (s : State) : State := { s with slots := s.slots.set i (f s.slots[i]) }
def State.modConds (f : Conditions → Conditions) (s : State) : State := { s with conds := f s.conds }
def State.modLink (f : Link → Link) (s : State) : State := { s with link := f s.link }
def State.setSensors (v : Sensors) (s : State) : State := { s with sensors := v }
/-- The pressure transducer of one head shows a new reading. -/
def State.showPressure (h : Fin 16) (raw : Int) (s : State) : State :=
  { s with sensors := { s.sensors with heads := s.sensors.heads.set h { s.sensors.heads[h] with pressure := raw } } }

/-! ## Replies -/

/-- The field index that names no field (spec/11 R177). -/
def noField : Nat := 0xFF

/-- An ACCEPT: the echoed kind, then the data (spec/11 R177). -/
def acceptFrame (kind : Byte) (data : List Byte) : Frame := ⟨0x80, kind :: data⟩

/-- A REFUSE: the echoed kind, the refusal code, the field index (spec/11 R177). -/
def refuseFrame (kind : Byte) (code : RefusalCode) (field : Nat) : Frame :=
  ⟨0x81, [kind, BitVec.ofNat 8 (refusalNumber code), BitVec.ofNat 8 field]⟩

/-- A reply joins the tail of the transmit queue, in the place R175 ensured (spec/11 R176). -/
def pushReply (f : Frame) (s : State) : State := s.modLink fun l => { l with tx := l.tx ++ [⟨false, f⟩] }

/-- The request of kind `kind` is accepted with `data`. -/
def accept (kind : Byte) (data : List Byte) (s : State) : State := pushReply (acceptFrame kind data) s

/-- The request of kind `kind` is refused (spec/11 R177). -/
def refuse (kind : Byte) (code : RefusalCode) (field : Nat) (s : State) : State := pushReply (refuseFrame kind code field) s

/-- A request whose act may give reports. Its ACCEPT holds its place ahead of them from the moment the request is taken
(spec/11 R176); `act` answers the state after the act and the data of the reply. -/
def acceptAround (kind : Byte) (act : State → State × List Byte) (s : State) : State :=
  let r := act (accept kind [] s)
  r.1.modLink fun l => { l with tx := l.tx.set s.link.tx.length ⟨false, acceptFrame kind r.2⟩ }

/-! ## Reports -/

/-- The report kinds (spec/11 R179). -/
inductive ReportKind
  | condition | head | cylinder | tracker
deriving DecidableEq, Repr

/-- The kind byte of a report (spec/11 R184). -/
def ReportKind.byte : ReportKind → Byte
  | .condition => 0x90 | .head => 0x91 | .cylinder => 0x92 | .tracker => 0x93

/-- The bit of the report mask that enables a report kind (spec/11 R185). -/
def ReportKind.bit : ReportKind → Nat
  | .condition => 12 | .head => 13 | .cylinder => 14 | .tracker => 15

/-- The number of reports in the transmit queue. -/
def Link.reports (l : Link) : Nat := l.tx.countP TxFrame.isReport

/-- A report has room: fewer than 6 reports and fewer than 8 frames (spec/11 R180). -/
def Link.hasReportRoom (l : Link) : Bool := decide (l.reports < reportRoom) && decide (l.tx.length < transmitRoom)

/-- A block gives a report: it is queued, or not sent, according to the report mask, restart pending and report room
(spec/11 R179). -/
def report (k : ReportKind) (payload : List Byte) (s : State) : State :=
  if s.conds.mask.getLsbD k.bit && !s.link.restartPending && s.link.hasReportRoom then
    s.modLink fun l => { l with tx := l.tx ++ [⟨true, ⟨k.byte, payload⟩⟩] }
  else s

/-- A TRACKER report with the values as they stand (spec/01 R19). -/
def trackerReport (s : State) : State :=
  let t := s.tracker
  report .tracker (item 1 t.source.code ++ item 1 t.state.code ++ item 1 t.motion.code ++ item 2 t.position ++
    item 4 t.revolution) s

/-- The sequence number of the held record, 0 for none (spec/11 R188). -/
def Head.seqItem (h : Head) : List Byte := item 3 ((h.record.map CanRecord.seq).getD 0)

/-- A HEAD report with the values as they stand (spec/02 R45). -/
def headReport (h : Fin 16) (cause : HeadCause) (s : State) : State :=
  let x := s.heads[h]
  report .head (item 1 h.val ++ item 1 x.service.code ++ item 1 x.cycle.code ++ item 1 x.noFlowCount ++ item 1 x.zeroCount ++
    x.seqItem ++ item 1 cause.code) s

/-- A CYLINDER report with the values as they stand (spec/05 R107). -/
def cylinderReport (c : Fin 4) (cause : CylCause) (s : State) : State :=
  let x := s.cylinders[c]
  report .cylinder (item 1 c.val ++ item 1 x.state.code ++ flag x.disablePending ++ item 2 x.pressure ++ item 1 x.failures ++
    item 1 cause.code) s

/-- A CONDITION report, if the condition's own enable is on too (spec/10 R166, R167). Class STOP is 0, NOTICE 1 (log 13). -/
def conditionReport (k : Condition) (s : State) : State :=
  if s.conds.mask.getLsbD k.num.val then
    report .condition (item 1 k.num.val ++ item 1 (if k.isStop then 0 else 1) ++ flag (causePresent s k) ++
      conditionsItem s.conds ++ flag s.conds.stopLine) s
  else s

/-! ## Conditions -/

/-- The stop-request line and the withhold reason STOP follow whether a STOP-class condition is SET (spec/10 R170). -/
def updateStop (s : State) : State :=
  { s with conds := { s.conds with stopLine := s.conds.anyStop }
           infeed := { s.infeed with withhold := { s.infeed.withhold with stop := s.conds.anyStop } } }

/-- An owner's rule sets a condition: NOT SET becomes SET, moves the stop request if of class STOP, and is reported;
SET stands (spec/10 R165). -/
def setCondition (k : Condition) (s : State) : State :=
  if s.conds.has k then s
  else
    let s1 := s.modConds fun c => { c with isSet := c.isSet.set k.num true }
    conditionReport k (if k.isStop then updateStop s1 else s1)

/-! ## The withhold reason POSITION -/

/-- POSITION enters the withhold set: every pending admission is withdrawn and the gate output closes (spec/03 R51). -/
def setPosition (s : State) : State :=
  if s.infeed.withhold.position then s
  else s.modInfeed fun i =>
    { i with withhold := { i.withhold with position := true }, admitted := Vector.replicate 16 false, gateOpen := false }

/-! ## The grant queue -/

/-- The head's request leaves the grant queue wherever it stands (spec/05 R100). -/
def withdraw (h : Fin 16) (s : State) : State := s.modGrants fun q => q.filter (· ≠ h)

/-- The head's request joins the tail of the grant queue and its cycle becomes WAITING (spec/05 R100, spec/02 R36). -/
def joinQueue (h : Fin 16) (s : State) : State :=
  (s.modGrants fun q => if h ∈ q then q else q ++ [h]).modHead h fun x => { x with cycle := .waiting }

/-! ## Reasons -/

/-- A reason added to a record: kept at the tail while fewer than four stand, else more becomes yes (spec/03 R65). -/
def CanRecord.withReason (r : CanRecord) (k : Reason) : CanRecord :=
  if k ∈ r.reasons then r
  else if r.reasons.length < reasonRoom then { r with reasons := r.reasons ++ [k] }
  else { r with more := true }

/-- A reason found against the can a head holds. A can marked while its head is WAITING has its request withdrawn, and the
cycle becomes CHARGED with no pending result (spec/02 R42). -/
def addReason (h : Fin 16) (k : Reason) (s : State) : State :=
  match s.heads[h].record with
  | none => s
  | some r =>
    let s1 := s.modHead h fun x => { x with record := some (r.withReason k) }
    if s.heads[h].cycle = .waiting then
      (withdraw h s1).modHead h fun x => { x with cycle := .charged, pendingResult := none }
    else s1

/-- The can's record, changed in place. -/
def modRecord (h : Fin 16) (f : CanRecord → CanRecord) (s : State) : State :=
  s.modHead h fun x => { x with record := x.record.map f }

/-- The can held is marked. -/
def Head.marked (h : Head) : Bool := (h.record.map CanRecord.marked).getD false

/-- The recipe the held can refers to. -/
def headRecipe (s : State) (h : Fin 16) : Recipe :=
  match s.heads[h].record with
  | some r => slotRecipe s r.slot
  | none => ⟨Vector.replicate 25 0⟩

end Sys2Proof.Machine
end

