-- ==== Sys2Proof/Machine/Dose.lean ====
section
/-! DEFINITION. The dose arithmetic (spec/06 R110 to R119) as functions of its figures, and the allowance table's
reading and adaptation. -/

namespace Sys2Proof.Machine

/-- A point Ti of the gas table; past T16 it reads as T16. -/
def tablePoint (t : GasTable) (i : Nat) : Int := ((t.points.toList.getD i t.points[16] : Nat) : Int)

/-- The density at a pressure, from the table in force (spec/06 R110). -/
def density (t : GasTable) (p : Nat) : Int :=
  if 4000 ≤ p then tablePoint t 16
  else tablePoint t (p / 250) + ((tablePoint t (p / 250 + 1) - tablePoint t (p / 250)) * ((p % 250 : Nat) : Int)).tdiv 250

/-- The target dose of a mass source: the gas ratio applied, rounded half up, taken within the dose limits (spec/06
R111). -/
def targetDose (r : Recipe) (mass : Nat) : Nat :=
  min (doseMax r) (max (doseMin r) (roundHalfUp ((mass * gasRatio r : Nat) : Int) 100).toNat)

/-- The density drop of a shot (spec/06 R114): the mass asked, the temperature used, the cylinder volume. -/
def densityDrop (mass : Int) (temperature : Int) (volume : Nat) : Int :=
  roundHalfUp (mass * (2732 + temperature) * 1000) ((volume : Int) * 2932)

/-- The largest index from 0 to 15 whose point is at or below a density (spec/06 R115). -/
def segmentOf (t : GasTable) (rho : Int) : Nat :=
  (List.range 16).foldl (fun best i => if tablePoint t i ≤ rho then i else best) 0

/-- The cut-off pressure for a cut-off density, and the SHORT flag (spec/06 R115). -/
def cutoffOf (t : GasTable) (floor : Nat) (rhoCut : Int) : Nat × Bool :=
  if rhoCut < density t floor then (floor, true)
  else
    let i := segmentOf t rhoCut
    (250 * i + (ceilDiv ((rhoCut - tablePoint t i) * 250) (tablePoint t (i + 1) - tablePoint t i)).toNat, false)

/-- The cut-off pressure and SHORT flag of a grant. DEDUCED (log 8): R114's "ρ(P1)" is the start density, as its own next
sentence and the worked cases have it. -/
def shotCutoff (t : GasTable) (floor startP : Nat) (mass temperature : Int) (volume : Nat) : Nat × Bool :=
  cutoffOf t floor (density t startP - densityDrop mass temperature volume)

/-- The delivered mass of a measured shot (spec/06 R116). -/
def deliveredMass (backflow : Bool) (startDensity endDensity temperature : Int) (volume : Nat) : Nat :=
  if backflow || decide (startDensity < endDensity) then 0
  else (roundHalfUp ((volume : Int) * (startDensity - endDensity) * 2932) ((2732 + temperature) * 1000)).toNat

/-- The allowance of a cylinder under a slot (spec/06 R118). -/
def allowanceOf (s : State) (i : Fin 2) (c : Fin 4) : Nat := s.allowances[i][c]

/-- The allowance after a shot with error `e` (spec/06 R119). -/
def adaptedAllowance (a : Nat) (e : Int) : Nat := (clampInt 0 allowanceLimit ((a : Int) + e.tdiv 4)).toNat

/-- The shot's OVER_RANGE flag (spec/06 R117). -/
def Shot.overRange (x : Shot) : Bool := x.startOver || x.endOver

/-- A measured shot may adapt its cylinder's allowance: no flag, the right kept, its slot ACTIVE or RETIRING, the error
within the band (spec/06 R119). -/
def mayAdaptNow (s : State) (x : Shot) (delivered : Nat) : Bool :=
  !x.short && !x.aborted && !x.backflow && !x.overRange && x.mayAdapt &&
  (s.slots[x.slot].state == .active || s.slots[x.slot].state == .retiring) &&
  decide (-(adaptationBand s.config : Int) ≤ (delivered : Int) - x.target) &&
  decide ((delivered : Int) - x.target ≤ (adaptationBand s.config : Int))

/-- Allowance adaptation at a measurement completion (spec/06 R119, spec/05 R96 step 4). -/
def adapt (c : Fin 4) (x : Shot) (delivered : Nat) (s : State) : State :=
  if mayAdaptNow s x delivered then
    s.setAllowance x.slot c (adaptedAllowance (allowanceOf s x.slot c) ((delivered : Int) - x.target))
  else s

/-- The shot target of a record with a target dose (spec/06 R112). -/
def shotTarget (r : CanRecord) (target : Nat) : Int := (target : Int) - (r.total : Int)

end Sys2Proof.Machine
end

