-- ==== Sys2Proof/Machine/Cylinders.lean ====
section
/-! DEFINITION. Cylinder states, refill and top-up, the all-out test, the end of a discharge, and a pending disable
(spec/05 R88 to R99). -/

namespace Sys2Proof.Machine

/-- Entry to a state: the valves stand as the table of spec/05 R88 gives, and no timer of another state runs on. -/
def Cylinder.enter (st : CylState) (x : Cylinder) : Cylinder :=
  { x with state := st, refillValve := st == .refilling, dischargeValve := st == .discharging, refillTimer := .stopped,
           retryTimer := .stopped, settleTimer := .stopped }

/-- Entry to REFILLING: the refill valve opens and the refill timer starts (spec/05 R90). -/
def enterRefilling (c : Fin 4) (s : State) : State :=
  s.modCyl c fun x => { x.enter .refilling with refillTimer := .running (refillTimeout s.config) }

/-- Entry to IDLE: REFILLING at once where the refill condition holds (spec/05 R89). -/
def enterIdle (c : Fin 4) (s : State) : State :=
  if refillCondition s then enterRefilling c s else s.modCyl c (Cylinder.enter .idle)

/-- An IDLE cylinder is tested for the refill condition (spec/05 R89). -/
def refillIdle (c : Fin 4) (s : State) : State :=
  if s.cylinders[c].state = .idle ∧ refillCondition s then enterRefilling c s else s

/-- A READY cylinder whose measured pressure is below P1 minus the top-up band is refilled where the refill condition
holds (spec/05 R93). -/
def topUp (c : Fin 4) (s : State) : State :=
  match activeFillPressure s with
  | none => s
  | some p1 =>
    if s.cylinders[c].state = .ready ∧ refillCondition s ∧
        (s.cylinders[c].pressure : Int) < (p1 : Int) - (topUpBand s.config : Int) then
      enterRefilling c s
    else s

/-- The all-out test, made at each entry to and each departure from DISABLED and OUT_OF_SERVICE (spec/05 R99). -/
def allOutTest (s : State) : State :=
  if allOut s then setCondition .allCylindersOut (s.modWithhold fun w => { w with noCylinder := true })
  else s.modWithhold fun w => { w with noCylinder := false }

/-- A pending disable completes (spec/05 R97): DISABLED, with a report, and the all-out test. The mark is then no. -/
def completeDisable (c : Fin 4) (s : State) : State :=
  allOutTest (cylinderReport c .disableComplete (s.modCyl c fun x => { x.enter .disabled with disablePending := false }))

/-- A cylinder that would enter READY completes a pending disable instead (spec/05 R90, R95). -/
def readyOrDisabled (c : Fin 4) (s : State) : State :=
  if s.cylinders[c].disablePending then completeDisable c s else s.modCyl c (Cylinder.enter .ready)

/-- The ABORTED flag goes with the causes CHARGE_CLOSE, slip notice and HEAD RESET (spec/05 R95). -/
def EndCause.aborts : EndCause → Bool
  | .chargeClose | .slip | .headReset => true
  | .cutoff | .backflow => false

/-- The measured end of a discharge (spec/05 R95, R96, spec/07 R127, R128): the cylinder closes its discharge valve and
enters MEASURING with the settle timer started and the cause written; the owner's inlet valve closes, its flow-detect
timer ends and the pairing with it, and the head is CHARGED with this cylinder as its pending result. A cylinder that is
no longer DISCHARGING takes nothing. -/
def endDischarge (c : Fin 4) (cause : EndCause) (s : State) : State :=
  if s.cylinders[c].state = .discharging then
    let s1 := s.modCyl c fun x =>
      { x.enter .measuring with
        settleTimer := .running (settleTime s.config)
        shot := x.shot.map fun y =>
          { y with cause := some cause, aborted := cause.aborts, backflow := decide (cause = .backflow) } }
    match s.cylinders[c].owner with
    | none => s1
    | some h => s1.modHead h fun x =>
        { x with cycle := .charged, pendingResult := some c, paired := none, inlets := x.inlets.set c false,
                 flowTimer := .stopped }
  else s

/-- CYLINDER DISABLE by state (spec/05 R97). A disable already pending is not made pending again (log 21). -/
def disableCylinder (c : Fin 4) (s : State) : State :=
  match s.cylinders[c].state with
  | .idle | .ready | .refilling | .fault =>
    allOutTest (cylinderReport c .disableRequest (s.modCyl c (Cylinder.enter .disabled)))
  | .discharging | .measuring =>
    if s.cylinders[c].disablePending then s
    else cylinderReport c .disableRequest (s.modCyl c fun x => { x with disablePending := true })
  | .disabled | .outOfService => s

/-- CYLINDER ENABLE by state (spec/05 R98). -/
def enableCylinder (c : Fin 4) (s : State) : State :=
  match s.cylinders[c].state with
  | .disabled | .outOfService =>
    allOutTest (cylinderReport c .enableRequest (enterIdle c (s.modCyl c fun x => { x with failures := 0 })))
  | .discharging | .measuring =>
    if s.cylinders[c].disablePending then
      cylinderReport c .enableRequest (s.modCyl c fun x => { x with disablePending := false })
    else s
  | .idle | .refilling | .ready | .fault => s

/-- Expiry of the refill timer in REFILLING (spec/05 R91). -/
def refillTimeoutAct (c : Fin 4) (s : State) : State :=
  let n := min faultLimit (s.cylinders[c].failures + 1)
  if n < faultLimit then
    cylinderReport c .refillTimeout
      (s.modCyl c fun x => { x.enter .fault with failures := n, retryTimer := .running (retryDelay s.config) })
  else
    let s1 := s.modCyl c fun x => { x.enter .outOfService with failures := n }
    allOutTest (cylinderReport c .refillLimit (setCondition .cylinderOutOfService s1))

/-- Expiry of the retry timer in FAULT (spec/05 R92). -/
def retryAct (c : Fin 4) (s : State) : State := enterIdle c s

end Sys2Proof.Machine
end

