-- ==== Sys2Proof/Machine/Charge.lean ====
section
/-! DEFINITION. The fill settlement (spec/03 R62, R63), the charge decision, the arbiter and the grant, the credit of a
measured shot, the dose judgement and the end of the charge window (spec/05 R100, R101, spec/07 R123 to R133). -/

namespace Sys2Proof.Machine

/-! ## Settlement -/

/-- A can that leaves the awaiting list unbound raises the debt by one, and by one for each settled can that stood behind it
and has left the turret (spec/03 R62, log 18). -/
def AwaitEntry.debt (e : AwaitEntry) : Nat := e.owed + 1

/-- The cans noted as settled that stand at the head of the awaiting list leave it: what they add to the debt, and the rest
(spec/03 R62). -/
def dropSettled : List AwaitEntry → Nat × List AwaitEntry
  | [] => (0, [])
  | e :: es => if e.settled then (e.debt + (dropSettled es).1, (dropSettled es).2) else (0, e :: es)

/-- The late-report debt rises by `n`; it is held at 16, and FILL_SEQUENCE is set where it would pass (spec/03 R62). -/
def raiseDebt (n : Nat) (s : State) : State :=
  if s.infeed.debt + n ≤ debtLimit then s.modInfeed fun i => { i with debt := i.debt + n }
  else setCondition .fillSequence (s.modInfeed fun i => { i with debt := debtLimit })

/-- Cans noted as settled leave the head of the awaiting list, each raising the debt (spec/03 R62); `owed` is what the can
that left the list before them adds. -/
def releaseSettled (owed : Nat) (s : State) : State :=
  raiseDebt (owed + (dropSettled s.infeed.awaiting).1)
    (s.modInfeed fun i => { i with awaiting := (dropSettled i.awaiting).2 })

/-- The can of a head is settled unbound if it is still in the awaiting list: it is noted as settled, and leaves once it
stands at the head (spec/03 R62). -/
def settleUnbound (h : Fin 16) (seq : Nat) (s : State) : State :=
  releaseSettled 0 (s.modInfeed fun i =>
    { i with awaiting := i.awaiting.map fun e => if e.head = h ∧ e.seq = seq then { e with settled := true } else e })

/-- The entry of one can leaves the awaiting list: what the debt owes for it now, and the rest. The entry before it, where
there is one, owes it from then on (log 18). -/
def dropDeparted (h : Fin 16) (seq : Nat) : List AwaitEntry → Nat × List AwaitEntry
  | [] => (0, [])
  | e :: es =>
    if e.head = h ∧ e.seq = seq then (e.debt, es)
    else
      let d := dropDeparted h seq es
      (0, { e with owed := e.owed + d.1 } :: d.2)

/-- A can handed on at OUTFEED is no longer in process, so it stands in the awaiting list no more (spec/03 R61). It was settled
at its charge decision, so only a can settled behind an older one still waiting for its report is found there (R62). DEDUCED
(log 18): the debt for it rises when the can before it leaves the list. -/
def departAwaiting (h : Fin 16) (seq : Nat) (s : State) : State :=
  if s.infeed.awaiting.any fun e => decide (e.head = h ∧ e.seq = seq) then
    let d := dropDeparted h seq s.infeed.awaiting
    releaseSettled d.1 (s.modInfeed fun i => { i with awaiting := d.2 })
  else s

/-- The mass source the settlement gives, or the fill reason (spec/03 R63). -/
inductive Settlement
  | mass (basis : DoseBasis) (dg : Nat)
  | reason (k : Reason)
deriving DecidableEq, Repr

/-- The settlement from the binding the can holds at its charge decision and its own recipe (spec/03 R63). -/
def settlementOf (r : CanRecord) (rcp : Recipe) : Settlement :=
  match r.fillMass with
  | some m => if fillMin rcp ≤ m ∧ m ≤ fillMax rcp then .mass .weighed m else .reason .fillOutOfRange
  | none =>
    if r.boundLost then .reason .fillLost
    else if policyRejects rcp then .reason .noFillReport
    else .mass .nominal (nominalMass rcp)

/-! ## Judgement -/

/-- The dose of an unmarked can is judged (spec/07 R131). A marked can, or one without a target dose, is not. -/
def judgeDose (h : Fin 16) (s : State) : State :=
  match s.heads[h].record with
  | none => s
  | some r =>
    match r.target with
    | none => s
    | some t =>
      if r.marked then s
      else if (r.total : Int) < (t : Int) - (toleranceLow (slotRecipe s r.slot) : Int) then addReason h .doseLow s
      else if (t : Int) + (toleranceHigh (slotRecipe s r.slot) : Int) < (r.total : Int) then addReason h .doseHigh s
      else s

/-! ## Grants -/

/-- The shot in flight written at a grant (spec/05 R94, spec/06 R113 to R115). -/
def newShot (s : State) (h : Fin 16) (c : Fin 4) (slot : Fin 2) (target : Int) : Shot :=
  let x := s.cylinders[c]
  let temp := clampInt temperatureUsedMin temperatureUsedMax s.gas.heldTemp
  let cut := shotCutoff s.gasTable (floorPressure (slotRecipe s slot)) x.pressure
    (target - (allowanceOf s slot c : Int)) temp (cylinderVolume s.config c)
  { owner := h, slot := slot, startP := x.pressure, startOver := x.overRange, cutoff := cut.1, short := cut.2,
    temperature := temp, cause := none, aborted := false, backflow := false, endP := none, endOver := false,
    delivered := none, startDensity := density s.gasTable x.pressure, volume := cylinderVolume s.config c,
    target := target, mayAdapt := true }

/-- A grant: the request leaves the queue, the cylinder enters DISCHARGING with the head as owner and the shot in flight,
and the head is CHARGING, paired, its inlet valve open and its flow-detect timer started (spec/05 R94, spec/07 R124). -/
def grant (h : Fin 16) (c : Fin 4) (slot : Fin 2) (target : Int) (s : State) : State :=
  let shot := newShot s h c slot target
  ((withdraw h s).modCyl c fun x => { x.enter .discharging with owner := some h, shot := some shot }).modHead h fun x =>
    { x with cycle := .charging, paired := some c, inlets := x.inlets.set c true, flowDetected := false,
             flowTimer := .running (flowDetectTime s.config) }

/-- An offer of a READY cylinder to the oldest request (spec/05 R101, spec/06 R113): a grant where the offer test holds;
else the request leaves, the cycle becomes CHARGED and the dose is judged (spec/07 R131). -/
def offer (h : Fin 16) (c : Fin 4) (s : State) : State :=
  match s.heads[h].record with
  | none => withdraw h s
  | some r =>
    match r.target with
    | none => withdraw h s
    | some t =>
      if (minimumShot s.config : Int) ≤ shotTarget r t - (allowanceOf s r.slot c : Int) then
        grant h c r.slot (shotTarget r t) s
      else
        judgeDose h ((withdraw h s).modHead h fun x => { x with cycle := .charged, pendingResult := none })

/-- The lowest-numbered READY cylinder (spec/05 R101). -/
def lowestReady (s : State) : Option (Fin 4) := allCylinders.find? fun c => s.cylinders[c].state == .ready

/-- At most `n` offers, while the queue holds a request and a cylinder is READY (spec/05 R101). -/
def offers : Nat → State → State
  | 0, s => s
  | n + 1, s =>
    match s.grantQueue, lowestReady s with
    | h :: _, some c => offers n (offer h c s)
    | _, _ => s

/-- The arbiter looks (spec/05 R101). Each offer takes one request off the queue, so its length bounds the offers. -/
def arbitrate (s : State) : State := offers s.grantQueue.length s

/-- The head asks for gas and the arbiter looks (spec/05 R100, R101). -/
def requestGas (h : Fin 16) (s : State) : State := arbitrate (joinQueue h s)

/-! ## The charge decision -/

/-- What the settlement writes (spec/03 R63, spec/06 R111): the basis and target dose of a can left unmarked, basis NONE
of a marked one. -/
def writeBasis (h : Fin 16) (x : Settlement) (rcp : Recipe) (s : State) : State :=
  let s1 := match x with
    | .mass _ _ => s
    | .reason k => addReason h k s
  match x, s1.heads[h].marked with
  | .mass b m, false => modRecord h (fun r => { r with basis := some b, target := some (targetDose rcp m) }) s1
  | _, _ => modRecord h (fun r => { r with basis := some .none }) s1

/-- The charge decision (spec/07 R123, spec/02 R36, spec/03 R62, R63), taken once for each can. -/
def chargeDecision (h : Fin 16) (s : State) : State :=
  match s.heads[h].record with
  | none => s
  | some r =>
    if s.heads[h].decided then s
    else
      let rcp := slotRecipe s r.slot
      let s1 := writeBasis h (settlementOf r rcp) rcp (settleUnbound h r.seq s)
      let s2 := s1.modHead h fun x => { x with decided := true }
      if s2.heads[h].marked then s2.modHead h fun x => { x with cycle := .charged, pendingResult := none }
      else requestGas h s2

/-- The head enters PROBED. The charge decision is taken then if CHARGE_OPEN has passed, and otherwise at CHARGE_OPEN
(spec/02 R36, spec/07 R123, log 16). -/
def enterProbed (h : Fin 16) (s : State) : State :=
  let s1 := s.modHead h fun x => { x with cycle := .probed }
  if s.heads[h].window = .notOpen then s1 else chargeDecision h s1

/-! ## Measurement credit -/

/-- The shot entry of a completed shot (spec/06 R116, spec/03 R64). -/
def shotEntry (c : Fin 4) (x : Shot) : ShotEntry where
  cylinder := c
  startP := x.startP
  cutoff := x.cutoff
  endP := x.endP.getD 0
  temperature := x.temperature
  delivered := x.delivered.getD 0
  short := x.short
  aborted := x.aborted
  backflow := x.backflow
  overRange := x.overRange

/-- The next step after a credit to an unmarked can: a follow-on request, or the judgement; a marked can takes neither
(spec/07 R130, R131). -/
def afterCredit (h : Fin 16) (short : Bool) (s : State) : State :=
  match s.heads[h].record with
  | none => s
  | some r =>
    match r.target with
    | none => s
    | some t =>
      if r.marked then s
      else if short ∧ r.shots.length < maxShots (slotRecipe s r.slot) ∧ s.heads[h].window = .isOpen ∧
          (minimumShot s.config : Int) ≤ shotTarget r t then
        requestGas h s
      else judgeDose h s

/-- A completed shot is handed to its owner head, which credits it only if its pending result names the cylinder (spec/07
R129). -/
def credit (h : Fin 16) (c : Fin 4) (x : Shot) (s : State) : State :=
  if s.heads[h].pendingResult = some c then
    let s1 := (modRecord h (fun r =>
      { r with shots := r.shots ++ [shotEntry c x], total := r.total + x.delivered.getD 0 }) s).modHead h fun y =>
        { y with pendingResult := none }
    afterCredit h x.short s1
  else s

/-- The cylinder's next state after a measurement (spec/05 R96 step 6). -/
def afterMeasuring (c : Fin 4) (s : State) : State :=
  if s.cylinders[c].disablePending then completeDisable c s else enterIdle c s

/-- A measurement completes (spec/05 R96, spec/06 R116, R119). -/
def completeMeasurement (c : Fin 4) (s : State) : State :=
  match s.cylinders[c].shot with
  | none => afterMeasuring c (s.modCyl c fun x => { x with owner := none })
  | some x =>
    let p2 := s.cylinders[c].pressure
    let dd := deliveredMass x.backflow x.startDensity (density s.gasTable p2) x.temperature x.volume
    let shot : Shot := { x with endP := some p2, endOver := s.cylinders[c].overRange, delivered := some dd }
    let s1 := match s.cylinders[c].owner with
      | some h => credit h c shot s
      | none => s
    let s2 := adapt c shot dd (s1.modCyl c fun y => { y with lastShot := some shot })
    afterMeasuring c (s2.modCyl c fun y => { y with owner := none, shot := none })

/-! ## Flow, and the ends a reading gives -/

/-- The tests of one reading of a DISCHARGING cylinder against its shot: flow, backflow, cut-off, in this order (spec/07
R125, R127). -/
def dischargeReading (c : Fin 4) (h : Fin 16) (x : Shot) (s : State) : State :=
  let p : Int := s.cylinders[c].pressure
  let s1 :=
    if s.heads[h].flowDetected = false ∧ p ≤ (x.startP : Int) - (flowThreshold s.config : Int) then
      s.modHead h fun y => { y with flowDetected := true, flowTimer := .stopped, noFlowCount := 0 }
    else s
  if (x.startP : Int) + (backflowThreshold s.config : Int) < p then addReason h .backflow (endDischarge c .backflow s1)
  else if p ≤ (x.cutoff : Int) then endDischarge c .cutoff s1
  else s1

/-! ## The end of the charge window -/

/-- A probe still running is ended without a result (spec/04 R78, R79). -/
def endProbe (h : Fin 16) (s : State) : State :=
  s.modHead h fun x => { x with probeValve := false, probeTimer := .stopped, probeStep := .idle, pa := none }

/-- The table of CHARGE_CLOSE (spec/02 R37, spec/07 R132, spec/04 R78): the window becomes CLOSED and the head acts on its
cycle state. -/
def closeWindow (h : Fin 16) (s : State) : State :=
  let s1 := s.modHead h fun x => { x with window := .closed }
  match s.heads[h].cycle with
  | .probing => enterProbed h (addReason h .probeLate (endProbe h s1))
  | .waiting =>
    let s2 := (withdraw h s1).modHead h fun x => { x with cycle := .charged, pendingResult := none }
    if ((s.heads[h].record.map CanRecord.shots).getD []).isEmpty then addReason h .noCharge s2 else judgeDose h s2
  | .charging =>
    match s.heads[h].paired with
    | some c => endDischarge c .chargeClose s1
    | none => s1
  | .empty | .seated | .crimped | .probed | .charged | .dwelling | .lifted => s1

/-- A charge decision not taken by CHARGE_CLOSE, DWELL, LIFT or OUTFEED is taken there, after NO_CHARGE (spec/02 R37). -/
def lateDecision (h : Fin 16) (s : State) : State :=
  if s.heads[h].holdsCan ∧ s.heads[h].decided = false then chargeDecision h (addReason h .noCharge s) else s

/-- What a head holding a can does at DWELL, LIFT and OUTFEED before that phase's own rule, when a slip has taken its
CHARGE_CLOSE or its charge decision out of the revolution (spec/02 R37). -/
def catchUp (h : Fin 16) (s : State) : State :=
  if s.heads[h].holdsCan then
    lateDecision h (if s.heads[h].window = .closed then s else closeWindow h s)
  else s

end Sys2Proof.Machine
end

