-- ==== Sys2Proof/Machine/GasSupply.lean ====
section
/-! DEFINITION. The gas supply monitor: throttle, held gas temperature, standby and wake (spec/05 R102 to R105). -/

namespace Sys2Proof.Machine

/-- Standby is entered: the gas-economy line is asserted (spec/05 R104). -/
def enterStandby (s : State) : State := s.modGas fun g => { g with standby := .standby, economy := true }

/-- A wake begins in STANDBY: WAKING, the economy line released, WAKE set and the wake timer started (spec/05 R105). -/
def beginWake (s : State) : State :=
  if s.gas.standby = .standby then
    (s.modGas fun g =>
      { g with standby := .waking, economy := false, wakeTimer := .running (wakeWait s.config) }).modWithhold fun w =>
        { w with wake := true }
  else s

/-- An admission notice from the gate decision restarts the idle timer, and begins a wake in STANDBY (spec/05 R104,
R105). -/
def admissionNotice (s : State) : State :=
  beginWake (s.modGas fun g => { g with idleTimer := .running (idleDelay s.config) })

/-- Each IDLE cylinder, and each READY cylinder below the top-up band, enters REFILLING where the refill condition holds
(spec/05 R89, R93, R105). -/
def refillBank (s : State) : State := allCylinders.foldl (fun s c => topUp c (refillIdle c s)) s

/-- A wake completes once the wake timer has expired and the throttle is OFF (spec/05 R105). -/
def completeWake (s : State) : State :=
  if s.gas.standby = .waking ∧ s.gas.wakeTimer = .expired ∧ s.gas.throttleOn = false then
    refillBank ((s.modGas fun g =>
      { g with standby := .active, wakeTimer := .stopped, idleTimer := .running (idleDelay s.config) }).modWithhold fun w =>
        { w with wake := false })
  else s

/-- The throttle is tested at a buffer reading (spec/05 R102); the change to OFF may complete a wake (R105). -/
def bufferAct (raw : Int) (s : State) : State :=
  let p := clampReading 6000 raw
  let s1 := s.modGas fun g => { g with buffer := p }
  if s.gas.throttleOn then
    if throttleOff s.config ≤ p then
      completeWake ((s1.modGas fun g => { g with throttleOn := false }).modWithhold fun w => { w with gas := false })
    else s1
  else if p < throttleOn s.config then
    setCondition .bufferLow ((s1.modGas fun g => { g with throttleOn := true }).modWithhold fun w => { w with gas := true })
  else s1

/-- A reading of the gas temperature sensor from −400 to +800 is good; one outside, or an open sensor, is faulty (spec/05
R103). -/
def temperatureAct (reading : Option Int) (s : State) : State :=
  let faulty (s : State) : State :=
    if s.gas.tempGood then s.modGas fun g => { g with tempGood := false, holdTimer := .running (tempHoldLimit s.config) }
    else s
  match reading with
  | some t =>
    if -400 ≤ t ∧ t ≤ 800 then
      (s.modGas fun g => { g with heldTemp := t, tempGood := true, holdTimer := .stopped }).modWithhold fun w =>
        { w with temp := false }
    else faulty s
  | none => faulty s

end Sys2Proof.Machine
end

