-- ==== Sys2Proof/Machine/Infeed.lean ====
section
/-! DEFINITION. The infeed block: the binding of fill entries, the application of fill reports, the creation of can
records and the gate decision (spec/03). -/

namespace Sys2Proof.Machine

/-- A fill entry is bound to a record: a real entry writes its tag and mass, a placeholder marks it bound to a lost entry
(spec/03 R54, R58). -/
def CanRecord.bind (r : CanRecord) (e : FillEntry) : CanRecord :=
  match e.mass with
  | some m => { r with tag := some e.tag, fillMass := some m }
  | none => { r with boundLost := true }

/-- What one fill report did, for its reply (spec/03 R59). -/
structure FillTally where
  discarded : Nat
  bound     : Nat
  lastSeq   : Nat
  joined    : Nat
deriving DecidableEq, Repr

/-- One entry of an accepted report is discarded against the debt, bound to the oldest awaiting can, or queued (spec/03
R58); the cans noted as settled that come to the head of the list then leave it, and the debt rises for them and for those
the bound can stood before (R62, log 18). -/
def applyEntry (x : State × FillTally) (e : FillEntry) : State × FillTally :=
  let s := x.1
  let t := x.2
  if 0 < s.infeed.debt then
    let s1 := s.modInfeed fun i => { i with debt := i.debt - 1 }
    (if e.mass.isSome then setCondition .lateFill s1 else s1, { t with discarded := t.discarded + 1 })
  else
    match s.infeed.awaiting with
    | a :: rest =>
      let bindTo (y : Head) : Head :=
        { y with record := y.record.map fun r => if r.seq = a.seq then r.bind e else r }
      (releaseSettled a.owed ((s.modInfeed fun i => { i with awaiting := rest }).modHead a.head bindTo),
        { t with bound := t.bound + 1, lastSeq := a.seq })
    | [] => (s.modInfeed fun i => { i with fillQueue := i.fillQueue ++ [e] }, { t with joined := t.joined + 1 })

/-- The number of reports a tag stands ahead of the expected tag, 0 where that is unset (spec/03 R55). -/
def skipped (expected : Option Nat) (tag : Nat) : Nat :=
  match expected with
  | none => 0
  | some e => (tag + 65536 - e) % 65536

/-- The entries of an accepted report: its placeholders from the expected tag on, then its real entry (spec/03 R56). -/
def reportEntries (tag mass : Nat) (k : Nat) : List FillEntry :=
  ((List.range k).map fun i => ({ tag := (tag + 65536 - k + i) % 65536, mass := none } : FillEntry)) ++
    [{ tag := tag, mass := some mass }]

/-- The entries of a report of `n` entries that would join the queue (spec/03 R57). -/
def queueBound (i : Infeed) (n : Nat) : Nat := n - (i.debt + i.awaiting.length)

/-- The report fits the fill report queue (spec/03 R57). -/
def fillFits (i : Infeed) (n : Nat) : Bool := decide (queueBound i n + i.fillQueue.length ≤ fillRoom)

/-- The number after a sequence number (spec/03 R53). -/
def nextSequence (n : Nat) : Nat := if n = lastSequence then 1 else n + 1

/-- A new can record (spec/03 R54). -/
def newRecord (s : State) (h : Fin 16) (slot : Fin 2) : CanRecord where
  seq := s.infeed.nextSeq
  head := h
  slot := slot
  recipeId := recipeId (slotRecipe s slot)
  tag := none
  fillMass := none
  boundLost := false
  basis := none
  target := none
  shots := []
  total := 0
  depth := none
  diameter := none
  probeDecay := none
  dwellDecay := none
  reasons := []
  more := false
  verdict := none

/-- The new record is bound to the oldest fill entry, or its can joins the awaiting list (spec/03 R54), and the head
takes it: SEATED (spec/02 R32). -/
def createRecord (h : Fin 16) (slot : Fin 2) (s : State) : State :=
  let r := newRecord s h slot
  let s1 := (s.modInfeed fun i => { i with nextSeq := nextSequence i.nextSeq }).modSlot slot fun x =>
    { x with refs := x.refs + 1 }
  let give (r : CanRecord) (s : State) : State := s.modHead h fun x => { x with record := some r, cycle := .seated }
  match s.infeed.fillQueue with
  | e :: rest => give (r.bind e) (s1.modInfeed fun i => { i with fillQueue := rest })
  | [] => give r (s1.modInfeed fun i => { i with awaiting := i.awaiting ++ [{ head := h, seq := r.seq, settled := false, owed := 0 }] })

/-- What the service state does with a can taken at INFEED (spec/02 R32). -/
def takeCan (h : Fin 16) (s : State) : State :=
  match s.heads[h].service with
  | .enabled | .disabling => s
  | .zeroing | .outOfService => addReason h .headFault s
  | .disabled =>
    headReport h .disableRequest
      ((addReason h .headFault s).modHead h fun x => { x with service := .disabling, returnState := some .zeroing })

/-- A DISABLING head still EMPTY once its INFEED has been taken enters DISABLED (spec/02 R25). -/
def emptyInfeed (h : Fin 16) (s : State) : State :=
  if s.heads[h].service = .disabling ∧ s.heads[h].cycle = .empty then
    headReport h .disableComplete
      (s.modHead h fun x => { x with service := .disabled, returnState := none, ventValve := false })
  else s

/-- The pocket of a head is met at INFEED (spec/03 R52): its admission is used, and a can present is recorded if the
pocket was admitted, or if a slot is ACTIVE and room remains; a stray can without a record is counted. -/
def meetPocket (h : Fin 16) (s : State) : State :=
  let admitted := s.infeed.admitted[h]
  let s1 := s.modInfeed fun i => { i with admitted := i.admitted.set h false }
  if s.sensors.pocket then
    match activeSlot s1 with
    | some slot =>
      if admitted ∨ roomTaken s1 < logRoom then takeCan h (createRecord h slot s1)
      else emptyInfeed h (s1.modInfeed fun i => { i with strayCount := min countLimit (i.strayCount + 1) })
    | none => emptyInfeed h (s1.modInfeed fun i => { i with strayCount := min countLimit (i.strayCount + 1) })
  else emptyInfeed h s1

/-- The gate decision admits a can to the head's coming pocket (spec/03 R50). -/
def gateAdmits (h : Fin 16) (s : State) : Bool :=
  !s.infeed.withhold.any && s.heads[h].service == .enabled && s.heads[h].cycle == .empty && decide (roomTaken s < logRoom)

end Sys2Proof.Machine
end

