-- ==== Sys2Proof/Machine/Verdicts.lean ====
section
/-! DEFINITION. The verdict unit: the verdict and the log, the reject queue and the gate, and the slip notice (spec/08
R139 to R147); and the retirement of a slot (spec/09 R158). -/

namespace Sys2Proof.Machine

/-- GOOD when the reason list is empty and more is no, else REJECT (spec/08 R139). -/
def verdictOf (r : CanRecord) : Verdict := if r.reasons.isEmpty && !r.more then .good else .reject

/-- The verdict unit takes a record handed on at OUTFEED: verdict written, record appended to the log, and a REJECT booked
at the present absolute position plus the reject distance (spec/08 R139 to R141). DESIGN CHOICE: the queue takes a ninth entry,
and two at one due position, where hand-ons at INFEED bring them about (log 28). -/
def takeRecord (r : CanRecord) (s : State) : State :=
  let v := verdictOf r
  let entry : RejectEntry :=
    { seq := r.seq, due := s.tracker.absolute + rejectDistance s.config, fired := false, confirmEnd := none }
  s.modVerdicts fun u =>
    { u with log := u.log ++ [{ r with verdict := some v }]
             rejects := if v = .reject then u.rejects ++ [entry] else u.rejects }

/-- A slot loses a reference; a RETIRING slot whose count falls to 0 becomes FREE, its record gone and its allowances 0
(spec/09 R152, R158). -/
def dropReference (i : Fin 2) (s : State) : State :=
  let s1 := s.modSlot i fun x => { x with refs := x.refs - 1 }
  if s1.slots[i].state = .retiring ∧ s1.slots[i].refs = 0 then
    (s1.modSlot i fun x => { x with state := .free, recipe := none }).setSlotAllowances i 0
  else s1

/-- A FIRED entry whose confirm end is the present absolute position leaves unconfirmed, and REJECT_UNCONFIRMED is set
(spec/08 R145). -/
def reachConfirmEnds (s : State) : State :=
  let hit (e : RejectEntry) : Bool := e.fired && decide (e.confirmEnd = some s.tracker.absolute)
  if s.verdicts.rejects.any hit then
    setCondition .rejectUnconfirmed (s.modVerdicts fun u => { u with rejects := u.rejects.filter fun e => !hit e })
  else s

/-- A QUEUED entry whose due position is the present absolute position fires: gate on, pulse timer started, FIRED with its
confirm end (spec/08 R142). Two entries with that due position fire together (log 28). -/
def fireRejects (s : State) : State :=
  let due (e : RejectEntry) : Bool := !e.fired && decide (e.due = s.tracker.absolute)
  if s.verdicts.rejects.any due then
    s.modVerdicts fun u =>
      { u with gateOn := true, gateTimer := .running (gatePulse s.config)
               rejects := u.rejects.map fun e =>
                 if due e then { e with fired := true, confirmEnd := some (e.due + confirmWindow s.config) } else e }
  else s

/-- What the verdict unit does at an absolute position the turret is raised onto (spec/08 R142, R145). -/
def verdictPosition (s : State) : State := fireRejects (reachConfirmEnds s)

/-- The slip notice: every reject entry is discarded and REJECT_LOST is set (spec/08 R146). -/
def verdictSlip (s : State) : State := setCondition .rejectLost (s.modVerdicts fun u => { u with rejects := [] })

/-- The queue without its first FIRED entry (spec/08 R144). Of two FIRED entries the older leaves alone (log 28). -/
def withoutFired : List RejectEntry → List RejectEntry
  | [] => []
  | e :: es => if e.fired then es else e :: withoutFired es

end Sys2Proof.Machine
end

