-- ==== Sys2Proof/Machine/Stations.lean ====
section
/-! DEFINITION. What a head does at each of its thirteen station phases (spec/02 R32 to R41, spec/03 R50 to R52, spec/04
R72 to R83, spec/07 R123, R132 to R135), and its entry to OUT_OF_SERVICE (spec/02 R27). -/

namespace Sys2Proof.Machine

/-- The corrected pressure of a head's transducer as it stands (spec/04 R70). -/
def headPressure (s : State) (h : Fin 16) : Nat := correctedPressure s.sensors.heads[h].pressure s.heads[h].zeroOffset

/-- Entry to OUT_OF_SERVICE (spec/02 R27): the request is withdrawn, a held can gains HEAD_FAULT, HEAD_OUT_OF_SERVICE is
set, and a HEAD report is sent. A pending disable is dropped (R25). -/
def enterOutOfService (h : Fin 16) (cause : HeadCause) (s : State) : State :=
  let s1 := addReason h .headFault (withdraw h s)
  let s2 := s1.modHead h fun x => { x with service := .outOfService, returnState := none }
  headReport h cause (setCondition .headOutOfService s2)

/-- INFEED (spec/02 R32, R41, spec/03 R52, spec/07 R138), for a head that has handed on any record it still held: the
vent closes, the charge items stand ready for the can that may arrive, and the pocket is met. -/
def infeedStation (h : Fin 16) (s : State) : State :=
  meetPocket h (s.modHead h fun x =>
    { x with ventValve := false, window := .notOpen, decided := false, flowDetected := false })

/-- SEAT: a head holding a SEATED can gives head-down (spec/02 R33). -/
def seatStation (h : Fin 16) (s : State) : State :=
  if s.heads[h].holdsCan ∧ s.heads[h].cycle = .seated then s.modHead h fun x => { x with headDown := true } else s

/-- CRIMP: a head holding a SEATED can closes its collet (spec/02 R33). -/
def crimpStation (h : Fin 16) (s : State) : State :=
  if s.heads[h].holdsCan ∧ s.heads[h].cycle = .seated then s.modHead h fun x => { x with collet := true } else s

/-- The reasons of the crimp tests, in test order (spec/04 R73). -/
def crimpReasons (r : Recipe) (depth diameter : Nat) : List Reason :=
  (if noCupDepth r ≤ depth then [Reason.noCup] else []) ++
  (if depth < depthMin r then [.crimpShallow] else []) ++
  (if depthMax r < depth then [.crimpDeep] else []) ++
  (if depth < noCupDepth r ∧ (diameter < diameterMin r ∨ diameterMax r < diameter) then [.crimpDiameter] else [])

/-- CRIMP_READ: the gauges of a SEATED can are read, clamped, written and tested; the collet opens; CRIMPED (spec/04 R72,
R73, spec/02 R34). -/
def crimpReadStation (h : Fin 16) (s : State) : State :=
  if s.heads[h].holdsCan ∧ s.heads[h].cycle = .seated then
    let depth := clampReading 9999 s.sensors.heads[h].depth
    let diameter := clampReading 9999 s.sensors.heads[h].diameter
    let rcp := headRecipe s h
    let s1 := modRecord h (fun r =>
      { r with depth := some depth, diameter := if depth < noCupDepth rcp then some diameter else r.diameter }) s
    let s2 := (crimpReasons rcp depth diameter).foldl (fun s k => addReason h k s) s1
    s2.modHead h fun x => { x with collet := false, cycle := .crimped }
  else s

/-- PROBE: an unmarked CRIMPED can starts the leak probe, a marked one is PROBED at once (spec/04 R74, R75, spec/02
R35). -/
def probeStation (h : Fin 16) (s : State) : State :=
  if s.heads[h].holdsCan ∧ s.heads[h].cycle = .crimped then
    if s.heads[h].marked then enterProbed h s
    else
      let rcp := headRecipe s h
      let p := headPressure s h
      if probePressure rcp ≤ p then
        s.modHead h fun x =>
          { x with cycle := .probing, probeStep := .hold, pa := some p, probeTimer := .hold (probeHold rcp) }
      else
        s.modHead h fun x =>
          { x with cycle := .probing, probeStep := .build, probeValve := true, probeTimer := .build buildTimeout }
  else s

/-- CHARGE_OPEN: the window opens, and a PROBED can takes its charge decision (spec/07 R123). -/
def chargeOpenStation (h : Fin 16) (s : State) : State :=
  let s1 := s.modHead h fun x => { x with window := .isOpen }
  if s.heads[h].holdsCan ∧ s.heads[h].decided = false ∧ s.heads[h].cycle = .probed then chargeDecision h s1 else s1

/-- CHARGE_CLOSE: the window closes by its table, and a decision not yet taken is taken after NO_CHARGE (spec/02 R37,
spec/07 R132). -/
def chargeCloseStation (h : Fin 16) (s : State) : State := lateDecision h (closeWindow h s)

/-- DWELL: an unmarked CHARGED can starts the dwell test, a marked one is DWELLING at once (spec/07 R134, spec/02 R38). -/
def dwellStation (h : Fin 16) (s : State) : State :=
  let s1 := catchUp h s
  if s1.heads[h].holdsCan ∧ s1.heads[h].cycle = .charged then
    if s1.heads[h].marked then s1.modHead h fun x => { x with cycle := .dwelling }
    else s1.modHead h fun x =>
      { x with cycle := .dwelling, firstDwell := some (headPressure s1 h),
               dwellTimer := .running (dwellTime (headRecipe s1 h)) }
  else s1

/-- LIFT: a dwell test still running ends with DWELL_SHORT, head-down is released, LIFTED (spec/07 R135, spec/02 R39). A timer
that stands on from the can before counts as one (log 17). -/
def liftStation (h : Fin 16) (s : State) : State :=
  let s1 := catchUp h s
  if s1.heads[h].holdsCan then
    let s2 :=
      if s1.heads[h].dwellTimer.isRunning then
        addReason h .dwellShort (s1.modHead h fun x => { x with dwellTimer := .stopped, firstDwell := none })
      else s1
    s2.modHead h fun x => { x with headDown := false, cycle := .lifted }
  else s1

/-- A pending result still standing at OUTFEED gives DOSE_UNKNOWN and is dropped (spec/02 R40, spec/07 R133). -/
def doseUnknown (h : Fin 16) (s : State) : State :=
  if s.heads[h].pendingResult.isSome then
    (addReason h .doseUnknown s).modHead h fun x => { x with pendingResult := none }
  else s

/-- The record is handed to the verdict unit, the can stands in the awaiting list no more (spec/03 R61), the head is EMPTY, a
DISABLING head completes its disable, and the slot loses a reference (spec/02 R40, R25). DEDUCED: where a slip took the can's
LIFT out, its dwell timer and first sample stand on (log 17); where one took its CRIMP_READ out, its collet stays closed (log
27). -/
def handOn (h : Fin 16) (s : State) : State :=
  match s.heads[h].record with
  | none => s
  | some r =>
    let s0 := departAwaiting h r.seq s
    let s1 := takeRecord r (s0.modHead h fun x => { x with record := none, cycle := .empty, headDown := false })
    let s2 :=
      if s.heads[h].service = .disabling then
        headReport h .disableComplete
          (s1.modHead h fun x => { x with service := .disabled, returnState := none, ventValve := false })
      else s1
    dropReference r.slot s2

/-- OUTFEED (spec/02 R40, R37). -/
def outfeedStation (h : Fin 16) (s : State) : State :=
  if s.heads[h].holdsCan then handOn h (doseUnknown h (catchUp h s)) else s

/-- The service states whose heads vent and zero (spec/02 R21). -/
def Service.vents : Service → Bool
  | .enabled | .disabling | .zeroing => true
  | .disabled | .outOfService => false

/-- VENT: an EMPTY head in ENABLED, DISABLING or ZEROING opens its vent (spec/02 R41). -/
def ventStation (h : Fin 16) (s : State) : State :=
  if s.heads[h].cycle = .empty ∧ s.heads[h].service.vents then s.modHead h fun x => { x with ventValve := true } else s

/-- A zero sample inside the window (spec/04 R81): the offset becomes the difference and the zero counter 0; a ZEROING
head enters ENABLED, with a report (spec/02 R28). -/
def goodZero (h : Fin 16) (diff : Int) (s : State) : State :=
  let s1 := s.modHead h fun x => { x with ventValve := false, zeroOffset := diff, zeroCount := 0 }
  if s.heads[h].service = .zeroing then headReport h .zeroGood (s1.modHead h fun x => { x with service := .enabled })
  else s1

/-- A zero sample outside the window (spec/04 R81): the zero counter rises, and at 3 the head is OUT_OF_SERVICE. -/
def badZero (h : Fin 16) (s : State) : State :=
  let n := min faultLimit (s.heads[h].zeroCount + 1)
  let s1 := s.modHead h fun x => { x with ventValve := false, zeroCount := n }
  if n = faultLimit then enterOutOfService h .zeroLimit s1 else s1

/-- ZERO: an EMPTY head in ENABLED, DISABLING or ZEROING samples its raw pressure, closes its vent and tests the sample
(spec/04 R81, R83). -/
def zeroStation (h : Fin 16) (s : State) : State :=
  if s.heads[h].cycle = .empty ∧ s.heads[h].service.vents then
    let diff : Int := (rawHeadPressure s.sensors.heads[h].pressure : Int) - (atmosphere s.config : Int)
    if -(zeroWindow s.config : Int) ≤ diff ∧ diff ≤ (zeroWindow s.config : Int) then goodZero h diff s else badZero h s
  else s

/-- GATE: the gate decision for the head's coming pocket (spec/03 R50, R51). -/
def gateStation (h : Fin 16) (s : State) : State :=
  if gateAdmits h s then
    admissionNotice (s.modInfeed fun i => { i with admitted := i.admitted.set h true, gateOpen := true })
  else s.modInfeed fun i => { i with admitted := i.admitted.set h false, gateOpen := false }

/-- A station phase of a head (spec/01 R14). -/
def stationPhase (h : Fin 16) : Station → State → State
  | .infeed, s => infeedStation h (outfeedStation h s)
  | .seat, s => seatStation h s
  | .crimp, s => crimpStation h s
  | .crimpRead, s => crimpReadStation h s
  | .probe, s => probeStation h s
  | .chargeOpen, s => chargeOpenStation h s
  | .chargeClose, s => chargeCloseStation h s
  | .dwell, s => dwellStation h s
  | .lift, s => liftStation h s
  | .outfeed, s => outfeedStation h s
  | .vent, s => ventStation h s
  | .zero, s => zeroStation h s
  | .gate, s => gateStation h s

end Sys2Proof.Machine
end

