-- ==== Sys2Proof/Machine/Layouts.lean ====
section
/-! DEFINITION. The contents of READ replies and of taken verdicts, item by item (spec/11 R178, R187, R188 and the reading
rules of each chapter). Where the spec leaves a layout open the choice is logs 13 and 15. -/

namespace Sys2Proof.Machine

/-- A shot entry of 11 bytes (spec/11 R187). -/
def shotEntryBytes (e : ShotEntry) : List Byte :=
  item 1 (e.cylinder.val + (if e.short then 4 else 0) + (if e.aborted then 8 else 0) + (if e.backflow then 16 else 0) +
    (if e.overRange then 32 else 0)) ++
  item 2 e.startP ++ item 2 e.cutoff ++ item 2 e.endP ++ signedItem e.temperature ++ item 2 e.delivered

/-- The three places for shot entries; a place beyond the list is all zero (spec/11 R187). -/
def shotPlaces (shots : List ShotEntry) : List Byte :=
  [0, 1, 2].flatMap fun i => match shots[i]? with
    | some e => shotEntryBytes e
    | none => List.replicate 11 0

/-- The four places for reasons; 0 for an empty place (spec/11 R187). -/
def reasonPlaces (rs : List Reason) : List Byte :=
  [0, 1, 2, 3].flatMap fun i => item 1 (((rs[i]?).map Reason.code).getD 0)

/-- A can record in its 58-byte form (spec/11 R187). -/
def recordBytes (r : CanRecord) : List Byte :=
  item 3 r.seq ++
  item 1 (r.head.val + 16 * r.slot.val + (if r.verdict = some .reject then 32 else 0) + (if r.more then 64 else 0) +
    (if r.boundLost then 128 else 0)) ++
  item 2 r.recipeId ++ itemOr 2 r.tag ++
  item 2 (match r.fillMass with | some m => m % 16384 + 32768 | none => 0) ++
  item 1 (basisCode r.basis + 4 * r.shots.length) ++ item 2 (r.target.getD 0) ++ itemOr 2 r.depth ++ itemOr 2 r.diameter ++
  signedOr r.probeDecay ++ signedOr r.dwellDecay ++ reasonPlaces r.reasons ++ shotPlaces r.shots

/-- The probe timer of a head with the reading of its transducer and gauges (spec/04 R85). The step of the probe timer is 0 for
the build, 1 for the hold and 2 with the timer not running (log 13); the gauges' depth and diameter take 2 bytes each (log 15). -/
def inspectionItems (s : State) (h : Fin 16) : List Byte :=
  let x := s.heads[h]
  item 2 (rawHeadPressure s.sensors.heads[h].pressure) ++ item 2 (headPressure s h) ++
  item 2 (clampReading 9999 s.sensors.heads[h].depth) ++ item 2 (clampReading 9999 s.sensors.heads[h].diameter) ++
  item 1 x.probeStep.code ++ item 1 x.probeTimer.code ++ flag x.probeTimer.isRunning ++
  itemOr 2 (if x.probeStep = .hold then x.pa else none)

/-- READ HEAD: the items of spec/02 R46, spec/04 R85 and spec/07 R137, in that order. The return state is sent as the code of
the service state it names, ENABLED 0 and ZEROING 3 (log 13). -/
def headItems (s : State) (h : Fin 16) : List Byte :=
  let x := s.heads[h]
  item 1 x.service.code ++ itemOr 1 (x.returnState.map fun r => r.service.code) ++ item 1 x.cycle.code ++
  itemOr 1 (x.paired.map Fin.val) ++ itemOr 1 (x.pendingResult.map Fin.val) ++ signedItem x.zeroOffset ++
  item 1 x.noFlowCount ++ item 1 x.zeroCount ++
  flag x.probeTimer.isRunning ++ flag x.dwellTimer.isRunning ++ flag x.flowTimer.isRunning ++
  flag x.headDown ++ flag x.collet ++ flag x.probeValve ++ flag x.ventValve ++ x.inlets.toList.flatMap flag ++
  flag x.holdsCan ++ ((x.record.map recordBytes).getD []) ++
  inspectionItems s h ++
  item 1 x.window.code ++ flag x.decided ++ flag x.flowDetected ++ itemOr 2 x.firstDwell

/-- A shot record with the fields written so far, after a presence byte (spec/05 R107, spec/06 R121); the end pressure with
its mark, the delivered mass and the cause are absent until they are written, and the flag OVER_RANGE of spec/06 R116 comes
last. -/
def shotItems : Option Shot → List Byte
  | none => [0]
  | some x =>
    [1] ++ item 1 x.owner.val ++ item 1 x.slot.val ++ item 2 x.startP ++ flag x.startOver ++ item 2 x.cutoff ++ flag x.short ++
    signedItem x.temperature ++ itemOr 1 (x.cause.map EndCause.code) ++ flag x.aborted ++ flag x.backflow ++ itemOr 2 x.endP ++
    itemOr 1 (x.endP.map fun _ => if x.endOver then 1 else 0) ++ itemOr 2 x.delivered ++ flag x.overRange

/-- What the dose calculator keeps with a shot in flight (spec/06 R121): the volume in 2 bytes, and nothing with no shot in
flight (log 15); the adaptation right as yes or no, 1 while it is kept (log 13). -/
def shotDoseItems : Option Shot → List Byte
  | none => []
  | some x => item 2 x.startDensity.toNat ++ item 2 x.volume ++ item 2 x.target.toNat ++ flag x.mayAdapt

/-- READ CYLINDER: the items of spec/05 R107, then those of spec/06 R121. Log 15: the running timers are three bytes of yes or
no, refill, retry, settle; an item that both rules list is carried once, in the part of R107. -/
def cylinderItems (s : State) (c : Fin 4) : List Byte :=
  let x := s.cylinders[c]
  item 1 x.state.code ++ item 2 x.pressure ++ flag x.overRange ++ item 1 x.failures ++ flag x.disablePending ++
  itemOr 1 (x.owner.map Fin.val) ++ shotItems x.shot ++ shotItems x.lastShot ++
  flag x.refillTimer.isRunning ++ flag x.retryTimer.isRunning ++ flag x.settleTimer.isRunning ++
  flag x.refillValve ++ flag x.dischargeValve ++
  item 2 (density s.gasTable x.pressure).toNat ++ shotDoseItems x.shot

/-- The tracker's part of STATUS (spec/01 R19). -/
def trackerItems (t : Tracker) : List Byte :=
  item 1 t.source.code ++ item 1 t.state.code ++ item 1 t.motion.code ++ item 2 t.position ++ item 4 t.revolution ++
  item 2 (t.highWater % countsPerRev) ++ signedItem t.interval ++ item 1 (firstIndexCode t.firstIndexSeen)

/-- The infeed block's part of STATUS (spec/03 R67). -/
def infeedStatusItems (s : State) : List Byte :=
  withholdItem s ++ item 1 s.infeed.debt ++ expectedTagItem s.infeed.expectedTag ++ item 2 s.infeed.strayCount ++
  item 1 s.infeed.fillQueue.length ++ item 1 s.infeed.awaiting.length

/-- The gas supply monitor's part of STATUS (spec/05 R107). The temperature hold timer, like the idle and wake timers, is 0
running, 1 expired, 2 not running (log 13). -/
def gasItems (s : State) : List Byte :=
  let g := s.gas
  item 2 g.buffer ++ item 1 (throttleCode g.throttleOn) ++ signedItem g.heldTemp ++ item 1 (tempStateCode g.tempGood) ++
  item 1 g.holdTimer.code ++ item 1 g.standby.code ++ flag g.economy ++ item 1 g.idleTimer.code ++ item 1 g.wakeTimer.code ++
  s.cylinders.toList.flatMap fun c => item 1 c.state.code

/-- The verdict unit's part of STATUS (spec/08 R150). -/
def verdictStatusItems (u : VerdictUnit) : List Byte :=
  item 1 u.log.length ++ item 1 u.rejects.length ++ item 2 u.unmatched

/-- The recipe store's part of STATUS (spec/09 R160): states, recipe ids, reference counts. -/
def slotStatusItems (s : State) : List Byte :=
  s.slots.toList.flatMap (fun x => item 1 x.state.code) ++
  s.slots.toList.flatMap (fun x => itemOr 2 (x.recipe.map recipeId)) ++
  s.slots.toList.flatMap (fun x => item 1 x.refs)

/-- The condition set's part of STATUS (spec/10 R171). The cause-present inputs are one set of 2 bytes over all twelve condition
numbers, 0 where a condition has none (log 15). -/
def conditionStatusItems (s : State) : List Byte :=
  conditionsItem s.conds ++ setItem (conditions.map (causePresent s)) ++ item 2 s.conds.mask.toNat ++ flag s.conds.stopLine

/-- READ STATUS, chapter by chapter (spec/11 R178, log 15). -/
def statusItems (s : State) : List Byte :=
  trackerItems s.tracker ++ infeedStatusItems s ++ gasItems s ++ verdictStatusItems s.verdicts ++ slotStatusItems s ++
  conditionStatusItems s

/-- A list preceded by one byte with the number of its entries (spec/11 R188). -/
def counted {α : Type} (f : α → List Byte) (l : List α) : List Byte := item 1 l.length ++ l.flatMap f

/-- A fill entry: tag, then mass or, for a placeholder, FFFFh (spec/11 R188). -/
def fillEntryBytes (e : FillEntry) : List Byte := item 2 e.tag ++ itemOr 2 e.mass

/-- A reject entry (spec/08 R150, spec/11 R188): its confirm end as the distance above the due position. -/
def rejectEntryBytes (e : RejectEntry) : List Byte :=
  item 3 e.seq ++ item 6 e.due ++ item 1 (entryStateCode e.fired) ++ item 1 ((e.confirmEnd.map (· - e.due)).getD 0)

/-- READ QUEUES section 0 (spec/11 R178, spec/03 R67). -/
def queues0 (s : State) : List Byte :=
  withholdItem s ++ setItem s.infeed.admitted.toList ++ flag s.infeed.gateOpen ++
  counted fillEntryBytes s.infeed.fillQueue ++ item 1 s.infeed.debt ++ expectedTagItem s.infeed.expectedTag ++
  item 3 s.infeed.nextSeq ++ item 2 s.infeed.strayCount

/-- READ QUEUES section 1 (spec/11 R178, spec/03 R67, spec/05 R100). -/
def queues1 (s : State) : List Byte :=
  counted (fun e : AwaitEntry => item 1 e.head.val ++ item 3 e.seq) s.infeed.awaiting ++
  counted (fun h : Fin 16 => item 1 h.val) s.grantQueue

/-- READ QUEUES section 2 (spec/11 R178, spec/08 R150). -/
def queues2 (s : State) : List Byte :=
  let u := s.verdicts
  item 1 u.log.length ++ item 3 ((u.log.head?.map CanRecord.seq).getD 0) ++ item 3 ((u.log.getLast?.map CanRecord.seq).getD 0) ++
  counted rejectEntryBytes u.rejects ++ flag u.gateOn ++ flag u.gateTimer.isRunning ++ item 2 u.unmatched

/-- READ RECIPE (spec/09 R160): state, reference count and, unless FREE, the 25 fields. -/
def recipeItems (x : Slot) : List Byte :=
  item 1 x.state.code ++ item 1 x.refs ++ ((x.recipe.map fun r => r.fields.toList.flatMap (item 2)).getD [])

/-- READ CONFIG: the 41 fields, the idle delay in 4 bytes (spec/09 R161, spec/11 R185, R188). -/
def configItems (c : MachineConfig) : List Byte :=
  (c.fields.toList.zipIdx).flatMap fun x => item (configWidth x.2) x.1

/-- READ GAS TABLE: the seventeen points, T0 first (spec/06 R121). -/
def gasTableItems (t : GasTable) : List Byte := t.points.toList.flatMap (item 2)

/-- READ ALLOWANCES: the eight allowances, slot 0 then slot 1, then the slot states (spec/06 R121, log 15). -/
def allowanceItems (s : State) : List Byte :=
  (s.allowances.toList.flatMap fun v => v.toList.flatMap (item 2)) ++ s.slots.toList.flatMap fun x => item 1 x.state.code

end Sys2Proof.Machine
end

