-- ==== Sys2Proof/Machine/Recipes.lean ====
section
/-! DEFINITION. The recipe store and the machine configuration: the checks of records and masks and the acts of LOAD,
AMEND, ACTIVATE and DISCARD RECIPE, CONFIGURE and LOAD GAS TABLE (spec/09, spec/06 R109). -/

namespace Sys2Proof.Machine

/-- A refusal: its code and field index. -/
abbrev Check := Option (RefusalCode × Nat)

/-- The first of several checks that fails decides. -/
def firstFailure : List Check → Check
  | [] => none
  | some r :: _ => some r
  | none :: cs => firstFailure cs

/-- A check that fails with a code and a field index where a condition does not hold. -/
def require (ok : Bool) (code : RefusalCode) (field : Nat) : Check := if ok then none else some (code, field)

/-- Named values written into numbered fields. -/
def writeFields {n : Nat} : List Nat → List Nat → Vector Nat n → Vector Nat n
  | f :: fs, v :: vs, x => writeFields fs vs (if h : f < n then x.set f v h else x)
  | _, _, x => x

/-- Every value within its range, in field-number order (spec/09 R154, R161). -/
def rangeChecks {n : Nat} (ranges : Vector (Nat × Nat) n) : List Nat → List Nat → List Check
  | f :: fs, v :: vs =>
    (match ranges.toList[f]? with
     | some r => require (decide (r.1 ≤ v) && decide (v ≤ r.2)) .outOfRange f
     | none => none) :: rangeChecks ranges fs vs
  | _, _ => []

/-- The lowest field number from `n` on that a mask names (spec/09 R156, R161, spec/10 R168). -/
def maskCheck {w : Nat} (n : Nat) (mask : BitVec w) : Check :=
  ((List.range w).find? fun f => decide (n ≤ f) && mask.getLsbD f).map fun f => (.badField, f)

/-! ## Recipes -/

/-- The cross-checks, in order (spec/09 R155). -/
def crossChecks (r : Recipe) : List Check :=
  [require (decide (fillMin r ≤ fillMax r)) .badField 3,
   require (decide (doseMin r ≤ doseMax r)) .badField 7,
   require (decide (depthMin r ≤ depthMax r)) .badField 11,
   require (decide (depthMax r < noCupDepth r)) .badField 12,
   require (decide (diameterMin r ≤ diameterMax r)) .badField 14,
   require (decide (probeBuildMin r ≤ probePressure r)) .badField 16,
   require (decide (floorPressure r + 500 ≤ fillPressure r)) .badField 22,
   require (decide (toleranceLow r < doseMin r)) .badField 8]

/-- A whole record checked: ranges, then cross-checks (spec/09 R154, R155). -/
def recipeCheck (r : Recipe) : Check :=
  firstFailure (rangeChecks recipeRanges (List.range 25) r.fields.toList ++ crossChecks r)

/-- The record of 25 values. -/
def recipeOf (values : List Nat) : Recipe := ⟨writeFields (List.range 25) values (Vector.replicate 25 0)⟩

/-- The slot LOAD RECIPE writes: the PENDING slot, else the lowest FREE one, else none (spec/09 R153). -/
def loadSlot (s : State) : Option (Fin 2) :=
  match pendingSlot s with
  | some i => some i
  | none => allSlots.find? fun i => s.slots[i].state == .free

/-- The other slot. -/
def otherSlot (i : Fin 2) : Fin 2 := if i = 0 then 1 else 0

/-- The adaptation right of a shot in flight that names a slot is lost at its activation (spec/06 R119). -/
def loseRight (lost : Shot → Bool) (s : State) : State :=
  allCylinders.foldl (fun s c => s.modCyl c fun x =>
    { x with shot := x.shot.map fun y => if lost y then { y with mayAdapt := false } else y }) s

/-- The old ACTIVE slot at an activation: RETIRING with cans, FREE without (spec/09 R157). -/
def retireSlot (i : Fin 2) (s : State) : State :=
  if s.slots[i].state = .active then
    if 0 < s.slots[i].refs then s.modSlot i fun x => { x with state := .retiring }
    else (s.modSlot i fun x => { x with state := .free, recipe := none }).setSlotAllowances i 0
  else s

/-- The activation of the PENDING slot in one act (spec/09 R157, spec/06 R118, R119): slots, allowances, adaptation right,
NO_RECIPE, and the cylinders (log 19). -/
def activate (i : Fin 2) (s : State) : State :=
  let s1 := (retireSlot (otherSlot i) s).modSlot i fun x => { x with state := .active }
  let s2 := s1.setSlotAllowances i (initialAllowance (slotRecipe s i))
  refillBank ((loseRight (fun y => decide (y.slot = i)) s2).modWithhold fun w => { w with noRecipe := false })

/-- The PENDING slot is discarded (spec/09 R159). -/
def discardSlot (i : Fin 2) (s : State) : State :=
  (s.modSlot i fun x => { x with state := .free, recipe := none }).setSlotAllowances i 0

/-! ## Machine configuration -/

/-- Each angle above the one before it; the first that is not is named (spec/01 R16). -/
def stationChecks (c : MachineConfig) : List Check :=
  (List.range 12).map fun i =>
    require (decide (c.fields.toList.getD i 0 < c.fields.toList.getD (i + 1) 0)) .badField (i + 1)

/-- The configuration as it would stand after a CONFIGURE. -/
def configured (c : MachineConfig) (mask : BitVec 48) (values : List Nat) : MachineConfig :=
  ⟨writeFields (maskFields 41 mask) values c.fields⟩

/-- The checks of CONFIGURE, in order (spec/09 R161). -/
def configureCheck (s : State) (mask : BitVec 48) (values : List Nat) : Check :=
  firstFailure
    ([require (decide (inProcess s = 0)) .wrongState noField, maskCheck 41 mask] ++
     rangeChecks configRanges (maskFields 41 mask) values ++
     [require (!(mask.getLsbD 34 && !s.verdicts.rejects.isEmpty)) .wrongState 34] ++
     stationChecks (configured s.config mask values) ++
     [require (decide (throttleOn (configured s.config mask values) < throttleOff (configured s.config mask values)))
        .badField 30])

/-! ## Gas table -/

/-- Each point greater than the one before it (spec/06 R109). -/
def risingChecks : Nat → List Nat → List Check
  | i, a :: b :: ps => require (decide (a < b)) .badField (i + 1) :: risingChecks (i + 1) (b :: ps)
  | _, _ => []

/-- A gas table checked: every point within its range, then each greater than the one before (spec/06 R109, log 15). -/
def gasTableCheck (points : List Nat) : Check :=
  firstFailure ((points.zipIdx.map fun x => require (decide (x.1 ≤ densityLimit)) .outOfRange x.2) ++ risingChecks 0 points)

/-- The table of 17 points. -/
def gasTableOf (points : List Nat) : GasTable := ⟨writeFields (List.range 17) points (Vector.replicate 17 0)⟩

end Sys2Proof.Machine
end

