-- ==== Sys2Proof/Machine/Turret.lean ====
section
/-! DEFINITION. The position tracker: counts, index pulses, lock, slip and the positions it enters (spec/01 R1 to R15),
with the commands that reach it as events. -/

namespace Sys2Proof.Machine

/-! ## Positions entered -/

/-- The stations of a head that fall at a turret position, in table order (spec/01 R14). -/
def stationsAt (c : MachineConfig) (h : Fin 16) (pos : Nat) : List Station :=
  stations.filter fun st => stationPosition c h st == pos

/-- Every agent that may meet a position. -/
def allTakers : List Taker := allHeads.map Taker.head ++ [.verdictUnit]

/-- The agents in the order the command carries, those it does not name after them (log 6). -/
def takersInOrder (order : List Taker) : List Taker := (order ++ allTakers).eraseDups

/-- One agent meets the present position: a head the phases that fall there, if the position lies above the high-water mark
that stood; the verdict unit its due positions and confirm ends (spec/01 R14, spec/08 R142, R145). -/
def takePosition (raised : Bool) (pos : Nat) (s : State) : Taker → State
  | .head h => if raised then (stationsAt s.config h pos).foldl (fun s st => stationPhase h st s) s else s
  | .verdictUnit => verdictPosition s

/-- The position and the revolution count one count forward (spec/01 R7, R17). -/
def Tracker.stepForward (t : Tracker) : Tracker :=
  if t.position = countsPerRev - 1 then { t with position := 0, revolution := (t.revolution + 1) % revolutions }
  else { t with position := t.position + 1 }

/-- The position and the revolution count one count back (spec/01 R7). -/
def Tracker.stepBack (t : Tracker) : Tracker :=
  if t.position = 0 then
    { t with position := countsPerRev - 1, revolution := (t.revolution + revolutions - 1) % revolutions }
  else { t with position := t.position - 1 }

/-- The absolute position is raised by one: the high-water mark follows it when passed, and the agents meet the position
entered (spec/01 R7, R14). -/
def advance (order : List Taker) (s : State) : State :=
  let s1 := s.modTracker Tracker.stepForward
  let raised := decide (s1.tracker.highWater < s1.tracker.absolute)
  let s2 := if raised then s1.modTracker fun t => { t with highWater := t.absolute } else s1
  (takersInOrder order).foldl (takePosition raised s2.tracker.position) s2

/-- `n` positions entered in ascending order (spec/01 R8). -/
def advances (order : List Taker) : Nat → State → State
  | 0, s => s
  | n + 1, s => advances order n (advance order s)

/-- `n` positions back; nothing fires (spec/01 R8). -/
def backSteps : Nat → Tracker → Tracker
  | 0, t => t
  | n + 1, t => backSteps n t.stepBack

/-- The absolute position moved by `d`, forward position by position or backward (spec/01 R8). -/
def moveBy (order : List Taker) (d : Int) (s : State) : State :=
  if 0 ≤ d then advances order d.toNat s else s.modTracker (backSteps (-d).toNat)

/-! ## Tracker states -/

/-- Entry to SEEKING (spec/01 R5): position and interval counter 0, the first-index flag as given; a TRACKER report. -/
def enterSeeking (seen : Bool) (s : State) : State :=
  trackerReport (s.modTracker fun t => { t with state := .seeking, firstIndexSeen := seen, position := 0, interval := 0 })

/-- Entry to LOCKED (spec/01 R6). -/
def enterLocked (s : State) : State :=
  (trackerReport (s.modTracker fun t =>
    let rev := (t.highWater / countsPerRev + 1) % revolutions
    { t with state := .locked, revolution := rev, position := 0, highWater := rev * countsPerRev, interval := 0 })).modWithhold
      fun w => { w with position := false }

/-- A head holding a can takes the slip notice: POSITION_LOST (spec/02 R43). -/
def headSlip (h : Fin 16) (s : State) : State := addReason h .positionLost s

/-- Entry to SLIPPED (spec/01 R9): POSITION stands, the change is reported, POSITION_SLIP is set, and the heads, the
cylinder bank and the verdict unit take the slip notice (log 7). -/
def enterSlipped (s : State) : State :=
  let s1 := setPosition (s.modTracker fun t => { t with state := .slipped })
  let s2 := setCondition .positionSlip (trackerReport s1)
  let s3 := allHeads.foldl (fun s h => headSlip h s) s2
  verdictSlip (allCylinders.foldl (fun s c => endDischarge c .slip s) s3)

/-! ## Counts -/

/-- The interval counter one count on in a direction. -/
def Tracker.tally (d : Direction) (t : Tracker) : Tracker :=
  { t with interval := match d with | .forward => t.interval + 1 | .reverse => t.interval - 1 }

/-- The interval counter has passed every place where an index is expected (spec/01 R5, R7). -/
def overdue (s : State) : Bool := decide ((countsPerRev : Int) + (indexTolerance s.config : Int) + 1 ≤ s.tracker.interval)

/-- The position alone one count on, modulo 4096, the revolution count held (spec/01 R5, R10). -/
def Tracker.turn (d : Direction) (t : Tracker) : Tracker :=
  { t with position := match d with
      | .forward => (t.position + 1) % countsPerRev
      | .reverse => (t.position + countsPerRev - 1) % countsPerRev }

/-- A count taken in LOCKED (spec/01 R7, R15). A forward count fires what it enters, and then slips if the index is
overdue; a reverse count is checked against the reverse limit (log 10). -/
def lockedCount (order : List Taker) (d : Direction) (s : State) : State :=
  let s0 := s.modTracker (Tracker.tally d)
  match d with
  | .forward =>
    let s1 := advance order s0
    if overdue s1 then enterSlipped s1 else s1
  | .reverse =>
    let s1 := s0.modTracker Tracker.stepBack
    if (reverseLimit s1.config : Int) < (s1.tracker.highWater : Int) - (s1.tracker.absolute : Int) then enterSlipped s1
    else s1

/-- A count taken in SEEKING (spec/01 R5): not counted with the flag NOT SEEN; with the flag SEEN it moves position and
interval counter, and an index overdue returns the flag to NOT SEEN. -/
def seekingCount (d : Direction) (s : State) : State :=
  if s.tracker.firstIndexSeen then
    let s1 := s.modTracker fun t => (t.turn d).tally d
    if decide (d = .forward) && overdue s1 then
      s1.modTracker fun t => { t with firstIndexSeen := false, position := 0, interval := 0 }
    else s1
  else s

/-- A count acts as the tracker state requires (spec/01 R4, R5, R7, R10). -/
def countByState (order : List Taker) (d : Direction) (s : State) : State :=
  match s.tracker.state with
  | .unlocked => enterSeeking false s
  | .seeking => seekingCount d s
  | .locked => lockedCount order d s
  | .slipped => s.modTracker fun t => (t.turn d).tally d

/-! ## Index pulses -/

/-- Within one revolution of the reference index, by the tolerance (spec/01 R5, R8). -/
def newRevolution (s : State) : Bool :=
  decide ((countsPerRev : Int) - (indexTolerance s.config : Int) ≤ s.tracker.interval) &&
  decide (s.tracker.interval ≤ (countsPerRev : Int) + (indexTolerance s.config : Int))

/-- A repeat of the reference index, by the tolerance (spec/01 R5, R8). -/
def repeatIndex (s : State) : Bool :=
  decide (-(indexTolerance s.config : Int) ≤ s.tracker.interval) && decide (s.tracker.interval ≤ (indexTolerance s.config : Int))

/-- A forward index pulse in LOCKED (spec/01 R8). -/
def lockedIndex (order : List Taker) (s : State) : State :=
  if newRevolution s then
    (moveBy order ((countsPerRev : Int) - s.tracker.interval) s).modTracker fun t => { t with interval := 0 }
  else if repeatIndex s then
    (moveBy order (-s.tracker.interval) s).modTracker fun t => { t with interval := 0 }
  else enterSlipped s

/-- A forward index pulse in SEEKING (spec/01 R5). -/
def seekingIndex (s : State) : State :=
  if s.tracker.firstIndexSeen then
    if newRevolution s then enterLocked s
    else s.modTracker fun t => { t with position := 0, interval := 0 }
  else s.modTracker fun t => { t with firstIndexSeen := true, position := 0, interval := 0 }

/-- A forward index pulse by the tracker state its count leaves (spec/01 R1, R5, R8, R10). -/
def indexByState (order : List Taker) (s : State) : State :=
  match s.tracker.state with
  | .unlocked => s
  | .seeking => seekingIndex s
  | .locked => lockedIndex order s
  | .slipped => if autoRelock s.config then enterSeeking true s else s

/-- The motion state becomes RUNNING at the first count taken while STOPPED, with a TRACKER report (spec/01 R12). -/
def startMotion (s : State) : State :=
  if s.tracker.motion = .stopped then trackerReport (s.modTracker fun t => { t with motion := .running }) else s

/-- A count taken from the selected source, with the index pulse that may come with it (spec/01 R1, R12): the stop-detect
timer is restarted, the motion state follows, the count acts, and then a forward index pulse. -/
def takeCount (d : Direction) (index : Bool) (order : List Taker) (s : State) : State :=
  let s1 := startMotion (s.modTracker fun t => { t with stopDetect := .running (stopDetectTime s.config) })
  let s2 := countByState order d s1
  if index && decide (d = .forward) then indexByState order s2 else s2

/-! ## The commands -/

/-- The source an encoder input feeds. -/
def inputSource : EncoderInput → Source
  | .primary => .primary
  | .secondary => .secondary

/-- ENCODER_COUNT (spec/01 R1): a count, with or without an index pulse, from one encoder input; it is taken only if that
input is the selected source. -/
def execEncoderCount (input : EncoderInput) (dir : Direction) (index : Bool) (sensors : Sensors) (order : List Taker)
    (s : State) : Host.Outcome State Fault Refusal :=
  let s0 := s.setSensors sensors
  .next (if s.tracker.source = inputSource input then takeCount dir index order s0 else s0)

/-- SIMULATED_COUNT (spec/01 R2): while the generator runs under SIMULATED, its own count rises by one and a forward count
is taken, with an index pulse at each own count one more than a multiple of 4096. -/
def execSimulatedCount (sensors : Sensors) (order : List Taker) (s : State) : Host.Outcome State Fault Refusal :=
  let s0 := s.setSensors sensors
  .next (if s.tracker.source = .simulated ∧ s.tracker.genRunning then
      takeCount .forward (decide ((s.tracker.genCount + 1) % countsPerRev = 1)) order
        (s0.modTracker fun t => { t with genCount := t.genCount + 1 })
    else s0)

/-- STOP_DETECT_EXPIRY (spec/01 R12). -/
def execStopDetectExpiry (s : State) : Host.Outcome State Fault Refusal :=
  .next (if s.tracker.stopDetect.isRunning then
      let s1 := s.modTracker fun t => { t with stopDetect := .stopped }
      if s.tracker.motion = .running then trackerReport (s1.modTracker fun t => { t with motion := .stopped }) else s1
    else s)

end Sys2Proof.Machine
end

