-- ==== Sys2Proof/Machine/Requests.lean ====
section
/-! DEFINITION. What each request does once the link has taken it (spec/11 R176): the owning block's checks, its act and
its one reply. A request is handled with a place free in the transmit queue (R175). -/

namespace Sys2Proof.Machine

/-! ## READ (spec/11 R178) -/

/-- An ACCEPT to a READ: the echoed kind, item and index, then the contents. -/
def acceptRead (code index : Nat) (contents : List Byte) (s : State) : State :=
  accept 0x01 (item 1 code ++ item 1 index ++ contents) s

/-- READ STATUS; the index is not examined. -/
def handleReadStatus (index : Nat) (s : State) : State := acceptRead 0 index (statusItems s) s

/-- READ HEAD (spec/02 R46). -/
def handleReadHead (index : Nat) (s : State) : State :=
  if h : index < 16 then acceptRead 1 index (headItems s ⟨index, h⟩) s else refuse 0x01 .outOfRange 1 s

/-- READ CYLINDER (spec/05 R107). -/
def handleReadCylinder (index : Nat) (s : State) : State :=
  if h : index < 4 then acceptRead 2 index (cylinderItems s ⟨index, h⟩) s else refuse 0x01 .outOfRange 1 s

/-- READ QUEUES, one of three sections. -/
def handleReadQueues (index : Nat) (s : State) : State :=
  match index with
  | 0 => acceptRead 3 0 (queues0 s) s
  | 1 => acceptRead 3 1 (queues1 s) s
  | 2 => acceptRead 3 2 (queues2 s) s
  | _ => refuse 0x01 .outOfRange 1 s

/-- READ RECIPE (spec/09 R160). -/
def handleReadRecipe (index : Nat) (s : State) : State :=
  if h : index < 2 then acceptRead 4 index (recipeItems (s.slots[index]'h)) s else refuse 0x01 .outOfRange 1 s

/-- READ CONFIG (spec/09 R161). -/
def handleReadConfig (index : Nat) (s : State) : State := acceptRead 5 index (configItems s.config) s

/-- READ GAS TABLE (spec/06 R121). -/
def handleReadGasTable (index : Nat) (s : State) : State := acceptRead 6 index (gasTableItems s.gasTable) s

/-- READ ALLOWANCES (spec/06 R121). -/
def handleReadAllowances (index : Nat) (s : State) : State := acceptRead 7 index (allowanceItems s) s

/-- A READ: the item is checked first, then the index. -/
def handleRead (code index : Nat) (s : State) : State :=
  match code with
  | 0 => handleReadStatus index s
  | 1 => handleReadHead index s
  | 2 => handleReadCylinder index s
  | 3 => handleReadQueues index s
  | 4 => handleReadRecipe index s
  | 5 => handleReadConfig index s
  | 6 => handleReadGasTable index s
  | 7 => handleReadAllowances index s
  | _ => refuse 0x01 .badField 0 s

/-! ## Configuration and gas table -/

/-- CONFIGURE (spec/09 R161). -/
def handleConfigure (mask : BitVec 48) (values : List Nat) (s : State) : State :=
  match configureCheck s mask values with
  | some (code, field) => refuse 0x02 code field s
  | none => accept 0x02 (item 1 (maskFields 41 mask).length) { s with config := configured s.config mask values }

/-- LOAD GAS TABLE (spec/09 R162, spec/06 R109): an accepted table replaces the one in force, and every shot in flight
loses its adaptation right (R119). -/
def handleLoadGasTable (points : List Nat) (s : State) : State :=
  if inProcess s ≠ 0 then refuse 0x03 .wrongState noField s
  else
    match gasTableCheck points with
    | some (code, field) => refuse 0x03 code field s
    | none => accept 0x03 [] (loseRight (fun _ => true) { s with gasTable := gasTableOf points })

/-! ## Recipes -/

/-- LOAD RECIPE (spec/09 R153). -/
def handleLoadRecipe (values : List Nat) (s : State) : State :=
  match recipeCheck (recipeOf values) with
  | some (code, field) => refuse 0x04 code field s
  | none =>
    match loadSlot s with
    | none => refuse 0x04 .busy noField s
    | some i =>
      let s1 := s.modSlot i fun x => { x with state := .pending, recipe := some (recipeOf values) }
      accept 0x04 (item 1 i.val ++ s1.slots.toList.flatMap fun x => item 1 x.state.code) s1

/-- AMEND RECIPE (spec/09 R156). -/
def handleAmendRecipe (mask : BitVec 32) (values : List Nat) (s : State) : State :=
  match maskCheck 25 mask with
  | some (code, field) => refuse 0x05 code field s
  | none =>
    match pendingSlot s with
    | none => refuse 0x05 .wrongState noField s
    | some i =>
      let r : Recipe := ⟨writeFields (maskFields 25 mask) values (slotRecipe s i).fields⟩
      let reply (s : State) : State :=
        accept 0x05 (item 1 i.val ++ (slotRecipe s i).fields.toList.flatMap (item 2)) s
      if (maskFields 25 mask).isEmpty then reply s
      else
        match recipeCheck r with
        | some (code, field) => refuse 0x05 code field s
        | none => reply (s.modSlot i fun x => { x with recipe := some r })

/-- ACTIVATE RECIPE (spec/09 R157). -/
def handleActivateRecipe (id : Nat) (s : State) : State :=
  match pendingSlot s with
  | none => refuse 0x06 .wrongState noField s
  | some i =>
    if id ≠ recipeId (slotRecipe s i) then refuse 0x06 .noMatch 0 s
    else
      let s1 := activate i s
      let o := s1.slots[otherSlot i]
      accept 0x06 (item 1 i.val ++ item 1 o.state.code ++ item 1 o.refs) s1

/-- DISCARD RECIPE (spec/09 R159). -/
def handleDiscardRecipe (s : State) : State :=
  match pendingSlot s with
  | none => refuse 0x07 .wrongState noField s
  | some i =>
    let s1 := discardSlot i s
    accept 0x07 (s1.slots.toList.flatMap fun x => item 1 x.state.code) s1

/-! ## Fill reports -/

/-- The act of an accepted fill report (spec/03 R56, R58, R59): its entries applied in tag order, the expected tag moved,
and the reply's data. -/
def fillAct (tag mass k : Nat) (s : State) : State × List Byte :=
  let r := (reportEntries tag mass k).foldl applyEntry (s, { discarded := 0, bound := 0, lastSeq := 0, joined := 0 })
  let s1 := r.1.modInfeed fun i => { i with expectedTag := some ((tag + 1) % 65536) }
  (s1, item 1 k ++ item 1 r.2.discarded ++ item 1 r.2.bound ++ item 3 r.2.lastSeq ++ item 1 r.2.joined ++
    expectedTagItem s1.infeed.expectedTag ++ item 1 s1.infeed.debt ++ item 1 s1.infeed.fillQueue.length)

/-- FILL (spec/03 R55): mass, sequence and room, then the report applied whole. A condition is set after the reply is
queued (spec/10 R165). -/
def handleFill (tag mass : Nat) (s : State) : State :=
  let k := skipped s.infeed.expectedTag tag
  if massLimit < mass then refuse 0x08 .outOfRange 1 s
  else if skipLimit < k then setCondition .fillSequence (refuse 0x08 .outOfSequence 0 s)
  else if fillFits s.infeed (k + 1) then acceptAround 0x08 (fillAct tag mass k) s
  else setCondition .fillQueueFull (refuse 0x08 .full 0 s)

/-- RESYNC FILL (spec/03 R60). -/
def handleResyncFill (s : State) : State :=
  accept 0x09 (item 1 s.infeed.fillQueue.length ++ item 1 s.infeed.debt)
    (s.modInfeed fun i => { i with fillQueue := [], debt := 0, expectedTag := none })

/-! ## Heads -/

/-- HEAD ENABLE by service state (spec/02 R23). -/
def enableHead (h : Fin 16) (s : State) : State :=
  match s.heads[h].service with
  | .enabled | .zeroing => s
  | .disabling =>
    headReport h .enableRequest (s.modHead h fun x =>
      { x with service := ((x.returnState.map ReturnState.service).getD .enabled), returnState := none })
  | .disabled | .outOfService =>
    headReport h .enableRequest (s.modHead h fun x => { x with service := .zeroing, noFlowCount := 0, zeroCount := 0 })

/-- A head ENABLED or ZEROING is disabled: DISABLED at once, or DISABLING while it holds a can or an admitted pocket
(spec/02 R24). -/
def disableFrom (h : Fin 16) (back : ReturnState) (s : State) : State :=
  if s.heads[h].holdsCan ∨ s.infeed.admitted[h] then
    headReport h .disableRequest (s.modHead h fun x => { x with service := .disabling, returnState := some back })
  else
    headReport h .disableRequest (s.modHead h fun x =>
      { x with service := .disabled, returnState := none, ventValve := false })

/-- HEAD DISABLE by service state (spec/02 R24). -/
def disableHead (h : Fin 16) (s : State) : State :=
  match s.heads[h].service with
  | .enabled => disableFrom h .enabled s
  | .zeroing => disableFrom h .zeroing s
  | .disabling | .disabled | .outOfService => s

/-- Steps 1 to 3 and 6 of HEAD RESET on the head's own items (spec/02 R29, spec/04 R86, spec/07 R138). -/
def Head.resetItems (x : Head) : Head :=
  { x with probeValve := false, ventValve := false, inlets := Vector.replicate 4 false, collet := false,
           probeTimer := .stopped, dwellTimer := .stopped, flowTimer := .stopped, probeStep := .idle, pa := none,
           firstDwell := none, flowDetected := false, noFlowCount := 0, zeroCount := 0, zeroOffset := 0, returnState := none }

/-- The discharge of a head's paired cylinder is ended by its reset (spec/02 R29 step 4). -/
def resetPairing (h : Fin 16) (s : State) : State :=
  match s.heads[h].paired with
  | some c => endDischarge c .headReset s
  | none => s

/-- HEAD RESET (spec/02 R29): valves, timers and any discharge ended, the request withdrawn, the can marked HEAD_RESET, the
head ZEROING, the cycle moved on, and a HEAD report. A head that was PROBING enters PROBED, and takes its charge decision
if CHARGE_OPEN has passed (spec/04 R79). -/
def resetHead (h : Fin 16) (s : State) : State :=
  let s1 := (resetPairing h s).modHead h Head.resetItems
  let s2 :=
    if s.heads[h].cycle = .waiting then
      (withdraw h s1).modHead h fun x => { x with cycle := .charged, pendingResult := none }
    else withdraw h s1
  let s3 := (addReason h .headReset s2).modHead h fun x => { x with service := .zeroing }
  headReport h .resetRequest (if s.heads[h].cycle = .probing then enterProbed h s3 else s3)

/-- The data of an ACCEPT to a HEAD request (spec/02 R22): service state, cycle state, whether a can is held, its sequence
number. -/
def headReplyItems (s : State) (h : Fin 16) : List Byte :=
  let x := s.heads[h]
  item 1 x.service.code ++ item 1 x.cycle.code ++ flag x.holdsCan ++ x.seqItem

/-- HEAD (spec/02 R22): the head number is checked first, the action second. -/
def handleHead (head action : Nat) (s : State) : State :=
  if h : head < 16 then
    match action with
    | 0 => acceptAround 0x0A (fun s => let t := enableHead ⟨head, h⟩ s; (t, headReplyItems t ⟨head, h⟩)) s
    | 1 => acceptAround 0x0A (fun s => let t := disableHead ⟨head, h⟩ s; (t, headReplyItems t ⟨head, h⟩)) s
    | 2 => acceptAround 0x0A (fun s => let t := resetHead ⟨head, h⟩ s; (t, headReplyItems t ⟨head, h⟩)) s
    | _ => refuse 0x0A .badField 1 s
  else refuse 0x0A .outOfRange 0 s

/-! ## Cylinders -/

/-- The data of an ACCEPT to a CYLINDER request (spec/05 R97). -/
def cylinderReplyItems (s : State) (c : Fin 4) : List Byte :=
  let x := s.cylinders[c]
  item 1 x.state.code ++ item 2 x.pressure ++ item 1 x.failures ++ flag x.disablePending

/-- CYLINDER (spec/05 R97): the cylinder number is checked first, the action second. -/
def handleCylinder (cylinder action : Nat) (s : State) : State :=
  if h : cylinder < 4 then
    match action with
    | 0 => acceptAround 0x0B (fun s => let t := enableCylinder ⟨cylinder, h⟩ s; (t, cylinderReplyItems t ⟨cylinder, h⟩)) s
    | 1 => acceptAround 0x0B (fun s => let t := disableCylinder ⟨cylinder, h⟩ s; (t, cylinderReplyItems t ⟨cylinder, h⟩)) s
    | _ => refuse 0x0B .badField 1 s
  else refuse 0x0B .outOfRange 0 s

/-! ## Infeed, verdicts, conditions -/

/-- INFEED HOLD (spec/03 R49). -/
def handleInfeedHold (s : State) : State :=
  let s1 := s.modWithhold fun w => { w with holdRequest := true }
  accept 0x0C (withholdItem s1) s1

/-- INFEED RELEASE (spec/03 R49). -/
def handleInfeedRelease (s : State) : State :=
  let s1 := s.modWithhold fun w => { w with holdRequest := false }
  accept 0x0D (withholdItem s1) s1

/-- TAKE VERDICTS (spec/08 R148, spec/11 R187). -/
def handleTakeVerdicts (count : Nat) (s : State) : State :=
  if count = 1 ∨ count = 2 then
    let taken := s.verdicts.log.take count
    let s1 := s.modVerdicts fun u => { u with log := u.log.drop count }
    accept 0x0E (item 1 taken.length ++ taken.flatMap recordBytes ++ item 1 s1.verdicts.log.length) s1
  else refuse 0x0E .outOfRange 0 s

/-- The conditions a mask names that are SET, with or without their cause present (spec/10 R168). -/
def namedSet (s : State) (mask : BitVec 16) (cause : Bool) (k : Condition) : Bool :=
  mask.getLsbD k.num.val && s.conds.has k && (causePresent s k == cause)

/-- The named conditions whose cause is not present become NOT SET, and the stop request follows (spec/10 R168, R170). -/
def clearNamed (mask : BitVec 16) (s : State) : State :=
  let cleared := conditions.filter (namedSet s mask false)
  updateStop (s.modConds fun c => { c with isSet := cleared.foldl (fun v k => v.set k.num false) c.isSet })

/-- CLEAR CONDITIONS (spec/10 R168). -/
def handleClearConditions (mask : BitVec 16) (s : State) : State :=
  match maskCheck 12 mask with
  | some (code, field) => refuse 0x0F code field s
  | none =>
    let s1 := clearNamed mask s
    accept 0x0F (setItem (conditions.map (namedSet s mask false)) ++ setItem (conditions.map (namedSet s mask true)) ++
      conditionsItem s1.conds ++ flag s1.conds.stopLine) s1

/-- SET REPORTS (spec/10 R167). -/
def handleSetReports (mask : BitVec 16) (s : State) : State := accept 0x10 [] (s.modConds fun c => { c with mask := mask })

/-! ## Position source -/

/-- SELECT SOURCE, the act (spec/01 R3, R2): POSITION enters the withhold set if the tracker leaves LOCKED, the source is
selected, the generator started or stopped, the stop-detect timer restarted, and SEEKING entered. -/
def selectSource (src : Source) (s : State) : State :=
  let s1 := if s.tracker.state = .locked then setPosition s else s
  let s2 := s1.modTracker fun t =>
    { t with source := src, stopDetect := .running (stopDetectTime s.config), genRunning := decide (src = .simulated),
             genCount := if src = .simulated then 0 else t.genCount }
  enterSeeking false (s2.modWithhold fun w => { w with simulated := decide (src = .simulated) })

/-- SELECT SOURCE (spec/01 R3). -/
def handleSelectSource (code : Nat) (s : State) : State :=
  match sourceOfCode code with
  | none => refuse 0x11 .badField 0 s
  | some src =>
    if inProcess s ≠ 0 ∨ s.verdicts.rejects ≠ [] then refuse 0x11 .wrongState noField s
    else acceptAround 0x11 (fun s => (selectSource src s, [])) s

/-- RELOCK (spec/01 R11). -/
def handleRelock (s : State) : State :=
  if s.tracker.state = .slipped then acceptAround 0x12 (fun s => (enterSeeking false s, [])) s
  else refuse 0x12 .wrongState noField s

/-- RESTART (spec/11 R181): its ACCEPT is queued and restart pending becomes yes. -/
def handleRestart (s : State) : State := (accept 0x13 [] s).modLink fun l => { l with restartPending := true }

/-- The owning block handles a request that has passed the link's checks (spec/11 R176). -/
def handle : Request → State → State
  | .read code index, s => handleRead code index s
  | .configure mask values, s => handleConfigure mask values s
  | .loadGasTable points, s => handleLoadGasTable points s
  | .loadRecipe fields, s => handleLoadRecipe fields s
  | .amendRecipe mask values, s => handleAmendRecipe mask values s
  | .activateRecipe id, s => handleActivateRecipe id s
  | .discardRecipe, s => handleDiscardRecipe s
  | .fill tag mass, s => handleFill tag mass s
  | .resyncFill, s => handleResyncFill s
  | .head h a, s => handleHead h a s
  | .cylinder c a, s => handleCylinder c a s
  | .infeedHold, s => handleInfeedHold s
  | .infeedRelease, s => handleInfeedRelease s
  | .takeVerdicts n, s => handleTakeVerdicts n s
  | .clearConditions mask, s => handleClearConditions mask s
  | .setReports mask, s => handleSetReports mask s
  | .selectSource c, s => handleSelectSource c s
  | .relock, s => handleRelock s
  | .restart, s => handleRestart s

end Sys2Proof.Machine
end

