-- ==== Sys2Proof/Machine/MessageLink.lean ====
section
/-! DEFINITION. The message link: frame assembly, the receive buffer, the taking of requests and the transmit queue (spec/11
R172 to R182); and the meanings of the commands that are bytes, sent frames, the gap timer, and requests. A request command
is the arrival of its good frame at the receive buffer (log 3). -/

namespace Sys2Proof.Machine

/-! ## Taking requests -/

/-- A frame taken as a request (spec/11 R176): refused by the link's own checks, or handled by its owner. -/
def takeRequest (f : Frame) (s : State) : State :=
  match decodeRequest f with
  | .ok r => handle r s
  | .error code => refuse f.kind code noField s

/-- The link may take a request: a transmit place is free and no restart is pending (spec/11 R175). -/
def mayTake (s : State) : Bool := decide (s.link.tx.length < transmitRoom) && !s.link.restartPending

/-- At most `n` requests are taken from the head of the receive buffer while the link may take them (spec/11 R175). -/
def takeRequests : Nat → State → State
  | 0, s => s
  | n + 1, s =>
    match s.link.rx with
    | f :: rest =>
      if mayTake s then takeRequests n (takeRequest f (s.modLink fun l => { l with rx := rest })) else s
    | [] => s

/-- The receive buffer is tested (spec/11 R175). Each request taken leaves the buffer, so its length bounds their number. -/
def testBuffer (s : State) : State := takeRequests s.link.rx.length s

/-- A good frame joins the receive buffer if a place is free, and is otherwise discarded with LINK_FRAME_ERROR (spec/11 R174,
R175). -/
def bufferFrame (f : Frame) (s : State) : State :=
  if s.link.rx.length < receiveRoom then s.modLink fun l => { l with rx := l.rx ++ [f] }
  else setCondition .linkFrameError s

/-- A good frame arrives, and the buffer is tested (spec/11 R175). -/
def arrive (f : Frame) (s : State) : State := testBuffer (bufferFrame f s)

/-! ## Frame assembly -/

/-- The frame in assembly is discarded (spec/11 R174): HUNT, and LINK_FRAME_ERROR. -/
def discardFrame (s : State) : State := setCondition .linkFrameError (s.modLink fun l => { l with asm := .hunting })

/-- The frame is complete and is tested (spec/11 R174). -/
def completeFrame (checkLow : Byte) (s : State) : State :=
  let a := s.link.asm
  let f : Frame := ⟨a.kind, a.payload⟩
  if a.checkHigh ++ checkLow = f.check then arrive f (s.modLink fun l => { l with asm := .hunting }) else discardFrame s

/-- The assembler takes a byte into the frame, the gap timer restarted (spec/11 R173). -/
def assemble (f : Assembler → Assembler) (s : State) : State :=
  s.modLink fun l => { l with asm := { f l.asm with gapTimer := .running gapTime } }

/-- A byte received, by the assembler's state (spec/11 R173). -/
def takeByte (b : Byte) (s : State) : State :=
  match s.link.asm.state with
  | .hunt => if b = 0xC3#8 then assemble (fun _ => { Assembler.hunting with state := .length }) s else s
  | .length =>
    if b.toNat ≤ payloadLimit then assemble (fun a => { a with length := b.toNat, state := .kind }) s else discardFrame s
  | .kind => assemble (fun a => { a with kind := b, state := if 0 < a.length then .payload else .checkHigh }) s
  | .payload =>
    assemble (fun a =>
      { a with payload := a.payload ++ [b]
               state := if a.length ≤ a.payload.length + 1 then .checkHigh else .payload }) s
  | .checkHigh => assemble (fun a => { a with checkHigh := b, state := .checkLow }) s
  | .checkLow => completeFrame b s

/-- A line fault (spec/11 R173): dropped in HUNT, and otherwise the frame in assembly is discarded. -/
def takeFault (s : State) : State := if s.link.asm.state = .hunt then s else discardFrame s

/-! ## The commands of the line -/

/-- BYTE_RECEIVED (spec/11 R172, R173). -/
def execByteReceived (b : LineByte) (sensors : Sensors) (s : State) : Host.Outcome State Fault Refusal :=
  .next (match b with
    | .data x => takeByte x (s.setSensors sensors)
    | .fault => takeFault (s.setSensors sensors))

/-- GAP_TIMER_EXPIRY (spec/11 R173). -/
def execGapTimerExpiry (s : State) : Host.Outcome State Fault Refusal :=
  .next (if s.link.asm.gapTimer.isRunning then discardFrame s else s)

/-- FRAME_SENT (spec/11 R180): the oldest frame has gone out, its place is freed, and the receive buffer is tested. With the
queue empty the line is idle and nothing is sent (log 1). -/
def execFrameSent (sensors : Sensors) (s : State) : Host.Outcome State Fault Refusal :=
  let s0 := s.setSensors sensors
  .next (match s.link.tx with
    | f :: rest => testBuffer (s0.modLink fun l => { l with tx := rest, lineOut := f.frame.lineBytes })
    | [] => s0)

/-! ## The request commands: the arrival of the good frame that carries the request -/

/-- UNKNOWN_REQUEST (spec/11 R176). -/
def execUnknownRequest (kind : Byte) (payload : List Byte) (s : State) : Host.Outcome State Fault Refusal :=
  .next (arrive ⟨kind, payload⟩ s)

/-- READ_STATUS (spec/10 R171, spec/11 R178). -/
def execReadStatus (index : Nat) (s : State) : Host.Outcome State Fault Refusal :=
  .next (arrive (encodeRequest (.read 0 index)) s)

/-- READ_HEAD (spec/02 R46). -/
def execReadHead (head : Nat) (sensors : Sensors) (s : State) : Host.Outcome State Fault Refusal :=
  .next (arrive (encodeRequest (.read 1 head)) (s.setSensors sensors))

/-- READ_CYLINDER (spec/05 R107). -/
def execReadCylinder (cylinder : Nat) (s : State) : Host.Outcome State Fault Refusal :=
  .next (arrive (encodeRequest (.read 2 cylinder)) s)

/-- READ_QUEUES (spec/11 R178). -/
def execReadQueues (part : Nat) (s : State) : Host.Outcome State Fault Refusal :=
  .next (arrive (encodeRequest (.read 3 part)) s)

/-- READ_RECIPE (spec/09 R160). -/
def execReadRecipe (slot : Nat) (s : State) : Host.Outcome State Fault Refusal :=
  .next (arrive (encodeRequest (.read 4 slot)) s)

/-- READ_CONFIG (spec/09 R161). -/
def execReadConfig (index : Nat) (s : State) : Host.Outcome State Fault Refusal :=
  .next (arrive (encodeRequest (.read 5 index)) s)

/-- READ_GAS_TABLE (spec/06 R121). -/
def execReadGasTable (index : Nat) (s : State) : Host.Outcome State Fault Refusal :=
  .next (arrive (encodeRequest (.read 6 index)) s)

/-- READ_ALLOWANCES (spec/06 R121). -/
def execReadAllowances (index : Nat) (s : State) : Host.Outcome State Fault Refusal :=
  .next (arrive (encodeRequest (.read 7 index)) s)

/-- CONFIGURE (spec/09 R161). -/
def execConfigure (mask : BitVec 48) (values : List Nat) (s : State) : Host.Outcome State Fault Refusal :=
  .next (arrive (encodeRequest (.configure mask values)) s)

/-- LOAD_GAS_TABLE (spec/09 R162). -/
def execLoadGasTable (points : List Nat) (s : State) : Host.Outcome State Fault Refusal :=
  .next (arrive (encodeRequest (.loadGasTable points)) s)

/-- LOAD_RECIPE (spec/09 R153). -/
def execLoadRecipe (fields : List Nat) (s : State) : Host.Outcome State Fault Refusal :=
  .next (arrive (encodeRequest (.loadRecipe fields)) s)

/-- AMEND_RECIPE (spec/09 R156). -/
def execAmendRecipe (mask : BitVec 32) (values : List Nat) (s : State) : Host.Outcome State Fault Refusal :=
  .next (arrive (encodeRequest (.amendRecipe mask values)) s)

/-- ACTIVATE_RECIPE (spec/09 R157). -/
def execActivateRecipe (id : Nat) (s : State) : Host.Outcome State Fault Refusal :=
  .next (arrive (encodeRequest (.activateRecipe id)) s)

/-- DISCARD_RECIPE (spec/09 R159). -/
def execDiscardRecipe (s : State) : Host.Outcome State Fault Refusal := .next (arrive (encodeRequest .discardRecipe) s)

/-- FILL (spec/03 R55). -/
def execFill (tag mass : Nat) (s : State) : Host.Outcome State Fault Refusal :=
  .next (arrive (encodeRequest (.fill tag mass)) s)

/-- RESYNC_FILL (spec/03 R60). -/
def execResyncFill (s : State) : Host.Outcome State Fault Refusal := .next (arrive (encodeRequest .resyncFill) s)

/-- HEAD_ENABLE (spec/02 R23). -/
def execHeadEnable (head : Nat) (s : State) : Host.Outcome State Fault Refusal :=
  .next (arrive (encodeRequest (.head head 0)) s)

/-- HEAD_DISABLE (spec/02 R24). -/
def execHeadDisable (head : Nat) (s : State) : Host.Outcome State Fault Refusal :=
  .next (arrive (encodeRequest (.head head 1)) s)

/-- HEAD_RESET (spec/02 R29). -/
def execHeadReset (head : Nat) (s : State) : Host.Outcome State Fault Refusal :=
  .next (arrive (encodeRequest (.head head 2)) s)

/-- CYLINDER_ENABLE (spec/05 R98). -/
def execCylinderEnable (cylinder : Nat) (s : State) : Host.Outcome State Fault Refusal :=
  .next (arrive (encodeRequest (.cylinder cylinder 0)) s)

/-- CYLINDER_DISABLE (spec/05 R97). -/
def execCylinderDisable (cylinder : Nat) (s : State) : Host.Outcome State Fault Refusal :=
  .next (arrive (encodeRequest (.cylinder cylinder 1)) s)

/-- INFEED_HOLD (spec/03 R49). -/
def execInfeedHold (s : State) : Host.Outcome State Fault Refusal := .next (arrive (encodeRequest .infeedHold) s)

/-- INFEED_RELEASE (spec/03 R49). -/
def execInfeedRelease (s : State) : Host.Outcome State Fault Refusal := .next (arrive (encodeRequest .infeedRelease) s)

/-- TAKE_VERDICTS (spec/08 R148). -/
def execTakeVerdicts (count : Nat) (s : State) : Host.Outcome State Fault Refusal :=
  .next (arrive (encodeRequest (.takeVerdicts count)) s)

/-- CLEAR_CONDITIONS (spec/10 R168). -/
def execClearConditions (mask : BitVec 16) (s : State) : Host.Outcome State Fault Refusal :=
  .next (arrive (encodeRequest (.clearConditions mask)) s)

/-- SET_REPORTS (spec/10 R167). -/
def execSetReports (mask : BitVec 16) (s : State) : Host.Outcome State Fault Refusal :=
  .next (arrive (encodeRequest (.setReports mask)) s)

/-- SELECT_SOURCE (spec/01 R3). -/
def execSelectSource (code : Nat) (s : State) : Host.Outcome State Fault Refusal :=
  .next (arrive (encodeRequest (.selectSource code)) s)

/-- RELOCK (spec/01 R11). -/
def execRelock (s : State) : Host.Outcome State Fault Refusal := .next (arrive (encodeRequest .relock) s)

/-- RESTART (spec/11 R181). -/
def execRestart (s : State) : Host.Outcome State Fault Refusal := .next (arrive (encodeRequest .restart) s)

/-- READ_BAD_ITEM (spec/11 R178). -/
def execReadBadItem (code index : Nat) (s : State) : Host.Outcome State Fault Refusal :=
  .next (arrive (encodeRequest (.read code index)) s)

/-- HEAD_BAD_ACTION (spec/02 R22). -/
def execHeadBadAction (head action : Nat) (s : State) : Host.Outcome State Fault Refusal :=
  .next (arrive (encodeRequest (.head head action)) s)

/-- CYLINDER_BAD_ACTION (spec/05 R97). -/
def execCylinderBadAction (cylinder action : Nat) (s : State) : Host.Outcome State Fault Refusal :=
  .next (arrive (encodeRequest (.cylinder cylinder action)) s)

end Sys2Proof.Machine
end

