-- ==== Sys2Proof/Machine/Resets.lean ====
section
/-! DEFINITION. Power-on reset and the performing of RESTART, block by block (spec/01 R20, spec/02 R47, spec/03 R68, spec/04
R86, spec/05 R108, spec/06 R122, spec/07 R138, spec/08 R151, spec/09 R163, spec/10 R171, spec/11 R181, R182). -/

namespace Sys2Proof.Machine

/-- The line rate the straps give (spec/11 R172); true is high. -/
def strapRate (strapA strapB : Bool) : LineRate :=
  match strapA, strapB with
  | false, false => .baud57600
  | true, false => .baud115200
  | false, true => .baud230400
  | true, true => .baud57600

/-- A cylinder set to its reset state; its measured pressure follows the transducer and is kept (spec/05 R87, R108). -/
def Cylinder.restarted (x : Cylinder) : Cylinder :=
  { Cylinder.atReset with pressure := x.pressure, overRange := x.overRange }

/-- All four cylinders so set. -/
def restartCylinders (s : State) : State := allCylinders.foldl (fun s c => s.modCyl c Cylinder.restarted) s

/-- POWER_ON_RESET (spec/01 R20 and the reset rule of each chapter). The inputs (sensor levels, measured pressures) and the
queue of commands are not the reset's to change (log 12). -/
def execPowerOnReset (strapA strapB : Bool) (s : State) : Host.Outcome State Fault Refusal :=
  .next { State.reset with
    cylinders := (restartCylinders s).cylinders
    gas := { Gas.atReset with buffer := s.gas.buffer, laneSensor := s.gas.laneSensor }
    link := Link.atReset (strapRate strapA strapB)
    sensors := s.sensors
    pending := s.pending }

/-- A slot at RESTART: a RETIRING slot becomes FREE, and every reference count 0 (spec/09 R163). -/
def Slot.restarted (x : Slot) : Slot :=
  if x.state = .retiring then { state := .free, recipe := none, refs := 0 } else { x with refs := 0 }

/-- The allowances of a slot at RESTART (spec/06 R118): 0 if FREE after it, else the recipe's initial allowance. -/
def restartAllowance (x : Slot) : Nat :=
  match x.restarted.recipe with
  | some r => initialAllowance r
  | none => 0

/-- The gas supply monitor at RESTART (spec/05 R108, R103). -/
def Gas.restarted (cfg : MachineConfig) (g : Gas) : Gas :=
  { g with throttleOn := false, standby := .active, economy := false, wakeTimer := .stopped,
           idleTimer := .running (idleDelay cfg) }

/-- The infeed block at RESTART (spec/03 R68, R48): TEMP stays as it stood (spec/05 R103), NO_RECIPE by whether a slot is
ACTIVE (spec/09 R160). -/
def restartInfeed (s : State) : Infeed :=
  { Infeed.atReset with
    withhold := { Infeed.atReset.withhold with
      noRecipe := (activeSlot s).isNone
      temp := s.infeed.withhold.temp } }

/-- Each block takes its RESTART state in one act (spec/11 R181). The cylinders, IDLE, then enter REFILLING at once if a slot
is ACTIVE (spec/05 R89, R108). -/
def performRestart (s : State) : State :=
  let s1 : State :=
    { s with
      tracker := .atReset
      heads := Vector.replicate 16 .atReset
      infeed := restartInfeed s
      grantQueue := []
      gas := s.gas.restarted s.config
      verdicts := .atReset
      conds := { Conditions.atReset with mask := s.conds.mask }
      link := { Link.atReset s.link.rate with lineOut := s.link.lineOut } }
  let s2 := allSlots.foldl (fun t i =>
    (t.setSlotAllowances i (restartAllowance t.slots[i])).modSlot i Slot.restarted) s1
  allCylinders.foldl (fun t c => refillIdle c t) (restartCylinders s2)

/-- The ACCEPT to RESTART has been sent: restart is pending and nothing is left to send (spec/11 R181). -/
def restartDue (s : State) : Bool := s.link.restartPending && s.link.tx.isEmpty

/-- RESTART_PERFORM (spec/11 R181), the step that follows the sending of the ACCEPT (log 4). -/
def execRestartPerform (s : State) : Host.Outcome State Fault Refusal := .next (if restartDue s then performRestart s else s)

end Sys2Proof.Machine
end

