-- ==== Sys2Proof/Machine/Timers.lean ====
section
/-! DEFINITION. The commands that are readings of sensors and expiries of timers at the heads, the cylinders, the gas
supply monitor and the verdict unit (spec/04 R75 to R77, spec/05 R87 to R105, spec/07 R125, R126, R134, spec/08 R143,
R144). The expiry of a timer that is not running is no event of the part and changes nothing (log 1). -/

namespace Sys2Proof.Machine

/-! ## Heads -/

/-- PROBE_BUILD_END (spec/04 R75): in BUILD, the first corrected pressure at or above the probe pressure closes the probe
valve and starts the hold. Pa is the corrected pressure at the closing, the command's second reading: it may stand above the
probe pressure, or below it where the chamber let it go before the valve had closed (R77). The readings are operands (log
5). -/
def execProbeBuildEnd (h : Fin 16) (raw : BuildReadings) (s : State) : Host.Outcome State Fault Refusal :=
  let s0 := s.showPressure h raw.reached
  .next (if s0.heads[h].probeStep = .build ∧ probePressure (headRecipe s0 h) ≤ headPressure s0 h then
      let s1 := s0.showPressure h raw.closing
      s1.modHead h fun x =>
        { x with probeValve := false, pa := some (headPressure s1 h), probeStep := .hold,
                 probeTimer := .hold (probeHold (headRecipe s1 h)) }
    else s0)

/-- BUILD_TIMEOUT_EXPIRY (spec/04 R76): the build has failed; CRIMP_LEAK, and PROBED. -/
def execBuildTimeoutExpiry (h : Fin 16) (s : State) : Host.Outcome State Fault Refusal :=
  .next (if s.heads[h].probeStep = .build then enterProbed h (addReason h .crimpLeak (endProbe h s)) else s)

/-- The result of a probe (spec/04 R77): the decay is written, and CRIMP_LEAK added where Pa is below the build minimum or
the decay is above its limit. -/
def probeResult (h : Fin 16) (pa pb : Nat) (s : State) : State :=
  let rcp := headRecipe s h
  let decay : Int := (pa : Int) - (pb : Int)
  let s1 := modRecord h (fun r => { r with probeDecay := some decay }) s
  if pa < probeBuildMin rcp ∨ (probeDecayLimit rcp : Int) < decay then addReason h .crimpLeak s1 else s1

/-- PROBE_HOLD_EXPIRY (spec/04 R77). -/
def execProbeHoldExpiry (h : Fin 16) (raw : Int) (s : State) : Host.Outcome State Fault Refusal :=
  let s0 := s.showPressure h raw
  .next (if s0.heads[h].probeStep = .hold then
      enterProbed h (endProbe h (probeResult h (s0.heads[h].pa.getD 0) (headPressure s0 h) s0))
    else s0)

/-- The result of a dwell test (spec/07 R134). -/
def dwellResult (h : Fin 16) (first second : Nat) (s : State) : State :=
  let decay : Int := (first : Int) - (second : Int)
  let s1 := modRecord h (fun r => { r with dwellDecay := some decay }) s
  if (dwellDecayLimit (headRecipe s h) : Int) < decay then addReason h .settleLeak s1 else s1

/-- DWELL_TIMER_EXPIRY (spec/07 R134). The result is written while the head is DWELLING, the state the test belongs to. DEDUCED
(log 17): a timer that stands on past the hand-on, where a slip took LIFT out, expires with nothing written. -/
def execDwellTimerExpiry (h : Fin 16) (raw : Int) (s : State) : Host.Outcome State Fault Refusal :=
  let s0 := s.showPressure h raw
  .next (if s0.heads[h].dwellTimer.isRunning then
      let s1 :=
        if s0.heads[h].cycle = .dwelling then dwellResult h (s0.heads[h].firstDwell.getD 0) (headPressure s0 h) s0 else s0
      s1.modHead h fun x => { x with dwellTimer := .stopped, firstDwell := none }
    else s0)

/-- A no-flow attempt on the head's side once both valves are closed (spec/07 R126): the counter as raised decides. -/
def afterNoFlow (h : Fin 16) (s : State) : State :=
  if s.heads[h].noFlowCount < faultLimit then
    if s.heads[h].marked then s.modHead h fun x => { x with cycle := .charged, pendingResult := none }
    else joinQueue h s
  else
    enterOutOfService h .noFlowLimit
      (addReason h .noFlow (s.modHead h fun x => { x with cycle := .charged, pendingResult := none }))

/-- A no-flow attempt (spec/07 R126, spec/05 R95): the valves close, the pairing ends, the shot is dropped unmeasured, the
counter rises, the cylinder returns to READY or completes its disable, the head acts on the counter, and the arbiter
looks. The spec lets the cylinder's side and the head's be taken in either order (spec/05 R101); DESIGN CHOICE: the cylinder's
comes first (log 29). -/
def noFlowEnd (h : Fin 16) (c : Fin 4) (s : State) : State :=
  let s1 := s.modHead h fun x =>
    { x with inlets := x.inlets.set c false, paired := none, flowTimer := .stopped,
             noFlowCount := min faultLimit (x.noFlowCount + 1) }
  let s2 := readyOrDisabled c (s1.modCyl c fun x => { x with owner := none, shot := none })
  arbitrate (afterNoFlow h s2)

/-- FLOW_DETECT_TIMER_EXPIRY (spec/07 R126), for a head CHARGING from a DISCHARGING cylinder, as every head with a running
flow-detect timer is (spec/05 R94, log 22). -/
def execFlowDetectTimerExpiry (h : Fin 16) (s : State) : Host.Outcome State Fault Refusal :=
  .next (match s.heads[h].paired with
    | some c =>
      if s.heads[h].flowTimer.isRunning ∧ s.heads[h].cycle = .charging ∧ s.heads[h].flowDetected = false ∧
          s.cylinders[c].state = .discharging then
        noFlowEnd h c s
      else s
    | none => s)

/-! ## Cylinders -/

/-- A refill that has reached P1 (spec/05 R90): READY, the failure count 0, and REFILL_RECOVERED if it stood above 0; the
arbiter looks. -/
def refillEnd (c : Fin 4) (s : State) : State :=
  let s1 := readyOrDisabled c (s.modCyl c fun x => { x with failures := 0 })
  arbitrate (if 0 < s.cylinders[c].failures then cylinderReport c .refillRecovered s1 else s1)

/-- CYLINDER_PRESSURE_READING (spec/05 R87, R90, R93, spec/07 R125): the measured pressure follows the reading, which is
tested as the cylinder's state requires. -/
def execCylinderPressureReading (c : Fin 4) (raw : Int) (s : State) : Host.Outcome State Fault Refusal :=
  let s1 := s.modCyl c fun x => { x with pressure := clampReading 4000 raw, overRange := decide (4000 < raw) }
  .next (match s1.cylinders[c].state with
    | .refilling =>
      match activeFillPressure s1 with
      | some p1 => if p1 ≤ s1.cylinders[c].pressure then refillEnd c s1 else s1
      | none => s1
    | .ready => topUp c s1
    | .discharging =>
      match s1.cylinders[c].owner, s1.cylinders[c].shot with
      | some h, some x => dischargeReading c h x s1
      | _, _ => s1
    | .idle | .measuring | .fault | .disabled | .outOfService => s1)

/-- REFILL_TIMER_EXPIRY (spec/05 R91). -/
def execRefillTimerExpiry (c : Fin 4) (s : State) : Host.Outcome State Fault Refusal :=
  .next (if s.cylinders[c].state = .refilling ∧ s.cylinders[c].refillTimer.isRunning then refillTimeoutAct c s else s)

/-- RETRY_TIMER_EXPIRY (spec/05 R92). -/
def execRetryTimerExpiry (c : Fin 4) (s : State) : Host.Outcome State Fault Refusal :=
  .next (if s.cylinders[c].state = .fault ∧ s.cylinders[c].retryTimer.isRunning then retryAct c s else s)

/-- SETTLE_TIMER_EXPIRY (spec/05 R96). -/
def execSettleTimerExpiry (c : Fin 4) (s : State) : Host.Outcome State Fault Refusal :=
  .next (if s.cylinders[c].state = .measuring ∧ s.cylinders[c].settleTimer.isRunning then completeMeasurement c s else s)

/-! ## Gas supply monitor -/

/-- BUFFER_READING (spec/05 R102). -/
def execBufferReading (raw : Int) (s : State) : Host.Outcome State Fault Refusal := .next (bufferAct raw s)

/-- TEMPERATURE_READING (spec/05 R103); none is an open sensor. -/
def execTemperatureReading (reading : Option Int) (s : State) : Host.Outcome State Fault Refusal :=
  .next (temperatureAct reading s)

/-- TEMP_HOLD_EXPIRY (spec/05 R103). -/
def execTempHoldExpiry (s : State) : Host.Outcome State Fault Refusal :=
  .next (if s.gas.holdTimer.isRunning then
      setCondition .tempSensor
        ((s.modGas fun g => { g with holdTimer := .expired }).modWithhold fun w => { w with temp := true })
    else s)

/-- IDLE_TIMER_EXPIRY (spec/05 R104): STANDBY is entered from ACTIVE if the lane sensor stands off. -/
def execIdleTimerExpiry (s : State) : Host.Outcome State Fault Refusal :=
  .next (if s.gas.idleTimer.isRunning then
      let s1 := s.modGas fun g => { g with idleTimer := .expired }
      if s.gas.standby = .active ∧ s.gas.laneSensor = false then enterStandby s1 else s1
    else s)

/-- LANE_SENSOR_OFF (spec/05 R104). -/
def execLaneSensorOff (s : State) : Host.Outcome State Fault Refusal :=
  let s1 := s.modGas fun g => { g with laneSensor := false }
  .next (if s.gas.standby = .active ∧ s.gas.idleTimer = .expired then enterStandby s1 else s1)

/-- LANE_SENSOR_ON (spec/05 R105). -/
def execLaneSensorOn (s : State) : Host.Outcome State Fault Refusal :=
  .next (beginWake (s.modGas fun g => { g with laneSensor := true }))

/-- WAKE_TIMER_EXPIRY (spec/05 R105). -/
def execWakeTimerExpiry (s : State) : Host.Outcome State Fault Refusal :=
  .next (if s.gas.wakeTimer.isRunning then completeWake (s.modGas fun g => { g with wakeTimer := .expired }) else s)

/-! ## Verdict unit -/

/-- CONFIRM_SENSOR_ON (spec/08 R144). -/
def execConfirmSensorOn (s : State) : Host.Outcome State Fault Refusal :=
  .next (if s.verdicts.rejects.any RejectEntry.fired then
      s.modVerdicts fun u => { u with rejects := withoutFired u.rejects }
    else s.modVerdicts fun u => { u with unmatched := min countLimit (u.unmatched + 1) })

/-- GATE_PULSE_EXPIRY (spec/08 R143). -/
def execGatePulseExpiry (s : State) : Host.Outcome State Fault Refusal :=
  .next (if s.verdicts.gateTimer.isRunning then
      s.modVerdicts fun u => { u with gateOn := false, gateTimer := .stopped }
    else s)

end Sys2Proof.Machine
end

