-- ==== Sys2Proof/Machine/Dispatch.lean ====
section
/-! DEFINITION. One arm per command: a direct call of its meaning. -/

namespace Sys2Proof.Machine

def exec (i : Instr) (s : State) : Host.Outcome State Fault Refusal :=
  match i with
  | .powerOnReset strapA strapB => Sys2Proof.Machine.execPowerOnReset strapA strapB s
  | .byteReceived b sensors => Sys2Proof.Machine.execByteReceived b sensors s
  | .gapTimerExpiry => Sys2Proof.Machine.execGapTimerExpiry s
  | .frameSent sensors => Sys2Proof.Machine.execFrameSent sensors s
  | .restartPerform => Sys2Proof.Machine.execRestartPerform s
  | .unknownRequest kind payload => Sys2Proof.Machine.execUnknownRequest kind payload s
  | .readStatus index => Sys2Proof.Machine.execReadStatus index s
  | .readHead head sensors => Sys2Proof.Machine.execReadHead head sensors s
  | .readCylinder cylinder => Sys2Proof.Machine.execReadCylinder cylinder s
  | .readQueues part => Sys2Proof.Machine.execReadQueues part s
  | .readRecipe slot => Sys2Proof.Machine.execReadRecipe slot s
  | .readConfig index => Sys2Proof.Machine.execReadConfig index s
  | .readGasTable index => Sys2Proof.Machine.execReadGasTable index s
  | .readAllowances index => Sys2Proof.Machine.execReadAllowances index s
  | .configure mask values => Sys2Proof.Machine.execConfigure mask values s
  | .loadGasTable points => Sys2Proof.Machine.execLoadGasTable points s
  | .loadRecipe fields => Sys2Proof.Machine.execLoadRecipe fields s
  | .amendRecipe mask values => Sys2Proof.Machine.execAmendRecipe mask values s
  | .activateRecipe id => Sys2Proof.Machine.execActivateRecipe id s
  | .discardRecipe => Sys2Proof.Machine.execDiscardRecipe s
  | .fill tag mass => Sys2Proof.Machine.execFill tag mass s
  | .resyncFill => Sys2Proof.Machine.execResyncFill s
  | .headEnable head => Sys2Proof.Machine.execHeadEnable head s
  | .headDisable head => Sys2Proof.Machine.execHeadDisable head s
  | .headReset head => Sys2Proof.Machine.execHeadReset head s
  | .cylinderEnable cylinder => Sys2Proof.Machine.execCylinderEnable cylinder s
  | .cylinderDisable cylinder => Sys2Proof.Machine.execCylinderDisable cylinder s
  | .infeedHold => Sys2Proof.Machine.execInfeedHold s
  | .infeedRelease => Sys2Proof.Machine.execInfeedRelease s
  | .takeVerdicts count => Sys2Proof.Machine.execTakeVerdicts count s
  | .clearConditions mask => Sys2Proof.Machine.execClearConditions mask s
  | .setReports mask => Sys2Proof.Machine.execSetReports mask s
  | .selectSource code => Sys2Proof.Machine.execSelectSource code s
  | .relock => Sys2Proof.Machine.execRelock s
  | .restart => Sys2Proof.Machine.execRestart s
  | .encoderCount input dir index sensors order => Sys2Proof.Machine.execEncoderCount input dir index sensors order s
  | .simulatedCount sensors order => Sys2Proof.Machine.execSimulatedCount sensors order s
  | .stopDetectExpiry => Sys2Proof.Machine.execStopDetectExpiry s
  | .probeBuildEnd h raw => Sys2Proof.Machine.execProbeBuildEnd h raw s
  | .buildTimeoutExpiry h => Sys2Proof.Machine.execBuildTimeoutExpiry h s
  | .probeHoldExpiry h raw => Sys2Proof.Machine.execProbeHoldExpiry h raw s
  | .dwellTimerExpiry h raw => Sys2Proof.Machine.execDwellTimerExpiry h raw s
  | .flowDetectTimerExpiry h => Sys2Proof.Machine.execFlowDetectTimerExpiry h s
  | .cylinderPressureReading c raw => Sys2Proof.Machine.execCylinderPressureReading c raw s
  | .refillTimerExpiry c => Sys2Proof.Machine.execRefillTimerExpiry c s
  | .retryTimerExpiry c => Sys2Proof.Machine.execRetryTimerExpiry c s
  | .settleTimerExpiry c => Sys2Proof.Machine.execSettleTimerExpiry c s
  | .bufferReading raw => Sys2Proof.Machine.execBufferReading raw s
  | .temperatureReading reading => Sys2Proof.Machine.execTemperatureReading reading s
  | .tempHoldExpiry => Sys2Proof.Machine.execTempHoldExpiry s
  | .idleTimerExpiry => Sys2Proof.Machine.execIdleTimerExpiry s
  | .laneSensorOff => Sys2Proof.Machine.execLaneSensorOff s
  | .laneSensorOn => Sys2Proof.Machine.execLaneSensorOn s
  | .wakeTimerExpiry => Sys2Proof.Machine.execWakeTimerExpiry s
  | .confirmSensorOn => Sys2Proof.Machine.execConfirmSensorOn s
  | .gatePulseExpiry => Sys2Proof.Machine.execGatePulseExpiry s
  | .readBadItem item index => Sys2Proof.Machine.execReadBadItem item index s
  | .headBadAction head action => Sys2Proof.Machine.execHeadBadAction head action s
  | .cylinderBadAction cylinder action => Sys2Proof.Machine.execCylinderBadAction cylinder action s

end Sys2Proof.Machine
end

