-- ==== Sys2Proof/Safety.lean ====
section
/-! DEFINITION. What claims speak of: when the link can take a request at once, and the properties that every command keeps
(the laws the spec states of the whole part). -/

namespace Sys2Proof.Machine

/-! ## Premises on the link -/

/-- A request that arrives is taken at once: nothing waits before it, a place is free in the transmit queue, and no restart
is pending (spec/11 R175). -/
def LinkReady (s : State) : Prop :=
  s.link.rx = [] ∧ s.link.tx.length < 8 ∧ s.link.restartPending = false

/-- The state with a reply at the tail of its transmit queue. -/
def State.withReply (s : State) (f : Frame) : State :=
  { s with link := { s.link with tx := s.link.tx ++ [{ isReport := false, frame := f }] } }

/-- A number in `w` bytes, low byte first (spec/11 R188). -/
def wire (w n : Nat) : List Byte := (List.range w).map fun i => BitVec.ofNat 8 (n / 256 ^ i)

/-! ## The message link (spec/11 R173, R175, R180) -/

/-- The receive buffer, the transmit queue and its reports stay within their places; the gap timer runs in every assembler
state but HUNT; the frame in assembly stays within its length and that within 120. -/
structure LinkSafe (l : Link) : Prop where
  rx        : l.rx.length ≤ 2
  tx        : l.tx.length ≤ 8
  reports   : l.tx.countP TxFrame.isReport ≤ 6
  gap       : l.asm.state = .hunt ↔ l.asm.gapTimer = .stopped
  length    : l.asm.length ≤ 120
  started   : l.asm.state = .length ∨ l.asm.state = .kind → l.asm.payload = []
  filling   : l.asm.state = .payload → l.asm.payload.length < l.asm.length
  payload   : l.asm.payload.length ≤ l.asm.length

/-! ## The stop request (spec/10 R170) -/

/-- The stop-request line is asserted if and only if a STOP-class condition (numbers 0 to 3) is SET, and the withhold reason
STOP stands exactly while it is. -/
def StopSafe (s : State) : Prop :=
  (s.conds.stopLine = true ↔
    s.conds.isSet[0] = true ∨ s.conds.isSet[1] = true ∨ s.conds.isSet[2] = true ∨ s.conds.isSet[3] = true) ∧
  s.infeed.withhold.stop = s.conds.stopLine

/-! ## The withhold set (spec/03 R48) -/

/-- Each stored withhold reason that another block's state gives is present exactly while the table of spec/03 R48 says:
NO_RECIPE, GAS, WAKE, TEMP, POSITION, SIMULATED, STOP and NO_CYLINDER; the ninth, HOLD_REQUEST, is the host's own. The
temperature hold timer is stopped exactly in the temperature state GOOD (spec/05 R103). -/
structure WithholdSafe (s : State) : Prop where
  noRecipe   : s.infeed.withhold.noRecipe = true ↔ s.slots[0].state ≠ .active ∧ s.slots[1].state ≠ .active
  gas        : s.infeed.withhold.gas = s.gas.throttleOn
  wake       : s.infeed.withhold.wake = true ↔ s.gas.standby = .waking
  temp       : s.infeed.withhold.temp = true ↔ s.gas.holdTimer = .expired
  tempGood   : s.gas.tempGood = true ↔ s.gas.holdTimer = .stopped
  position   : s.infeed.withhold.position = true ↔ s.tracker.state ≠ .locked
  simulated  : s.infeed.withhold.simulated = true ↔ s.tracker.source = .simulated
  stop       : s.infeed.withhold.stop = s.conds.stopLine
  noCylinder : s.infeed.withhold.noCylinder = true ↔
    ∀ c : Fin 4, s.cylinders[c].state = .disabled ∨ s.cylinders[c].state = .outOfService

/-- An admission stands only while the tracker is LOCKED, and so does an open infeed gate (spec/03 R51). -/
def AdmissionSafe (s : State) : Prop :=
  s.infeed.withhold.position = true → s.infeed.gateOpen = false ∧ ∀ h : Fin 16, s.infeed.admitted[h] = false

/-! ## Room in the verdict log (spec/03 R50, spec/08 R140) -/

/-- The verdict log, the cans in process and the pending admissions together number at most 64. -/
def RoomSafe (s : State) : Prop := roomTaken s ≤ 64

/-! ## Cylinders (spec/05 R88) -/

/-- The table of spec/05 R88: which valve is open and which timer runs in each state. -/
structure CylinderSafe (x : Cylinder) : Prop where
  refillValve    : x.refillValve = true ↔ x.state = .refilling
  dischargeValve : x.dischargeValve = true ↔ x.state = .discharging
  refillTimer    : x.refillTimer.isRunning = true ↔ x.state = .refilling
  retryTimer     : x.retryTimer.isRunning = true ↔ x.state = .fault
  settleTimer    : x.settleTimer.isRunning = true ↔ x.state = .measuring

/-! ## Configuration, gas table, recipes and allowances -/

/-- The machine configuration stands as CONFIGURE may leave it (spec/09 R161): every field within its range, the angles
strictly increasing, the throttle-off threshold above the throttle-on threshold. -/
def ConfigSafe (c : MachineConfig) : Prop :=
  (∀ f : Fin 41, configRanges[f].1 ≤ c.fields[f] ∧ c.fields[f] ≤ configRanges[f].2) ∧
  (∀ i : Fin 12, c.fields[i.val]'(by omega) < c.fields[i.val + 1]'(by omega)) ∧
  throttleOn c < throttleOff c

/-- A gas table that may be in force (spec/06 R109). -/
def GasTableSafe (t : GasTable) : Prop :=
  (∀ i : Fin 17, t.points[i] ≤ 65000) ∧
  ∀ i : Fin 16, t.points[i.val]'(by omega) < t.points[i.val + 1]'(by omega)

/-- A recipe that passes the ranges of spec/09 R154 and the cross-checks of R155. -/
structure RecipeSafe (r : Recipe) : Prop where
  ranges    : ∀ f : Fin 25, recipeRanges[f].1 ≤ r.fields[f] ∧ r.fields[f] ≤ recipeRanges[f].2
  fill      : fillMin r ≤ fillMax r
  dose      : doseMin r ≤ doseMax r
  depth     : depthMin r ≤ depthMax r
  noCup     : depthMax r < noCupDepth r
  diameter  : diameterMin r ≤ diameterMax r
  build     : probeBuildMin r ≤ probePressure r
  floor     : floorPressure r + 500 ≤ fillPressure r
  tolerance : toleranceLow r < doseMin r

/-- The pairs of slot states of spec/09 R152, in either order of slot number. -/
def legalPair (a b : SlotState) : Prop :=
  (a, b) ∈ ([(.free, .free), (.free, .pending), (.pending, .free), (.free, .active), (.active, .free),
    (.pending, .active), (.active, .pending), (.active, .retiring), (.retiring, .active)] : List (SlotState × SlotState))

/-- The number of cans in process that refer to a slot (spec/09 R152). -/
def cansOf (s : State) (i : Fin 2) : Nat :=
  allHeads.countP fun h => decide (s.heads[h].record.map CanRecord.slot = some i)

/-- The recipe store and the allowances (spec/09 R152, R158, spec/06 R118): a legal pair of states, a legal recipe in every
slot but a FREE one, every allowance at most 2000, and 0 in a FREE slot; each reference count is the number of cans in process
that refer to the slot, each such can refers to a slot that is ACTIVE or RETIRING, and a RETIRING slot still has a can. -/
structure StoreSafe (s : State) : Prop where
  pair       : legalPair s.slots[0].state s.slots[1].state
  record     : ∀ i : Fin 2, s.slots[i].recipe = none ↔ s.slots[i].state = .free
  recipe     : ∀ (i : Fin 2) (r : Recipe), s.slots[i].recipe = some r → RecipeSafe r
  allowance  : ∀ (i : Fin 2) (c : Fin 4), s.allowances[i][c] ≤ 2000
  free       : ∀ (i : Fin 2) (c : Fin 4), s.slots[i].state = .free → s.allowances[i][c] = 0
  refs       : ∀ i : Fin 2, s.slots[i].refs = cansOf s i
  refersTo   : ∀ (h : Fin 16) (r : CanRecord), s.heads[h].record = some r →
    s.slots[r.slot].state = .active ∨ s.slots[r.slot].state = .retiring
  retiring   : ∀ i : Fin 2, s.slots[i].state = .retiring → 0 < s.slots[i].refs

/-- All the figures the host loads. -/
structure FiguresSafe (s : State) : Prop where
  config   : ConfigSafe s.config
  gasTable : GasTableSafe s.gasTable
  store    : StoreSafe s

/-! ## Ranges of the items (the item table of each chapter) -/

/-- The items of a can record within their ranges: a sequence number that is given to cans (spec/03 R53), at most four
reasons, no reason twice (R65), and at most three shots (R64). -/
structure RecordRanges (r : CanRecord) : Prop where
  sequence : 1 ≤ r.seq ∧ r.seq ≤ 16777215
  reasons  : r.reasons.length ≤ 4 ∧ r.reasons.Nodup
  shots    : r.shots.length ≤ 3

/-- The items of one head within their ranges (spec/02 item table, spec/04 R71), with what keeps the shots of its can within
three: a can not yet decided has none, and one that asks for gas, takes it or has a result to come has at most two (spec/07
R123, R130). -/
structure HeadRanges (x : Head) : Prop where
  noFlow    : x.noFlowCount ≤ 3
  zeros     : x.zeroCount ≤ 3
  offset    : -50 ≤ x.zeroOffset ∧ x.zeroOffset ≤ 50
  record    : ∀ r : CanRecord, x.record = some r → RecordRanges r
  undecided : ∀ r : CanRecord, x.record = some r → x.decided = false → r.shots = []
  toCome    : ∀ r : CanRecord, x.record = some r →
    x.cycle = .waiting ∨ x.cycle = .charging ∨ x.pendingResult ≠ none → r.shots.length ≤ 2

/-- The items of the infeed block within their ranges (spec/03 item table). -/
structure InfeedRanges (i : Infeed) : Prop where
  sequence : 1 ≤ i.nextSeq ∧ i.nextSeq ≤ 16777215
  queue    : i.fillQueue.length ≤ 8
  entries  : ∀ e : FillEntry, e ∈ i.fillQueue → e.tag < 65536 ∧ ∀ m : Nat, e.mass = some m → m ≤ 9999
  debt     : i.debt ≤ 16
  expected : ∀ t : Nat, i.expectedTag = some t → t < 65536
  strays   : i.strayCount ≤ 65535

/-- The awaiting list (spec/03 R61, R62): one can per head at most, so at most 16; each entry names the can its head holds, in
process and not bound, noted as settled exactly when its charge decision is taken; the oldest is not so noted; and the list is
empty while the fill report queue holds an entry (R54, R58). -/
structure AwaitingSafe (s : State) : Prop where
  once    : (s.infeed.awaiting.map AwaitEntry.head).Nodup
  held    : ∀ e : AwaitEntry, e ∈ s.infeed.awaiting → ∃ r : CanRecord, s.heads[e.head].record = some r ∧ r.seq = e.seq ∧
    r.tag = none ∧ r.fillMass = none ∧ r.boundLost = false ∧ s.heads[e.head].decided = e.settled
  oldest  : ∀ e : AwaitEntry, s.infeed.awaiting.head? = some e → e.settled = false
  either  : s.infeed.fillQueue = [] ∨ s.infeed.awaiting = []

/-- Every counter, queue and measured value within the range its item table gives (spec/01, 02, 03, 05, 08), but for the
reject queue, to which the model gives no limit (log 28). -/
structure RangesSafe (s : State) : Prop where
  position    : s.tracker.position < 4096
  revolution  : s.tracker.revolution < 4294967296
  heads       : ∀ h : Fin 16, HeadRanges s.heads[h]
  infeed      : InfeedRanges s.infeed
  awaiting    : AwaitingSafe s
  pressures   : ∀ c : Fin 4, s.cylinders[c].pressure ≤ 4000 ∧ s.cylinders[c].failures ≤ 3
  grants      : s.grantQueue.Nodup
  buffer      : s.gas.buffer ≤ 6000
  temperature : -400 ≤ s.gas.heldTemp ∧ s.gas.heldTemp ≤ 800
  unmatched   : s.verdicts.unmatched ≤ 65535
  log         : ∀ r : CanRecord, r ∈ s.verdicts.log → RecordRanges r

/-! ## Pairing of heads and cylinders (spec/05 R94, spec/02 R44) -/

/-- Each head in CHARGING is paired with exactly one cylinder, which is DISCHARGING with that head as its owner, and each
DISCHARGING cylinder has an owner so paired with it (spec/05 R94); a head has an inlet valve open only to the cylinder it is
paired with (spec/02 R44); a head with no can is EMPTY and an EMPTY head holds none (spec/02 R31); the probe step is IDLE
whenever the head is not PROBING (spec/04), and the probe valve is open only in BUILD (spec/04 R80); the grant queue holds
exactly the heads that are WAITING (spec/05 R100). The last three say what stands between INFEED and the charge: a head asks
for gas or takes it only with a target dose, its window OPEN and its decision taken (spec/07 R123); a pending result stands
only in CHARGED, DWELLING or LIFTED (spec/07 R129), after the decision; up to PROBED the decision is not taken and the window
not CLOSED (spec/02 R37). -/
structure PairingSafe (s : State) : Prop where
  charging    : ∀ h : Fin 16, s.heads[h].cycle = .charging →
    ∃ c : Fin 4, s.heads[h].paired = some c ∧ s.cylinders[c].state = .discharging ∧ s.cylinders[c].owner = some h
  paired      : ∀ (h : Fin 16) (c : Fin 4), s.heads[h].paired = some c → s.heads[h].cycle = .charging
  discharging : ∀ c : Fin 4, s.cylinders[c].state = .discharging →
    ∃ h : Fin 16, s.cylinders[c].owner = some h ∧ s.heads[h].paired = some c ∧ s.cylinders[c].shot.isSome = true
  inlets      : ∀ (h : Fin 16) (c : Fin 4), s.heads[h].inlets[c] = true ↔ s.heads[h].paired = some c
  empty       : ∀ h : Fin 16, s.heads[h].record = none ↔ s.heads[h].cycle = .empty
  probing     : ∀ h : Fin 16, s.heads[h].probeStep = .idle ↔ s.heads[h].cycle ≠ .probing
  probeValve  : ∀ h : Fin 16, s.heads[h].probeValve = true → s.heads[h].probeStep = .build
  waiting     : ∀ h : Fin 16, h ∈ s.grantQueue ↔ s.heads[h].cycle = .waiting
  asks        : ∀ h : Fin 16, s.heads[h].cycle = .waiting ∨ s.heads[h].cycle = .charging →
    (∃ r t, s.heads[h].record = some r ∧ r.target = some t) ∧ s.heads[h].window = .isOpen ∧ s.heads[h].decided = true ∧
      s.heads[h].pendingResult = none
  result      : ∀ h : Fin 16, s.heads[h].pendingResult ≠ none →
    (s.heads[h].cycle = .charged ∨ s.heads[h].cycle = .dwelling ∨ s.heads[h].cycle = .lifted) ∧ s.heads[h].decided = true
  early       : ∀ h : Fin 16, s.heads[h].cycle = .seated ∨ s.heads[h].cycle = .crimped ∨ s.heads[h].cycle = .probing ∨
    s.heads[h].cycle = .probed → s.heads[h].decided = false ∧ s.heads[h].window ≠ .closed

end Sys2Proof.Machine
end

