-- ==== Sys2Proof/Certificates/Slice0/Obligations.lean ====
section
/-! DEFINITION. The statements for the provers, taken from the numbered rules of spec/. Each docstring names the rules and,
where a clause rests on the model's own choice, the log entry. -/

open Sys2Proof Sys2Proof.Machine

/-! ## The block as the host runs it -/

/-- One step executes the command at the front of the queue on the state with the queue's rest. On an empty queue the block
idles (DESIGN CHOICE, log 2). -/
def Obligations.StepRunsTheFrontCommand : Prop :=
  (∀ (c : Instr) (rest : List Instr) (s : State),
    step { s with pending := c :: rest } = exec c { s with pending := rest }) ∧
  (∀ s : State, s.pending = [] → step s = .next s)

/-- The state after power-on reset holds the values the reset rules give: R20, R47, R68, R86, R108, R122, R138, R151, R163,
R171, R182, with the default tables of R16, R109 and the configuration rules. -/
def Obligations.ResetValues : Prop :=
  let s := State.reset
  (s.tracker.source = .primary ∧ s.tracker.state = .unlocked ∧ s.tracker.firstIndexSeen = false ∧ s.tracker.position = 0 ∧
    s.tracker.revolution = 0 ∧ s.tracker.absolute = 0 ∧ s.tracker.highWater = 0 ∧ s.tracker.interval = 0 ∧
    s.tracker.motion = .stopped ∧ s.tracker.stopDetect = .stopped ∧ s.tracker.genRunning = false) ∧
  (∀ h : Fin 16, s.heads[h] =
    { service := .zeroing, returnState := none, cycle := .empty, record := none, pendingResult := none, paired := none,
      zeroOffset := 0, noFlowCount := 0, zeroCount := 0, probeStep := .idle, pa := none, probeTimer := .stopped,
      dwellTimer := .stopped, flowTimer := .stopped, headDown := false, collet := false, probeValve := false,
      ventValve := false, inlets := #v[false, false, false, false], window := .notOpen, decided := false,
      flowDetected := false, firstDwell := none }) ∧
  s.infeed.withhold = { noRecipe := true, holdRequest := false, gas := false, wake := false, temp := false,
                        position := true, simulated := false, stop := false, noCylinder := false } ∧
  (∀ h : Fin 16, s.infeed.admitted[h] = false) ∧
  (s.infeed.gateOpen = false ∧ s.infeed.nextSeq = 1 ∧ s.infeed.fillQueue = [] ∧ s.infeed.awaiting = [] ∧
    s.infeed.debt = 0 ∧ s.infeed.expectedTag = none ∧ s.infeed.strayCount = 0) ∧
  (∀ c : Fin 4, s.cylinders[c] =
    { state := .idle, pressure := s.cylinders[c].pressure, overRange := s.cylinders[c].overRange, failures := 0,
      disablePending := false, owner := none, shot := none, lastShot := none, refillTimer := .stopped,
      retryTimer := .stopped, settleTimer := .stopped, refillValve := false, dischargeValve := false }) ∧
  s.grantQueue = [] ∧
  (s.gas.throttleOn = false ∧ s.gas.heldTemp = 200 ∧ s.gas.tempGood = false ∧ s.gas.holdTimer = .running 10000 ∧
    s.gas.standby = .active ∧ s.gas.idleTimer = .running 30000 ∧ s.gas.wakeTimer = .stopped ∧ s.gas.economy = false) ∧
  s.gasTable.points.toList = [0, 459, 932, 1421, 1925, 2447, 2989, 3545, 4126, 4729, 5347, 5995, 6665, 7361, 8087, 8837,
    9627] ∧
  (∀ (i : Fin 2) (c : Fin 4), s.allowances[i][c] = 0) ∧
  (s.verdicts.log = [] ∧ s.verdicts.rejects = [] ∧ s.verdicts.gateOn = false ∧ s.verdicts.gateTimer = .stopped ∧
    s.verdicts.unmatched = 0) ∧
  (∀ i : Fin 2, s.slots[i] = { state := .free, recipe := none, refs := 0 }) ∧
  s.config.fields.toList =
    [0, 192, 384, 640, 704, 1024, 2560, 2624, 3136, 3328, 3456, 3840, 3968, 2, 128, 200, 1, 546, 1500, 1500, 1500, 1500,
     60, 25, 20, 80, 400, 500, 50, 3950, 4150, 10000, 30000, 1500, 1024, 60, 128, 101, 15, 200, 1000] ∧
  ((∀ k : Fin 12, s.conds.isSet[k] = false) ∧ s.conds.mask = 0xFFFF#16 ∧ s.conds.stopLine = false) ∧
  (s.link.asm.state = .hunt ∧ s.link.asm.gapTimer = .stopped ∧ s.link.rx = [] ∧ s.link.tx = [] ∧
    s.link.restartPending = false) ∧
  s.pending = []

/-- POWER_ON_RESET sets every block to the values of ResetValues and the line rate as the straps give (R172). The inputs,
which no reset drives (measured pressures and their marks, buffer pressure, lane sensor, head and pocket sensors), and the
queue of commands stand (DESIGN CHOICE, log 12). -/
def Obligations.PowerOnResets : Prop :=
  ∀ (strapA strapB : Bool) (s : State),
    exec (.powerOnReset strapA strapB) s = .next
      { State.reset with
        cylinders := Vector.ofFn fun c =>
          { State.reset.cylinders[c] with pressure := s.cylinders[c].pressure, overRange := s.cylinders[c].overRange }
        gas := { State.reset.gas with buffer := s.gas.buffer, laneSensor := s.gas.laneSensor }
        link := { State.reset.link with
          rate := if strapA = strapB then .baud57600 else if strapA then .baud115200 else .baud230400 }
        sensors := s.sensors
        pending := s.pending }

/-- RESTART is accepted in every state: its ACCEPT is queued and restart pending becomes yes. RESTART_PERFORM, once that
ACCEPT has been sent: every block takes its RESTART state (R20, R47, R68, R86, R108,
R118, R138, R151, R163, R171, R181, R182). The configuration, gas table, report mask, line rate, held temperature, its state
and its hold timer, and the reason TEMP are kept; a RETIRING slot becomes FREE; the allowances are the initial ones; the
cylinders refill at once if a slot is ACTIVE. Before the ACCEPT has been sent the command finds nothing to perform (DEDUCED,
log 4); inputs are kept (log 12). -/
def Obligations.RestartPerforms : Prop :=
  (∀ s : State, s.link.restartPending = true → s.link.tx = [] → ∃ t : State,
    exec .restartPerform s = .next t ∧
    t.tracker = State.reset.tracker ∧ t.heads = State.reset.heads ∧
    t.infeed = { State.reset.infeed with
      withhold := { State.reset.infeed.withhold with
        noRecipe := !(s.slots[0].state == .active || s.slots[1].state == .active), temp := s.infeed.withhold.temp } } ∧
    (∀ c : Fin 4, t.cylinders[c] =
      let x := { State.reset.cylinders[c] with pressure := s.cylinders[c].pressure, overRange := s.cylinders[c].overRange }
      if s.slots[0].state = .active ∨ s.slots[1].state = .active then
        { x with state := .refilling, refillValve := true, refillTimer := .running (refillTimeout s.config) }
      else x) ∧
    t.grantQueue = [] ∧
    t.gas = { s.gas with throttleOn := false, standby := .active, economy := false, wakeTimer := .stopped,
                         idleTimer := .running (idleDelay s.config) } ∧
    t.gasTable = s.gasTable ∧ t.verdicts = State.reset.verdicts ∧ t.config = s.config ∧
    (∀ i : Fin 2, t.slots[i] =
      if s.slots[i].state = .retiring then { state := .free, recipe := none, refs := 0 }
      else { s.slots[i] with refs := 0 }) ∧
    (∀ (i : Fin 2) (c : Fin 4), t.allowances[i][c] = ((t.slots[i].recipe.map initialAllowance).getD 0)) ∧
    t.conds = { State.reset.conds with mask := s.conds.mask } ∧
    t.link = { State.reset.link with rate := s.link.rate, lineOut := s.link.lineOut } ∧
    t.sensors = s.sensors ∧ t.pending = s.pending) ∧
  (∀ s : State, s.link.restartPending = false ∨ s.link.tx ≠ [] → exec .restartPerform s = .next s) ∧
  (∀ s : State, LinkReady s →
    exec .restart s = .next { s with link := { s.link with
      tx := s.link.tx ++ [{ isReport := false, frame := ⟨0x80, [0x13]⟩ }], restartPending := true } })

/-! ## Frames and the link -/

/-- The layout of a frame on the line (R183), and the check over the nine bytes 31h to 39h (R174). -/
def Obligations.FrameOnTheLine : Prop :=
  (∀ f : Frame, f.payload.length ≤ 120 →
    f.lineBytes = [0xC3#8, BitVec.ofNat 8 f.payload.length, f.kind] ++ f.payload ++
      [(f.check >>> 8).setWidth 8, f.check.setWidth 8] ∧
    f.lineBytes.length = f.payload.length + 5 ∧
    f.check = crc (BitVec.ofNat 8 f.payload.length :: f.kind :: f.payload)) ∧
  crc [0x31#8, 0x32#8, 0x33#8, 0x34#8, 0x35#8, 0x36#8, 0x37#8, 0x38#8, 0x39#8] = 0x29B1#16

/-- The FILL payload (R186): tag in bytes 0 and 1, mass in bytes 2 and 3, little-endian; the frame of tag 503 with 2475 dg; a
mass above 9999 refused OUT_OF_RANGE at field index 1, and a tag out of sequence refused at field index 0. -/
def Obligations.FillPayloadLayout : Prop :=
  (∀ b0 b1 b2 b3 : Byte,
    decodeRequest ⟨0x08, [b0, b1, b2, b3]⟩ = .ok (.fill (b0.toNat + 256 * b1.toNat) (b2.toNat + 256 * b3.toNat))) ∧
  (∀ tag mass : Nat, tag < 65536 → mass < 65536 →
    encodeRequest (.fill tag mass) = ⟨0x08, [BitVec.ofNat 8 (tag % 256), BitVec.ofNat 8 (tag / 256),
      BitVec.ofNat 8 (mass % 256), BitVec.ofNat 8 (mass / 256)]⟩) ∧
  (let c := crc [0x04#8, 0x08#8, 0xF7#8, 0x01#8, 0xAB#8, 0x09#8]
   (encodeRequest (.fill 503 2475)).lineBytes =
     [0xC3#8, 0x04#8, 0x08#8, 0xF7#8, 0x01#8, 0xAB#8, 0x09#8, (c >>> 8).setWidth 8, c.setWidth 8]) ∧
  (∀ (tag mass : Nat) (s : State), LinkReady s → tag < 65536 → mass < 65536 → 9999 < mass →
    exec (.fill tag mass) s = .next (s.withReply ⟨0x81, [0x08, 4, 1]⟩)) ∧
  (∀ (tag mass e : Nat) (s : State), LinkReady s → tag < 65536 → mass ≤ 9999 → s.infeed.expectedTag = some e →
    8 < (tag + 65536 - e) % 65536 →
    exec (.fill tag mass) s = .next (setCondition .fillSequence (s.withReply ⟨0x81, [0x08, 8, 0]⟩)))

/-- The frame that carries a request decodes to that request, for every request whose fields a payload can carry (R176, R184
to R186). -/
def Obligations.RequestsRoundTrip : Prop :=
  ∀ r : Request, r.wf = true → decodeRequest (encodeRequest r) = .ok r

/-- A frame received byte by byte from HUNT, with no gap and no fault, is one arrival of that frame (R173, R174, R183): the
run of its n + 5 BYTE_RECEIVED commands ends as the arrival does. That a request arrives and is taken in the act of its last
byte is log 3, and that the bytes carry the sensor levels it may sample is log 5: the model's choices. -/
def Obligations.BytesAssembleAFrame : Prop :=
  ∀ (f : Frame) (v : Sensors) (s : State), f.payload.length ≤ 120 → s.link.asm.state = .hunt →
    Host.Core.run Sys2Proof.core (f.payload.length + 5)
        { s with pending := f.lineBytes.map fun b => Instr.byteReceived (.data b) v } =
      .next (arrive f { s with pending := [], sensors := v, link := { s.link with asm := .hunting } })

/-- BYTE_RECEIVED by assembler state, row by row of the table of R173, with the discards and the test of R174. A running timer
holds the time it was started with (log 1), a good frame arrives in the same act (log 3), and the command shows the sensor
levels a request may sample (log 5): the model's choices. -/
def Obligations.AssemblerTakesBytes : Prop :=
  ∀ (b : Byte) (v : Sensors) (s : State),
    let u := { s with sensors := v }
    let withAsm (a : Assembler) : State := { u with link := { s.link with asm := a } }
    let a := s.link.asm
    let discarded : State := setCondition .linkFrameError (withAsm .hunting)
    (a.state = .hunt → exec (.byteReceived .fault v) s = .next u) ∧
    (a.state ≠ .hunt → exec (.byteReceived .fault v) s = .next discarded) ∧
    (a.state = .hunt → b ≠ 0xC3#8 → exec (.byteReceived (.data b) v) s = .next u) ∧
    (a.state = .hunt → b = 0xC3#8 → exec (.byteReceived (.data b) v) s =
      .next (withAsm { state := .length, length := 0, kind := 0, payload := [], checkHigh := 0, gapTimer := .running 5 })) ∧
    (a.state = .length → b.toNat ≤ 120 → exec (.byteReceived (.data b) v) s =
      .next (withAsm { a with state := .kind, length := b.toNat, gapTimer := .running 5 })) ∧
    (a.state = .length → 120 < b.toNat → exec (.byteReceived (.data b) v) s = .next discarded) ∧
    (a.state = .kind → exec (.byteReceived (.data b) v) s =
      .next (withAsm { a with state := if a.length = 0 then .checkHigh else .payload, kind := b, gapTimer := .running 5 })) ∧
    (a.state = .payload → exec (.byteReceived (.data b) v) s =
      .next (withAsm { a with state := if a.payload.length + 1 < a.length then .payload else .checkHigh,
                              payload := a.payload ++ [b], gapTimer := .running 5 })) ∧
    (a.state = .checkHigh → exec (.byteReceived (.data b) v) s =
      .next (withAsm { a with state := .checkLow, checkHigh := b, gapTimer := .running 5 })) ∧
    (a.state = .checkLow → a.checkHigh ++ b ≠ (Frame.mk a.kind a.payload).check →
      exec (.byteReceived (.data b) v) s = .next discarded) ∧
    (a.state = .checkLow → a.checkHigh ++ b = (Frame.mk a.kind a.payload).check →
      exec (.byteReceived (.data b) v) s = .next (arrive ⟨a.kind, a.payload⟩ (withAsm .hunting)))

/-- GAP_TIMER_EXPIRY discards the frame in assembly and sets LINK_FRAME_ERROR (R173, R174). FRAME_SENT frees the place of the
oldest frame, whose bytes have gone out, and the oldest waiting request is then taken if no restart is pending (R175, R180).
With two waiting, the second is taken too if a place is then still free and no restart pending. An expiry with the timer not
running, and FRAME_SENT with nothing queued, change nothing (DESIGN CHOICE, log 1); the line's output is held as the bytes of
the frame last sent (log 26); a waiting request is taken in the same act, with the levels shown (log 3, log 5). -/
def Obligations.GapAndSentFrames : Prop :=
  (∀ (s : State) (n : Nat), s.link.asm.gapTimer = .running n →
    exec .gapTimerExpiry s = .next (setCondition .linkFrameError { s with link := { s.link with asm := .hunting } })) ∧
  (∀ (s : State) (v : Sensors) (f : TxFrame) (rest : List TxFrame), s.link.tx = f :: rest →
    s.link.rx = [] ∨ s.link.restartPending = true →
    exec (.frameSent v) s =
      .next { s with sensors := v, link := { s.link with tx := rest, lineOut := f.frame.lineBytes } }) ∧
  (∀ (s : State) (v : Sensors) (f : TxFrame) (rest : List TxFrame) (r : Frame), s.link.tx = f :: rest → rest.length < 8 →
    s.link.rx = [r] → s.link.restartPending = false →
    exec (.frameSent v) s =
      .next (takeRequest r
        { s with sensors := v, link := { s.link with rx := [], tx := rest, lineOut := f.frame.lineBytes } })) ∧
  (∀ (s : State) (v : Sensors) (f : TxFrame) (rest : List TxFrame) (r1 r2 : Frame), s.link.tx = f :: rest →
    rest.length < 8 → s.link.rx = [r1, r2] → s.link.restartPending = false →
    let t := takeRequest r1
      { s with sensors := v, link := { s.link with rx := [r2], tx := rest, lineOut := f.frame.lineBytes } }
    exec (.frameSent v) s = .next (
      if t.link.tx.length < 8 ∧ t.link.restartPending = false then takeRequest r2 { t with link := { t.link with rx := [] } }
      else t)) ∧
  (∀ s : State, s.link.asm.gapTimer = .stopped → exec .gapTimerExpiry s = .next s) ∧
  (∀ (s : State) (v : Sensors), s.link.tx = [] → exec (.frameSent v) s = .next { s with sensors := v })

/-- A request that arrives (R175, R176): taken at once and handled by its owner while the link is ready; kept waiting in the
receive buffer while no transmit place is free or a restart is pending; discarded with LINK_FRAME_ERROR, and nothing else
changed, when both places of the buffer are full. READ_HEAD carries the sensor levels it samples (log 5); that a request
command is the arrival of its frame is log 3. -/
def Obligations.RequestsAreTakenInTurn : Prop :=
  ∀ (c : Instr) (r : Request) (s : State), c.request = some r → r.wf = true →
    let u : State := match c with
      | .readHead _ v => { s with sensors := v }
      | _ => s
    (LinkReady s → exec c s = .next (handle r u)) ∧
    (s.link.tx.length = 8 ∨ s.link.restartPending = true → s.link.rx.length < 2 →
      exec c s = .next { u with link := { s.link with rx := s.link.rx ++ [encodeRequest r] } }) ∧
    (s.link.tx.length = 8 ∨ s.link.restartPending = true → s.link.rx.length = 2 →
      exec c s = .next (setCondition .linkFrameError u))

/-! ## The laws of the whole part: what every step keeps -/

/-- The receive buffer holds at most 2 frames, the transmit queue at most 8, at most 6 of them reports, and the assembler's
gap timer runs in every state but HUNT with at most 120 payload bytes gathered (R173, R175, R180): kept by every step. -/
def Obligations.LinkStaysInBounds : Prop :=
  ∀ s t : State, LinkSafe s.link → step s = .next t → LinkSafe t.link

/-- The stop-request line and the withhold reason STOP follow the STOP-class conditions (R170): kept by every step. -/
def Obligations.StopLineFollowsConditions : Prop :=
  ∀ s t : State, StopSafe s → step s = .next t → StopSafe t

/-- The nine stored withhold reasons (the table of R48). NO_RECIPE, GAS, WAKE, TEMP, POSITION, SIMULATED, STOP and NO_CYLINDER
are present exactly while their owner's state gives them, and outside LOCKED no admission stands and the infeed gate is closed
(R51): kept by every step. HOLD_REQUEST, the host's own, stands at every command but INFEED HOLD, INFEED RELEASE, the two resets
and a received byte, which may complete one of those requests (R49; that a request command is the arrival of its frame is log 3). -/
def Obligations.WithholdSetFollowsOwners : Prop :=
  (∀ s t : State, WithholdSafe s → AdmissionSafe s → step s = .next t → WithholdSafe t ∧ AdmissionSafe t) ∧
  (∀ (c : Instr) (s t : State), exec c s = .next t → s.link.rx = [] → c.wf = true → c ≠ .infeedHold → c ≠ .infeedRelease →
    (∀ (b : LineByte) (v : Sensors), c ≠ .byteReceived b v) → (∀ a b : Bool, c ≠ .powerOnReset a b) → c ≠ .restartPerform →
    t.infeed.withhold.holdRequest = s.infeed.withhold.holdRequest)

/-- The verdict log, the cans in process and the pending admissions together never exceed 64 (R50, R140): kept by every
step. -/
def Obligations.LogAlwaysHasRoom : Prop :=
  ∀ s t : State, RoomSafe s → step s = .next t → RoomSafe t

/-- The valves and timers of every cylinder stand as the table of R88 gives for its state, so that no cylinder has its refill
and its discharge valve open together: kept by every step. -/
def Obligations.CylinderValvesFollowState : Prop :=
  ∀ s t : State, (∀ c : Fin 4, CylinderSafe s.cylinders[c]) → step s = .next t →
    ∀ c : Fin 4, CylinderSafe t.cylinders[c] ∧
      ¬(t.cylinders[c].refillValve = true ∧ t.cylinders[c].dischargeValve = true)

/-- The machine configuration, the gas table, the recipes, the pair of slot states and the allowances stay as their rules
allow; the reference count of each slot is the number of cans in process that refer to it, every such can refers to a slot that
is ACTIVE or RETIRING, and a RETIRING slot still has a can (R16, R109, R118, R152, R154, R155, R158, R161): kept by every
step. -/
def Obligations.FiguresStayLegal : Prop :=
  ∀ s t : State, FiguresSafe s → step s = .next t → FiguresSafe t

/-- The counters, queues, shot and reason lists and measured values stay within the ranges their item tables give, and no head
stands twice in the grant queue (the item tables of spec/01 to 08; R53, R55, R61, R62, R64, R65, R71, R87, R100, R102, R103): kept
by every step. The reject queue is left out: the model gives it no limit (log 28). The awaiting list names cans in process alone,
one per head, not bound, with the oldest not settled, and it is empty while the fill report queue holds an entry (R54, R58; that
a departed can stands in it no more is log 18). Premises are the laws of the figures and of the pairing: the zero offset stays within 50 kPa because the
zero window of a legal configuration does, and a can has at most 3 shots because its recipe and its one pending result allow
no more. -/
def Obligations.ItemsStayInRange : Prop :=
  ∀ s t : State, FiguresSafe s → PairingSafe s → RangesSafe s → step s = .next t → RangesSafe t

/-- Heads and cylinders are paired as R94 requires, inlet valves are open only along a pairing (R44), the grant queue holds
exactly the WAITING heads (R100), and a head is EMPTY exactly when it holds no can (R31): kept by every step. -/
def Obligations.HeadsAndCylindersStayPaired : Prop :=
  ∀ s t : State, PairingSafe s → step s = .next t → PairingSafe t

/-- Every law that the steps keep holds after power-on reset. -/
def Obligations.LawsHoldAtReset : Prop :=
  LinkSafe State.reset.link ∧ StopSafe State.reset ∧ WithholdSafe State.reset ∧ AdmissionSafe State.reset ∧
  RoomSafe State.reset ∧ (∀ c : Fin 4, CylinderSafe State.reset.cylinders[c]) ∧ FiguresSafe State.reset ∧
  RangesSafe State.reset ∧ PairingSafe State.reset

/-! ## Requests refused and requests answered -/

/-- Requests that their first checks refuse, in the order R176 gives: the kind (UNKNOWN_KIND), the payload length
(BAD_LENGTH), then the owner's own checks of its item, action, number, count or code (R3, R22, R97, R148, R178). Each refusal
gives one REFUSE with the kind, the code and the field index of R177, and changes nothing else; READ_HEAD also shows the sensor
levels it carries (log 5). -/
def Obligations.BadRequestsAreRefused : Prop :=
  ∀ s : State, LinkReady s →
    (∀ (k : Byte) (p : List Byte), k.toNat = 0 ∨ 19 < k.toNat →
      exec (.unknownRequest k p) s = .next (s.withReply ⟨0x81, [k, 1, 255]⟩)) ∧
    (∀ (k : Byte) (n : Nat) (p : List Byte),
      (k, n) ∈ ([(1, 2), (3, 34), (4, 50), (6, 2), (7, 0), (8, 4), (9, 0), (10, 2), (11, 2), (12, 0), (13, 0), (14, 1), (15, 2),
        (16, 2), (17, 1), (18, 0), (19, 0)] : List (Byte × Nat)) → p.length ≠ n →
      arrive ⟨k, p⟩ s = s.withReply ⟨0x81, [k, 2, 255]⟩) ∧
    (∀ p : List Byte, (p.length < 6 ∨
        p.length ≠ 6 + ((maskFields 41 (BitVec.ofNat 48 (leNat (p.take 6)))).map configWidth).sum) →
      arrive ⟨0x02, p⟩ s = s.withReply ⟨0x81, [0x02, 2, 255]⟩) ∧
    (∀ p : List Byte, (p.length < 4 ∨ p.length ≠ 4 + 2 * (maskFields 25 (BitVec.ofNat 32 (leNat (p.take 4)))).length) →
      arrive ⟨0x05, p⟩ s = s.withReply ⟨0x81, [0x05, 2, 255]⟩) ∧
    (∀ item index : Nat, 7 < item → item < 256 → index < 256 →
      exec (.readBadItem item index) s = .next (s.withReply ⟨0x81, [0x01, 3, 0]⟩)) ∧
    (∀ (i : Nat) (v : Sensors), 16 ≤ i → i < 256 →
      exec (.readHead i v) s = .next ({ s with sensors := v }.withReply ⟨0x81, [0x01, 4, 1]⟩)) ∧
    (∀ i : Nat, i < 256 →
      (4 ≤ i → exec (.readCylinder i) s = .next (s.withReply ⟨0x81, [0x01, 4, 1]⟩)) ∧
      (3 ≤ i → exec (.readQueues i) s = .next (s.withReply ⟨0x81, [0x01, 4, 1]⟩)) ∧
      (2 ≤ i → exec (.readRecipe i) s = .next (s.withReply ⟨0x81, [0x01, 4, 1]⟩)) ∧
      (i = 0 ∨ 2 < i → exec (.takeVerdicts i) s = .next (s.withReply ⟨0x81, [0x0E, 4, 0]⟩)) ∧
      (2 < i → exec (.selectSource i) s = .next (s.withReply ⟨0x81, [0x11, 3, 0]⟩))) ∧
    (∀ h a : Nat, h < 256 → a < 256 →
      (16 ≤ h → (exec (.headEnable h) s = .next (s.withReply ⟨0x81, [0x0A, 4, 0]⟩) ∧
        exec (.headDisable h) s = .next (s.withReply ⟨0x81, [0x0A, 4, 0]⟩) ∧
        exec (.headReset h) s = .next (s.withReply ⟨0x81, [0x0A, 4, 0]⟩) ∧
        exec (.headBadAction h a) s = .next (s.withReply ⟨0x81, [0x0A, 4, 0]⟩))) ∧
      (h < 16 → 2 < a → exec (.headBadAction h a) s = .next (s.withReply ⟨0x81, [0x0A, 3, 1]⟩))) ∧
    (∀ c a : Nat, c < 256 → a < 256 →
      (4 ≤ c → (exec (.cylinderEnable c) s = .next (s.withReply ⟨0x81, [0x0B, 4, 0]⟩) ∧
        exec (.cylinderDisable c) s = .next (s.withReply ⟨0x81, [0x0B, 4, 0]⟩) ∧
        exec (.cylinderBadAction c a) s = .next (s.withReply ⟨0x81, [0x0B, 4, 0]⟩))) ∧
      (c < 4 → 1 < a → exec (.cylinderBadAction c a) s = .next (s.withReply ⟨0x81, [0x0B, 3, 1]⟩)))

/-- Every READ with a good item and index is accepted, and changes nothing but the transmit queue (R178): the ACCEPT echoes
kind, item and index and carries the contents of the item. READ HEAD samples the head's transducer and gauges, which the command
carries (log 5). The contents, item by item, follow for STATUS, HEAD, CYLINDER, the three sections of QUEUES and ALLOWANCES
(R188): numbers low byte first and sets one bit per member; the order where the spec leaves it open is log 15, the codes of named
values log 13, and an item that does not fit its width log 14. -/
def Obligations.ReadsAnswerAndChangeNothing : Prop :=
  (∀ s : State, LinkReady s →
    (∀ i : Nat, i < 256 →
      exec (.readStatus i) s = .next (s.withReply ⟨0x80, [0x01, 0, BitVec.ofNat 8 i] ++ statusItems s⟩) ∧
      exec (.readConfig i) s = .next (s.withReply ⟨0x80, [0x01, 5, BitVec.ofNat 8 i] ++ configItems s.config⟩) ∧
      exec (.readGasTable i) s = .next (s.withReply ⟨0x80, [0x01, 6, BitVec.ofNat 8 i] ++ gasTableItems s.gasTable⟩) ∧
      exec (.readAllowances i) s = .next (s.withReply ⟨0x80, [0x01, 7, BitVec.ofNat 8 i] ++ allowanceItems s⟩)) ∧
    (∀ (h : Fin 16) (v : Sensors), exec (.readHead h.val v) s = .next ({ s with sensors := v }.withReply
      ⟨0x80, [0x01, 1, BitVec.ofNat 8 h.val] ++ headItems { s with sensors := v } h⟩)) ∧
    (∀ c : Fin 4, exec (.readCylinder c.val) s =
      .next (s.withReply ⟨0x80, [0x01, 2, BitVec.ofNat 8 c.val] ++ cylinderItems s c⟩)) ∧
    (exec (.readQueues 0) s = .next (s.withReply ⟨0x80, [0x01, 3, 0] ++ queues0 s⟩)) ∧
    (exec (.readQueues 1) s = .next (s.withReply ⟨0x80, [0x01, 3, 1] ++ queues1 s⟩)) ∧
    (exec (.readQueues 2) s = .next (s.withReply ⟨0x80, [0x01, 3, 2] ++ queues2 s⟩)) ∧
    (∀ i : Fin 2, exec (.readRecipe i.val) s =
      .next (s.withReply ⟨0x80, [0x01, 4, BitVec.ofNat 8 i.val] ++ recipeItems s.slots[i]⟩))) ∧
  (∀ w n : Nat, n < 256 ^ w → item w n = wire w n) ∧
  (∀ v : Int, -32768 < v → v < 32768 → signedItem v = wire 2 (v % 65536).toNat) ∧
  (∀ bs : List Bool, bs.length ≤ 16 → ∃ a b : Byte, setItem bs = [a, b] ∧ ∀ i : Nat, (b ++ a).getLsbD i = bs.getD i false) ∧
  (∀ s : State,
    let yes (b : Bool) : Byte := if b then 1 else 0
    let code {α : Type} [BEq α] (table : List α) (x : α) : Byte := BitVec.ofNat 8 (table.idxOf x)
    let orNone (w : Nat) : Option Nat → List Byte
      | none => List.replicate w 0xFF
      | some n => item w n
    let timer : Timer → Byte
      | .running _ => 0
      | .expired => 1
      | .stopped => 2
    let services : List Service := [.enabled, .disabling, .disabled, .zeroing, .outOfService]
    let cycles : List Cycle :=
      [.empty, .seated, .crimped, .probing, .probed, .waiting, .charging, .charged, .dwelling, .lifted]
    let cylinders : List CylState := [.idle, .refilling, .ready, .discharging, .measuring, .fault, .disabled, .outOfService]
    let stores : List SlotState := [.free, .pending, .active, .retiring]
    let k := s.tracker
    let i := s.infeed
    let w := i.withhold
    let g := s.gas
    let u := s.verdicts
    let withheld := setItem [w.noRecipe, w.holdRequest, w.gas, w.wake, w.temp, w.position, w.simulated, w.stop, w.noCylinder,
      decide (64 ≤ roomTaken s)]
    let expected : List Byte := match i.expectedTag with
      | none => [0, 0, 0]
      | some t => 1 :: item 2 t
    let shot : Option Shot → List Byte
      | none => [0]
      | some z => 1 :: item 1 z.owner.val ++ item 1 z.slot.val ++ item 2 z.startP ++ [yes z.startOver] ++ item 2 z.cutoff ++
        [yes z.short] ++ signedItem z.temperature ++
        [match z.cause with | none => 0xFF | some c => code [.cutoff, .backflow, .chargeClose, .slip, .headReset] c] ++
        [yes z.aborted, yes z.backflow] ++ orNone 2 z.endP ++ [if z.endP = none then 0xFF else yes z.endOver] ++
        orNone 2 z.delivered ++ [yes (z.startOver || z.endOver)]
    statusItems s =
      [code [.primary, .secondary, .simulated] k.source, code [.unlocked, .seeking, .locked, .slipped] k.state,
       code [.running, .stopped] k.motion] ++ item 2 k.position ++ item 4 k.revolution ++ item 2 (k.highWater % 4096) ++
      signedItem k.interval ++ [yes !k.firstIndexSeen] ++
      withheld ++ item 1 i.debt ++ expected ++ item 2 i.strayCount ++ item 1 i.fillQueue.length ++ item 1 i.awaiting.length ++
      item 2 g.buffer ++ [yes !g.throttleOn] ++ signedItem g.heldTemp ++ [yes !g.tempGood, timer g.holdTimer,
       code [.active, .standby, .waking] g.standby, yes g.economy, timer g.idleTimer, timer g.wakeTimer] ++
      s.cylinders.toList.map (fun y => code cylinders y.state) ++
      item 1 u.log.length ++ item 1 u.rejects.length ++ item 2 u.unmatched ++
      s.slots.toList.map (fun x => code stores x.state) ++ s.slots.toList.flatMap (fun x => orNone 2 (x.recipe.map recipeId)) ++
      s.slots.toList.flatMap (fun x => item 1 x.refs) ++
      setItem s.conds.isSet.toList ++ setItem (conditions.map fun c => causePresent s c) ++ item 2 s.conds.mask.toNat ++
      [yes s.conds.stopLine] ∧
    (∀ h : Fin 16,
      let x := s.heads[h]
      let v := s.sensors.heads[h]
      let raw := min 2000 v.pressure.toNat
      headItems s h =
        [code services x.service, match x.returnState with | none => 0xFF | some .enabled => 0 | some .zeroing => 3,
         code cycles x.cycle] ++ orNone 1 (x.paired.map Fin.val) ++ orNone 1 (x.pendingResult.map Fin.val) ++
        signedItem x.zeroOffset ++ item 1 x.noFlowCount ++ item 1 x.zeroCount ++
        [yes x.probeTimer.isRunning, yes x.dwellTimer.isRunning, yes x.flowTimer.isRunning, yes x.headDown, yes x.collet,
         yes x.probeValve, yes x.ventValve] ++ x.inlets.toList.map yes ++
        (match x.record with | none => [0] | some r => 1 :: recordBytes r) ++
        item 2 raw ++ item 2 (min 2000 ((raw : Int) - x.zeroOffset).toNat) ++ item 2 (min 9999 v.depth.toNat) ++
        item 2 (min 9999 v.diameter.toNat) ++
        [code [.idle, .build, .hold] x.probeStep, match x.probeTimer with | .build _ => 0 | .hold _ => 1 | .stopped => 2,
         yes x.probeTimer.isRunning] ++ orNone 2 (if x.probeStep = .hold then x.pa else none) ++
        [code [.notOpen, .isOpen, .closed] x.window, yes x.decided, yes x.flowDetected] ++ orNone 2 x.firstDwell) ∧
    (∀ c : Fin 4,
      let y := s.cylinders[c]
      cylinderItems s c =
        [code cylinders y.state] ++ item 2 y.pressure ++ [yes y.overRange] ++ item 1 y.failures ++ [yes y.disablePending] ++
        orNone 1 (y.owner.map Fin.val) ++ shot y.shot ++ shot y.lastShot ++
        [yes y.refillTimer.isRunning, yes y.retryTimer.isRunning, yes y.settleTimer.isRunning, yes y.refillValve,
         yes y.dischargeValve] ++ item 2 (density s.gasTable y.pressure).toNat ++
        (match y.shot with
          | none => []
          | some z => item 2 z.startDensity.toNat ++ item 2 z.volume ++ item 2 z.target.toNat ++ [yes z.mayAdapt])) ∧
    queues0 s = withheld ++ setItem i.admitted.toList ++ [yes i.gateOpen] ++ item 1 i.fillQueue.length ++
      i.fillQueue.flatMap (fun e => item 2 e.tag ++ orNone 2 e.mass) ++ item 1 i.debt ++ expected ++ item 3 i.nextSeq ++
      item 2 i.strayCount ∧
    queues1 s = item 1 i.awaiting.length ++ i.awaiting.flatMap (fun e => item 1 e.head.val ++ item 3 e.seq) ++
      item 1 s.grantQueue.length ++ s.grantQueue.map (fun h => BitVec.ofNat 8 h.val) ∧
    queues2 s = item 1 u.log.length ++ item 3 ((u.log.head?.map CanRecord.seq).getD 0) ++
      item 3 ((u.log.getLast?.map CanRecord.seq).getD 0) ++ item 1 u.rejects.length ++
      u.rejects.flatMap (fun e => item 3 e.seq ++ item 6 e.due ++ [yes e.fired] ++
        item 1 ((e.confirmEnd.map fun q => q - e.due).getD 0)) ++ [yes u.gateOn, yes u.gateTimer.isRunning] ++
      item 2 u.unmatched ∧
    allowanceItems s = s.allowances.toList.flatMap (fun v => v.toList.flatMap fun a => item 2 a) ++
      s.slots.toList.map fun x => code stores x.state)

/-- The bytes by which READ CONFIG, READ GAS TABLE and READ RECIPE answer are those by which CONFIGURE, LOAD GAS TABLE and
LOAD RECIPE would carry the same values: parsed as their fields they give the values back (R160, R161, R185, R188). -/
def Obligations.FiguresReadBack : Prop :=
  (∀ c : MachineConfig, ConfigSafe c →
    parseValues configWidth (List.range 41) (configItems c) = some c.fields.toList ∧ (configItems c).length = 84) ∧
  (∀ t : GasTable, GasTableSafe t →
    parseValues recipeWidth (List.range 17) (gasTableItems t) = some t.points.toList ∧ (gasTableItems t).length = 34) ∧
  (∀ (x : Slot) (r : Recipe), x.recipe = some r → RecipeSafe r → x.refs < 256 →
    ∃ a b : Byte, recipeItems x = [a, b] ++ (recipeItems x).drop 2 ∧ a.toNat = x.state.code ∧ b.toNat = x.refs ∧
      parseValues recipeWidth (List.range 25) ((recipeItems x).drop 2) = some r.fields.toList)

/-! ## Machine configuration, gas table and recipes -/

/-- CONFIGURE (R161, R16). Accepted, it writes exactly the fields its mask names, in ascending order, and its reply carries
their number. Refused, it changes nothing: in this order, while a head holds a can; for the lowest bit that names no field;
for the lowest field out of its range; for the reject distance while the reject queue holds an entry; for the first angle not
above the one before it; for a throttle-off threshold not above the throttle-on threshold. -/
def Obligations.ConfigureWritesNamedFields : Prop :=
  ∀ (mask : BitVec 48) (values : List Nat) (s : State), LinkReady s →
    valuesFit configWidth (maskFields 41 mask) values = true →
    let c := configured s.config mask values
    let noBadBit := ∀ f : Nat, 41 ≤ f → mask.getLsbD f = false
    let inRange (f v : Nat) : Prop := ∀ r : Nat × Nat, configRanges.toList[f]? = some r → r.1 ≤ v ∧ v ≤ r.2
    let allInRange := ∀ n f v : Nat, (maskFields 41 mask)[n]? = some f → values[n]? = some v → inRange f v
    let distanceFree := mask.getLsbD 34 = true → s.verdicts.rejects = []
    let rising (n : Nat) : Prop := c.fields.toList.getD n 0 < c.fields.toList.getD (n + 1) 0
    let refused (code field : Byte) : Prop := exec (.configure mask values) s = .next (s.withReply ⟨0x81, [0x02, code, field]⟩)
    (∀ n f v : Nat, (maskFields 41 mask)[n]? = some f → values[n]? = some v → c.fields.toList[f]? = some v) ∧
    (∀ f : Nat, mask.getLsbD f = false → c.fields.toList[f]? = s.config.fields.toList[f]?) ∧
    (inProcess s = 0 → noBadBit → allInRange → distanceFree → (∀ n : Nat, n < 12 → rising n) →
      throttleOn c < throttleOff c →
      exec (.configure mask values) s =
        .next ({ s with config := c }.withReply ⟨0x80, [0x02, BitVec.ofNat 8 (maskFields 41 mask).length]⟩)) ∧
    (inProcess s ≠ 0 → refused 5 255) ∧
    (∀ f : Nat, inProcess s = 0 → 41 ≤ f → mask.getLsbD f = true → (∀ g : Nat, 41 ≤ g → g < f → mask.getLsbD g = false) →
      refused 3 (BitVec.ofNat 8 f)) ∧
    (∀ n f v : Nat, inProcess s = 0 → noBadBit → (maskFields 41 mask)[n]? = some f → values[n]? = some v → ¬inRange f v →
      (∀ m g w : Nat, m < n → (maskFields 41 mask)[m]? = some g → values[m]? = some w → inRange g w) →
      refused 4 (BitVec.ofNat 8 f)) ∧
    (inProcess s = 0 → noBadBit → allInRange → ¬distanceFree → refused 5 34) ∧
    (∀ n : Nat, n < 12 → inProcess s = 0 → noBadBit → allInRange → distanceFree → (∀ m : Nat, m < n → rising m) →
      ¬rising n → refused 3 (BitVec.ofNat 8 (n + 1))) ∧
    (inProcess s = 0 → noBadBit → allInRange → distanceFree → (∀ n : Nat, n < 12 → rising n) →
      throttleOff c ≤ throttleOn c → refused 3 30)

/-- LOAD GAS TABLE (R109, R119, R162). Accepted with no can in process, the 17 points replace the table in force, and every
shot in flight loses the right to adapt; nothing else changes. Refused, it changes nothing: while a head holds a can; for the
first point above 65,000; for the first point not above the one before it (that all ranges come first is log 15). -/
def Obligations.GasTableIsReplaced : Prop :=
  ∀ (p : Vector Nat 17) (s : State), LinkReady s → (∀ i : Fin 17, p[i] < 65536) →
    let refused (code field : Byte) : Prop :=
      exec (.loadGasTable p.toList) s = .next (s.withReply ⟨0x81, [0x03, code, field]⟩)
    let t : State := { s with
      gasTable := ⟨p⟩
      cylinders := s.cylinders.map fun x => { x with shot := x.shot.map fun y => { y with mayAdapt := false } } }
    (inProcess s = 0 → GasTableSafe ⟨p⟩ → exec (.loadGasTable p.toList) s = .next (t.withReply ⟨0x80, [0x03]⟩)) ∧
    (inProcess s ≠ 0 → refused 5 255) ∧
    (∀ i : Fin 17, inProcess s = 0 → 65000 < p[i] → (∀ j : Fin 17, j < i → p[j] ≤ 65000) → refused 4 (BitVec.ofNat 8 i.val)) ∧
    (∀ i : Fin 16, inProcess s = 0 → (∀ j : Fin 17, p[j] ≤ 65000) →
      p[i.val + 1]'(by omega) ≤ p[i.val]'(by omega) →
      (∀ j : Fin 16, j < i → p[j.val]'(by omega) < p[j.val + 1]'(by omega)) → refused 3 (BitVec.ofNat 8 (i.val + 1)))

/-- LOAD RECIPE (R153, R154): a record in range that passes the cross-checks is written into the PENDING slot, else into the
lower-numbered FREE slot, which becomes PENDING, and the reply carries the slot and the states of both; with neither it is
refused BUSY; a record with a value out of range is refused at the lowest such field. A refusal changes nothing. -/
def Obligations.RecipeIsLoaded : Prop :=
  ∀ (r : Recipe) (s : State), LinkReady s → (∀ f : Fin 25, r.fields[f] < 65536) →
    let into (i : Fin 2) : Prop :=
      let t := { s with slots := s.slots.set i { s.slots[i] with state := .pending, recipe := some r } }
      exec (.loadRecipe r.fields.toList) s = .next (t.withReply
        ⟨0x80, [0x04, BitVec.ofNat 8 i.val, BitVec.ofNat 8 t.slots[0].state.code, BitVec.ofNat 8 t.slots[1].state.code]⟩)
    (∀ i : Fin 2, RecipeSafe r → s.slots[i].state = .pending → (∀ j : Fin 2, s.slots[j].state = .pending → j = i) → into i) ∧
    (∀ i : Fin 2, RecipeSafe r → (∀ j : Fin 2, s.slots[j].state ≠ .pending) → s.slots[i].state = .free →
      (∀ j : Fin 2, j < i → s.slots[j].state ≠ .free) → into i) ∧
    (RecipeSafe r → (∀ j : Fin 2, s.slots[j].state ≠ .pending ∧ s.slots[j].state ≠ .free) →
      exec (.loadRecipe r.fields.toList) s = .next (s.withReply ⟨0x81, [0x04, 6, 255]⟩)) ∧
    (∀ f : Fin 25, ¬(recipeRanges[f].1 ≤ r.fields[f] ∧ r.fields[f] ≤ recipeRanges[f].2) →
      (∀ g : Fin 25, g < f → recipeRanges[g].1 ≤ r.fields[g] ∧ r.fields[g] ≤ recipeRanges[g].2) →
      exec (.loadRecipe r.fields.toList) s = .next (s.withReply ⟨0x81, [0x04, 4, BitVec.ofNat 8 f.val]⟩))

/-- The cross-checks of R155, in its order: a record whose values all lie within their ranges, and whose first failing
cross-check is the n-th of the table, is refused with BAD_FIELD at that row's field; one that passes them all, a window whose
minimum equals its maximum and any nominal fill mass among them, is taken (here into the PENDING slot). -/
def Obligations.RecipeCrossChecks : Prop :=
  ∀ (r : Recipe) (s : State), LinkReady s →
    (∀ f : Fin 25, recipeRanges[f].1 ≤ r.fields[f] ∧ r.fields[f] ≤ recipeRanges[f].2) →
    let checks : List (Prop × Byte) :=
      [(fillMin r ≤ fillMax r, 3), (doseMin r ≤ doseMax r, 7), (depthMin r ≤ depthMax r, 11), (depthMax r < noCupDepth r, 12),
       (diameterMin r ≤ diameterMax r, 14), (probeBuildMin r ≤ probePressure r, 16),
       (floorPressure r + 500 ≤ fillPressure r, 22), (toleranceLow r < doseMin r, 8)]
    (∀ (n : Nat) (p : Prop) (f : Byte), checks[n]? = some (p, f) → ¬p →
      (∀ (m : Nat) (q : Prop) (g : Byte), m < n → checks[m]? = some (q, g) → q) →
      exec (.loadRecipe r.fields.toList) s = .next (s.withReply ⟨0x81, [0x04, 3, f]⟩)) ∧
    (∀ i : Fin 2, (∀ (n : Nat) (p : Prop) (f : Byte), checks[n]? = some (p, f) → p) → s.slots[i].state = .pending →
      (∀ j : Fin 2, s.slots[j].state = .pending → j = i) →
      ∃ x y : Byte, exec (.loadRecipe r.fields.toList) s = .next ({ s with
        slots := s.slots.set i { s.slots[i] with state := .pending, recipe := some r } }.withReply
          ⟨0x80, [0x04, BitVec.ofNat 8 i.val, x, y]⟩))

/-- AMEND RECIPE (R156): the lowest mask bit that names no field is refused first; with no slot PENDING it is refused
WRONG_STATE; a mask of no field changes nothing and is accepted; otherwise the record as it would stand is checked whole, at
the lowest field out of range or else at the field of the first failing cross-check (R155), and written whole. The reply carries
the slot and the 25 fields as they stand. -/
def Obligations.RecipeIsAmended : Prop :=
  ∀ (mask : BitVec 32) (values : List Nat) (s : State), LinkReady s →
    valuesFit recipeWidth (maskFields 25 mask) values = true →
    let done (i : Fin 2) (r : Recipe) (t : State) : Prop := exec (.amendRecipe mask values) s =
      .next (t.withReply ⟨0x80, [0x05, BitVec.ofNat 8 i.val] ++ r.fields.toList.flatMap fun v => leBytes 2 v⟩)
    (∀ f : Nat, 25 ≤ f → mask.getLsbD f = true → (∀ g : Nat, 25 ≤ g → g < f → mask.getLsbD g = false) →
      exec (.amendRecipe mask values) s = .next (s.withReply ⟨0x81, [0x05, 3, BitVec.ofNat 8 f]⟩)) ∧
    ((∀ f : Nat, 25 ≤ f → mask.getLsbD f = false) →
      ((∀ j : Fin 2, s.slots[j].state ≠ .pending) →
        exec (.amendRecipe mask values) s = .next (s.withReply ⟨0x81, [0x05, 5, 255]⟩)) ∧
      (∀ (i : Fin 2) (r r' : Recipe), s.slots[i].state = .pending → (∀ j : Fin 2, s.slots[j].state = .pending → j = i) →
        s.slots[i].recipe = some r → RecipeSafe r →
        (∀ n f v : Nat, (maskFields 25 mask)[n]? = some f → values[n]? = some v → r'.fields.toList[f]? = some v) →
        (∀ f : Nat, mask.getLsbD f = false → r'.fields.toList[f]? = r.fields.toList[f]?) →
        (mask = 0 → done i r s) ∧
        (RecipeSafe r' → done i r' { s with slots := s.slots.set i { s.slots[i] with recipe := some r' } }) ∧
        (∀ f : Fin 25, ¬(recipeRanges[f].1 ≤ r'.fields[f] ∧ r'.fields[f] ≤ recipeRanges[f].2) →
          (∀ g : Fin 25, g < f → recipeRanges[g].1 ≤ r'.fields[g] ∧ r'.fields[g] ≤ recipeRanges[g].2) →
          exec (.amendRecipe mask values) s = .next (s.withReply ⟨0x81, [0x05, 4, BitVec.ofNat 8 f.val]⟩)) ∧
        ((∀ f : Fin 25, recipeRanges[f].1 ≤ r'.fields[f] ∧ r'.fields[f] ≤ recipeRanges[f].2) → mask ≠ 0 →
          let checks : List (Prop × Byte) :=
            [(fillMin r' ≤ fillMax r', 3), (doseMin r' ≤ doseMax r', 7), (depthMin r' ≤ depthMax r', 11),
             (depthMax r' < noCupDepth r', 12), (diameterMin r' ≤ diameterMax r', 14),
             (probeBuildMin r' ≤ probePressure r', 16), (floorPressure r' + 500 ≤ fillPressure r', 22),
             (toleranceLow r' < doseMin r', 8)]
          ∀ (n : Nat) (p : Prop) (f : Byte), checks[n]? = some (p, f) → ¬p →
            (∀ (m : Nat) (q : Prop) (g : Byte), m < n → checks[m]? = some (q, g) → q) →
            exec (.amendRecipe mask values) s = .next (s.withReply ⟨0x81, [0x05, 3, f]⟩))))

/-- ACTIVATE RECIPE (R157, R118, R119): with the PENDING slot's recipe id it makes that slot ACTIVE, and the slot that was
ACTIVE RETIRING with cans or FREE without; the activated slot takes its recipe's initial allowance in all four places and a
freed slot takes 0; shots in flight that name the activated slot lose the right to adapt; NO_RECIPE leaves the withhold set;
and, in standby ACTIVE, each IDLE cylinder and each READY cylinder below the top-up band of the new fill pressure refills at
once (R89, R93, log 19). Nothing else changes. Refusals change nothing. -/
def Obligations.RecipeIsActivated : Prop :=
  ∀ (id : Nat) (s : State), LinkReady s → id < 65536 →
    ((∀ j : Fin 2, s.slots[j].state ≠ .pending) →
      exec (.activateRecipe id) s = .next (s.withReply ⟨0x81, [0x06, 5, 255]⟩)) ∧
    (∀ (i o : Fin 2) (r : Recipe), i ≠ o → s.slots[i].state = .pending → s.slots[o].state ≠ .pending →
      s.slots[i].recipe = some r →
      (id ≠ recipeId r → exec (.activateRecipe id) s = .next (s.withReply ⟨0x81, [0x06, 9, 0]⟩)) ∧
      (id = recipeId r → s.slots[o].refs < 256 →
        let freed := s.slots[o].state = .active ∧ s.slots[o].refs = 0
        let old : Slot :=
          if freed then { s.slots[o] with state := .free, recipe := none }
          else if s.slots[o].state = .active then { s.slots[o] with state := .retiring } else s.slots[o]
        let rows := if freed then s.allowances.set o #v[0, 0, 0, 0] else s.allowances
        let t : State := { s with
          slots := (s.slots.set o old).set i { s.slots[i] with state := .active }
          allowances := rows.set i (Vector.replicate 4 (initialAllowance r))
          infeed := { s.infeed with withhold := { s.infeed.withhold with noRecipe := false } }
          cylinders := s.cylinders.map fun x =>
            let y := { x with shot := x.shot.map fun z => if z.slot = i then { z with mayAdapt := false } else z }
            if s.gas.standby = .active ∧ (x.state = .idle ∨
                x.state = .ready ∧ (x.pressure : Int) < (fillPressure r : Int) - (topUpBand s.config : Int)) then
              { y with state := .refilling, refillValve := true, dischargeValve := false,
                       refillTimer := .running (refillTimeout s.config), retryTimer := .stopped, settleTimer := .stopped }
            else y }
        exec (.activateRecipe id) s = .next (t.withReply
          ⟨0x80, [0x06, BitVec.ofNat 8 i.val, BitVec.ofNat 8 old.state.code, BitVec.ofNat 8 old.refs]⟩)))

/-- DISCARD RECIPE (R159): the PENDING slot becomes FREE, its record gone and its four allowances 0; the other slot is not
touched; the reply carries the states of both slots after it. With no slot PENDING it is refused WRONG_STATE. -/
def Obligations.RecipeIsDiscarded : Prop :=
  ∀ s : State, LinkReady s →
    (∀ i : Fin 2, s.slots[i].state = .pending → (∀ j : Fin 2, s.slots[j].state = .pending → j = i) →
      let t := { s with
        slots := s.slots.set i { s.slots[i] with state := .free, recipe := none }
        allowances := s.allowances.set i #v[0, 0, 0, 0] }
      exec .discardRecipe s = .next (t.withReply
        ⟨0x80, [0x07, BitVec.ofNat 8 t.slots[0].state.code, BitVec.ofNat 8 t.slots[1].state.code]⟩)) ∧
    ((∀ j : Fin 2, s.slots[j].state ≠ .pending) → exec .discardRecipe s = .next (s.withReply ⟨0x81, [0x07, 5, 255]⟩))

/-! ## Fill reports -/

/-- FILL (R55 to R59, R62). With k the distance of the tag ahead of the expected one (0 while that is unset), a report that
fits is applied whole as its k placeholders and its real entry, in tag order: as many as the debt are discarded, the next are
bound one each to the oldest awaiting cans, and the rest join the queue; LATE_FILL is set if the real entry was discarded. One
that does not fit is refused FULL, with FILL_QUEUE_FULL set. The second part is the result in closed form where no awaiting can
is settled; the first part holds for every list: the entries are applied one by one, each discarded against a debt above 0, bound
to the oldest awaiting can, or queued; with a bound can the settled ones behind it leave the list, and the debt rises by one for
each, and for each settled can behind one of them that has left the turret (log 18), held at 16 with FILL_SEQUENCE set. -/
def Obligations.FillReportIsApplied : Prop :=
  ∀ (tag mass : Nat) (s : State), LinkReady s → tag < 65536 → mass ≤ 9999 →
    let k := match s.infeed.expectedTag with
      | none => 0
      | some e => (tag + 65536 - e) % 65536
    let n := k + 1
    let d := s.infeed.debt
    let waiting := s.infeed.awaiting
    let entries : List FillEntry :=
      (List.range k).map (fun i => { tag := (tag + 65536 - k + i) % 65536, mass := none }) ++ [{ tag := tag, mass := some mass }]
    let bound := min waiting.length (n - d)
    let joined := n - d - waiting.length
    k ≤ 8 →
    (joined + s.infeed.fillQueue.length ≤ 8 →
      let r := entries.foldl applyEntry
        (s.withReply ⟨0x80, [0x08]⟩, { discarded := 0, bound := 0, lastSeq := 0, joined := 0 })
      let t : State := { r.1 with infeed := { r.1.infeed with expectedTag := some ((tag + 1) % 65536) } }
      exec (.fill tag mass) s = .next { t with link := { t.link with
        tx := t.link.tx.set s.link.tx.length { isReport := false, frame := ⟨0x80, [0x08, BitVec.ofNat 8 k] ++
          item 1 r.2.discarded ++ item 1 r.2.bound ++ item 3 r.2.lastSeq ++ item 1 r.2.joined ++ [1] ++
          leBytes 2 ((tag + 1) % 65536) ++ item 1 t.infeed.debt ++ item 1 t.infeed.fillQueue.length⟩ } } }) ∧
    (∀ (e : FillEntry) (y : FillTally) (u : State),
      (0 < u.infeed.debt →
        let v : State := { u with infeed := { u.infeed with debt := u.infeed.debt - 1 } }
        applyEntry (u, y) e =
          (if e.mass = none then v else setCondition .lateFill v, { y with discarded := y.discarded + 1 })) ∧
      (∀ (a : AwaitEntry) (rest : List AwaitEntry), u.infeed.debt = 0 → u.infeed.awaiting = a :: rest →
        let owes := a.owed + ((rest.takeWhile AwaitEntry.settled).map fun g => g.owed + 1).sum
        let v : State := { u with
          infeed := { u.infeed with awaiting := rest.dropWhile AwaitEntry.settled, debt := min 16 owes }
          heads := u.heads.set a.head { u.heads[a.head] with record := u.heads[a.head].record.map fun r =>
            if r.seq ≠ a.seq then r
            else match e.mass with
              | some m => { r with tag := some e.tag, fillMass := some m }
              | none => { r with boundLost := true } } }
        applyEntry (u, y) e =
          (if owes ≤ 16 then v else setCondition .fillSequence v, { y with bound := y.bound + 1, lastSeq := a.seq })) ∧
      (u.infeed.debt = 0 → u.infeed.awaiting = [] → applyEntry (u, y) e =
        ({ u with infeed := { u.infeed with fillQueue := u.infeed.fillQueue ++ [e] } }, { y with joined := y.joined + 1 }))) ∧
    (joined + s.infeed.fillQueue.length ≤ 8 → d < 256 →
      (∀ a : AwaitEntry, a ∈ waiting → a.settled = false ∧ a.owed = 0 ∧ a.seq < 16777216) →
      let t : State := { s with
        infeed := { s.infeed with
          debt := d - n
          awaiting := waiting.drop (n - d)
          fillQueue := s.infeed.fillQueue ++ entries.drop (d + waiting.length)
          expectedTag := some ((tag + 1) % 65536) }
        heads := (waiting.zip (entries.drop d)).foldl (fun v x =>
          v.set x.1.head { v[x.1.head] with record := v[x.1.head].record.map fun r =>
            if r.seq ≠ x.1.seq then r
            else match x.2.mass with
              | some m => { r with tag := some x.2.tag, fillMass := some m }
              | none => { r with boundLost := true } }) s.heads }
      let last : Nat := if bound = 0 then 0 else (waiting[bound - 1]?.map AwaitEntry.seq).getD 0
      let u := t.withReply ⟨0x80, [0x08, BitVec.ofNat 8 k, BitVec.ofNat 8 (min n d), BitVec.ofNat 8 bound] ++ leBytes 3 last ++
        [BitVec.ofNat 8 joined, 1] ++ leBytes 2 ((tag + 1) % 65536) ++
        [BitVec.ofNat 8 (d - n), BitVec.ofNat 8 (s.infeed.fillQueue.length + joined)]⟩
      exec (.fill tag mass) s = .next (if n ≤ d then setCondition .lateFill u else u)) ∧
    (8 < joined + s.infeed.fillQueue.length →
      exec (.fill tag mass) s = .next (setCondition .fillQueueFull (s.withReply ⟨0x81, [0x08, 7, 0]⟩)))

/-- RESYNC FILL (R60): the fill report queue is emptied, the debt 0 and the expected tag unset, in every state; the reply
carries the number of entries discarded and the debt as it stood before. -/
def Obligations.FillIsResynchronised : Prop :=
  ∀ s : State, LinkReady s → s.infeed.fillQueue.length < 256 → s.infeed.debt < 256 →
    exec .resyncFill s =
      .next ({ s with infeed := { s.infeed with fillQueue := [], debt := 0, expectedTag := none } }.withReply
        ⟨0x80, [0x09, BitVec.ofNat 8 s.infeed.fillQueue.length, BitVec.ofNat 8 s.infeed.debt]⟩)

/-! ## Heads and cylinders -/

/-- HEAD ENABLE and HEAD DISABLE by service state (R22 to R24): the head's new items, the ACCEPT that carries its service
state, cycle state, whether it holds a can and its sequence number (layout: log 15), and then the HEAD report where the table
gives one. Nothing else changes. -/
def Obligations.HeadServiceRequests : Prop :=
  ∀ (h : Fin 16) (s : State), LinkReady s →
    let x := s.heads[h]
    let put (y : Head) : State := { s with heads := s.heads.set h y }
    let replied (t : State) : State := t.withReply ⟨0x80, 0x0A :: headReplyItems t h⟩
    let enable := exec (.headEnable h.val) s
    let disable := exec (.headDisable h.val) s
    let busy := x.record.isSome = true ∨ s.infeed.admitted[h] = true
    (x.service = .enabled ∨ x.service = .zeroing → enable = .next (replied s)) ∧
    (∀ r : ReturnState, x.service = .disabling → x.returnState = some r →
      enable = .next (headReport h .enableRequest (replied (put { x with service := r.service, returnState := none })))) ∧
    (x.service = .disabled ∨ x.service = .outOfService →
      enable = .next (headReport h .enableRequest
        (replied (put { x with service := .zeroing, noFlowCount := 0, zeroCount := 0 })))) ∧
    (∀ r : ReturnState, x.service = r.service → busy →
      disable = .next (headReport h .disableRequest
        (replied (put { x with service := .disabling, returnState := some r })))) ∧
    (x.service = .enabled ∨ x.service = .zeroing → ¬busy →
      disable = .next (headReport h .disableRequest
        (replied (put { x with service := .disabled, returnState := none, ventValve := false })))) ∧
    (x.service = .disabling ∨ x.service = .disabled ∨ x.service = .outOfService → disable = .next (replied s)) ∧
    (∀ t : State,
      let y := t.heads[h]
      let held : Byte × Nat := match y.record with
        | none => (0, 0)
        | some r => (1, r.seq)
      held.2 < 16777216 → headReplyItems t h =
        [BitVec.ofNat 8 ([Service.enabled, .disabling, .disabled, .zeroing, .outOfService].idxOf y.service),
         BitVec.ofNat 8 ([Cycle.empty, .seated, .crimped, .probing, .probed, .waiting, .charging, .charged, .dwelling,
           .lifted].idxOf y.cycle), held.1] ++ wire 3 held.2)

/-- HEAD RESET (R29, R95, R79): the head's valves, timers, counters, offset and return state, its request in the grant queue,
the reason HEAD_RESET of a held can, ZEROING and the HEAD report, by the cycle state it was taken in. A CHARGING head is
CHARGED with its cylinder as pending result, and the cylinder enters MEASURING; a WAITING head is CHARGED; a PROBING head is
PROBED, and takes its charge decision if CHARGE_OPEN has passed (log 16). The HEAD report holds the values as the whole act leaves
them (log 20); the reply's layout is log 15. -/
def Obligations.HeadIsReset : Prop :=
  ∀ (h : Fin 16) (s : State), LinkReady s →
    let x := s.heads[h]
    let y : Head := { x with
      probeValve := false, ventValve := false, inlets := #v[false, false, false, false], collet := false
      probeTimer := .stopped, dwellTimer := .stopped, flowTimer := .stopped, probeStep := .idle, pa := none
      firstDwell := none, flowDetected := false, noFlowCount := 0, zeroCount := 0, zeroOffset := 0, returnState := none
      service := .zeroing, record := x.record.map fun r => r.withReason .headReset }
    let put (y : Head) : State :=
      { s with heads := s.heads.set h y, grantQueue := s.grantQueue.filter (· ≠ h) }
    let replied (t : State) : State := t.withReply ⟨0x80, 0x0A :: headReplyItems t h⟩
    let reset := exec (.headReset h.val) s
    (x.paired = none → x.cycle ≠ .waiting → x.cycle ≠ .probing →
      reset = .next (headReport h .resetRequest (replied (put y)))) ∧
    (x.paired = none → x.cycle = .waiting →
      reset = .next (headReport h .resetRequest (replied (put { y with cycle := .charged, pendingResult := none })))) ∧
    (∀ c : Fin 4, x.paired = some c → x.cycle = .charging → s.cylinders[c].state = .discharging →
      s.cylinders[c].owner = some h →
      let t := put { y with cycle := .charged, pendingResult := some c, paired := none }
      reset = .next (headReport h .resetRequest (replied { t with
        cylinders := s.cylinders.set c { s.cylinders[c] with
          state := .measuring, dischargeValve := false, refillValve := false, refillTimer := .stopped
          retryTimer := .stopped, settleTimer := .running (settleTime s.config)
          shot := s.cylinders[c].shot.map fun z =>
            { z with cause := some .headReset, aborted := true, backflow := false } } }))) ∧
    (x.paired = none → x.cycle = .probing → x.window = .notOpen →
      reset = .next (headReport h .resetRequest (replied (put { y with cycle := .probed })))) ∧
    (x.paired = none → x.cycle = .probing → x.window ≠ .notOpen →
      let u := headReport h .resetRequest (chargeDecision h ((put { y with cycle := .probed }).withReply ⟨0x80, [0x0A]⟩))
      reset = .next { u with link := { u.link with
        tx := u.link.tx.set s.link.tx.length { isReport := false, frame := ⟨0x80, 0x0A :: headReplyItems u h⟩ } } })

/-- CYLINDER ENABLE and CYLINDER DISABLE by state (R97, R98), and the all-out test that follows each entry to and departure
from DISABLED or OUT_OF_SERVICE (R99). The reply carries the state, pressure, failure count and disable pending mark after
the action. A disable asked again while pending gives no second report (DESIGN CHOICE, log 21); a report given at an ENABLE
shows the state the cylinder has then entered (log 20). -/
def Obligations.CylinderServiceRequests : Prop :=
  (∀ (c : Fin 4) (s : State), LinkReady s →
    let x := s.cylinders[c]
    let put (y : Cylinder) : State := { s with cylinders := s.cylinders.set c y }
    let replied (t : State) : State := t.withReply ⟨0x80, 0x0B :: cylinderReplyItems t c⟩
    let enable := exec (.cylinderEnable c.val) s
    let disable := exec (.cylinderDisable c.val) s
    let still (st : CylState) : Cylinder := { x with
      state := st, refillValve := false, dischargeValve := false, refillTimer := .stopped, retryTimer := .stopped
      settleTimer := .stopped }
    (x.state = .idle ∨ x.state = .ready ∨ x.state = .refilling ∨ x.state = .fault →
      disable = .next (allOutTest (cylinderReport c .disableRequest (replied (put (still .disabled)))))) ∧
    (x.state = .discharging ∨ x.state = .measuring →
      (x.disablePending = false →
        disable = .next (cylinderReport c .disableRequest (replied (put { x with disablePending := true })))) ∧
      (x.disablePending = true → disable = .next (replied s)) ∧
      (x.disablePending = true →
        enable = .next (cylinderReport c .enableRequest (replied (put { x with disablePending := false })))) ∧
      (x.disablePending = false → enable = .next (replied s))) ∧
    (x.state = .disabled ∨ x.state = .outOfService →
      disable = .next (replied s) ∧
      (refillCondition s = false →
        enable = .next (allOutTest (cylinderReport c .enableRequest (replied (put { still .idle with failures := 0 }))))) ∧
      (refillCondition s = true →
        enable = .next (allOutTest (cylinderReport c .enableRequest (replied (put { still .refilling with
          failures := 0, refillValve := true, refillTimer := .running (refillTimeout s.config) })))))) ∧
    (x.state = .idle ∨ x.state = .ready ∨ x.state = .refilling ∨ x.state = .fault → enable = .next (replied s)) ∧
    (∀ t : State,
      let y := t.cylinders[c]
      y.pressure < 65536 → y.failures < 256 → cylinderReplyItems t c =
        [BitVec.ofNat 8 ([CylState.idle, .refilling, .ready, .discharging, .measuring, .fault, .disabled,
          .outOfService].idxOf y.state)] ++ wire 2 y.pressure ++
        [BitVec.ofNat 8 y.failures, if y.disablePending then 1 else 0])) ∧
  (∀ s : State,
    let with_ (b : Bool) : State := { s with infeed := { s.infeed with withhold := { s.infeed.withhold with noCylinder := b } } }
    ((∀ c : Fin 4, s.cylinders[c].state = .disabled ∨ s.cylinders[c].state = .outOfService) →
      allOutTest s = setCondition .allCylindersOut (with_ true)) ∧
    (∀ c : Fin 4, s.cylinders[c].state ≠ .disabled → s.cylinders[c].state ≠ .outOfService →
      allOutTest s = with_ false))

/-! ## Infeed, verdict log, conditions, reports, source -/

/-- INFEED HOLD sets and INFEED RELEASE clears HOLD_REQUEST in every state, and nothing else; the reply carries the withhold
set as it then stands, with LOG evaluated: one bit per reason in the order of the table of R48 (R49, R188). -/
def Obligations.InfeedHoldAndRelease : Prop :=
  ∀ s : State, LinkReady s →
    let held (b : Bool) : State := { s with infeed := { s.infeed with withhold := { s.infeed.withhold with holdRequest := b } } }
    let items (b : Bool) : List Byte :=
      let w := s.infeed.withhold
      leBytes 2 ((if w.noRecipe then 1 else 0) + (if b then 2 else 0) + (if w.gas then 4 else 0) + (if w.wake then 8 else 0) +
        (if w.temp then 16 else 0) + (if w.position then 32 else 0) + (if w.simulated then 64 else 0) +
        (if w.stop then 128 else 0) + (if w.noCylinder then 256 else 0) + (if 64 ≤ roomTaken s then 512 else 0))
    exec .infeedHold s = .next ((held true).withReply ⟨0x80, 0x0C :: items true⟩) ∧
    exec .infeedRelease s = .next ((held false).withReply ⟨0x80, 0x0D :: items false⟩)

/-- TAKE VERDICTS (R148, R187): a count of 1 or 2 takes that many records, or as many as there are, from the head of the
verdict log, and the reply carries their number, each in its 58-byte form, and the count left; any other count is refused
OUT_OF_RANGE. Nothing but the log and the transmit queue changes. The 58 bytes are laid out as R187 gives, numbers low byte first
and an absent tag, depth or diameter FFh in each byte (log 13); an item that does not fit its width is log 14. -/
def Obligations.VerdictsAreTaken : Prop :=
  ∀ (n : Nat) (s : State), LinkReady s → n < 256 → s.verdicts.log.length ≤ 64 →
    (n = 1 ∨ n = 2 →
      exec (.takeVerdicts n) s = .next ({ s with verdicts := { s.verdicts with log := s.verdicts.log.drop n } }.withReply
        ⟨0x80, [0x0E, BitVec.ofNat 8 (min n s.verdicts.log.length)] ++ (s.verdicts.log.take n).flatMap recordBytes ++
          [BitVec.ofNat 8 (s.verdicts.log.length - n)]⟩)) ∧
    (n ≠ 1 → n ≠ 2 → exec (.takeVerdicts n) s = .next (s.withReply ⟨0x81, [0x0E, 4, 0]⟩)) ∧
    (∀ r : CanRecord, (recordBytes r).length = 58) ∧
    (∀ w v : Nat, v < 256 ^ w → item w v = wire w v) ∧
    (∀ v : Int, -32768 < v → v < 32768 → signedItem v = wire 2 (v % 65536).toNat) ∧
    (∀ r : CanRecord,
      let bit (b : Bool) (n : Nat) : Nat := if b then n else 0
      let orNone (o : Option Nat) : List Byte := match o with
        | none => [0xFF, 0xFF]
        | some n => item 2 n
      let decay (o : Option Int) : List Byte := match o with
        | none => [0x00, 0x80]
        | some v => signedItem v
      let shot (n : Nat) : List Byte := match r.shots[n]? with
        | none => List.replicate 11 0
        | some e => item 1 (e.cylinder.val + bit e.short 4 + bit e.aborted 8 + bit e.backflow 16 + bit e.overRange 32) ++
          item 2 e.startP ++ item 2 e.cutoff ++ item 2 e.endP ++ signedItem e.temperature ++ item 2 e.delivered
      let reasons : List Reason := [.noCup, .crimpShallow, .crimpDeep, .crimpDiameter, .crimpLeak, .probeLate, .fillLost,
        .noFillReport, .fillOutOfRange, .noFlow, .backflow, .noCharge, .doseLow, .doseHigh, .doseUnknown, .settleLeak,
        .dwellShort, .headFault, .headReset, .positionLost]
      let reason (n : Nat) : Byte := match r.reasons[n]? with
        | none => 0
        | some k => BitVec.ofNat 8 (reasons.idxOf k + 1)
      let basis : Nat := match r.basis with
        | none => 0
        | some .weighed => 1
        | some .nominal => 2
        | some .none => 3
      recordBytes r = item 3 r.seq ++
        item 1 (r.head.val + 16 * r.slot.val + bit (r.verdict == some .reject) 32 + bit r.more 64 + bit r.boundLost 128) ++
        item 2 r.recipeId ++ orNone r.tag ++
        item 2 (match r.fillMass with | none => 0 | some m => 32768 + m % 16384) ++
        item 1 (basis + 4 * r.shots.length) ++ item 2 (r.target.getD 0) ++ orNone r.depth ++ orNone r.diameter ++
        decay r.probeDecay ++ decay r.dwellDecay ++ [reason 0, reason 1, reason 2, reason 3] ++ shot 0 ++ shot 1 ++ shot 2)

/-- CLEAR CONDITIONS (R164, R168, R170): the lowest bit that names no condition is refused; otherwise each named condition
that is SET becomes NOT SET unless its cause is present, the stop-request line and STOP follow, and the reply carries the
conditions cleared, those that stayed, all twelve, and the line (1 for asserted: log 13). The cause-present inputs are those of
R164. -/
def Obligations.ConditionsAreCleared : Prop :=
  (∀ (mask : BitVec 16) (s : State), LinkReady s →
    (∀ f : Nat, 12 ≤ f → mask.getLsbD f = true → (∀ g : Nat, 12 ≤ g → g < f → mask.getLsbD g = false) →
      exec (.clearConditions mask) s = .next (s.withReply ⟨0x81, [0x0F, 3, BitVec.ofNat 8 f]⟩)) ∧
    ((∀ f : Nat, 12 ≤ f → mask.getLsbD f = false) →
      ∀ (v : Vector Bool 12) (stop : Bool),
        (∀ k : Condition, v[k.num] = (s.conds.isSet[k.num] && !(mask.getLsbD k.num.val && !causePresent s k))) →
        stop = (v[0] || v[1] || v[2] || v[3]) →
        let cleared := conditions.map fun k => mask.getLsbD k.num.val && s.conds.isSet[k.num] && !causePresent s k
        let stayed := conditions.map fun k => mask.getLsbD k.num.val && s.conds.isSet[k.num] && causePresent s k
        exec (.clearConditions mask) s = .next ({ s with
          conds := { s.conds with isSet := v, stopLine := stop }
          infeed := { s.infeed with withhold := { s.infeed.withhold with stop := stop } } }.withReply
            ⟨0x80, [0x0F] ++ setItem cleared ++ setItem stayed ++ setItem v.toList ++ [if stop then 1 else 0]⟩))) ∧
  (∀ s : State,
    (causePresent s .positionSlip = true ↔ s.tracker.state ≠ .locked) ∧
    (causePresent s .allCylindersOut = true ↔
      ∀ c : Fin 4, s.cylinders[c].state = .disabled ∨ s.cylinders[c].state = .outOfService) ∧
    (causePresent s .headOutOfService = true ↔ ∃ h : Fin 16, s.heads[h].service = .outOfService) ∧
    (causePresent s .cylinderOutOfService = true ↔ ∃ c : Fin 4, s.cylinders[c].state = .outOfService) ∧
    (causePresent s .bufferLow = true ↔ s.gas.throttleOn = true) ∧
    (causePresent s .tempSensor = true ↔ s.gas.tempGood = false) ∧
    (∀ k : Condition, k ∈ ([.rejectUnconfirmed, .rejectLost, .fillSequence, .fillQueueFull, .lateFill, .linkFrameError] :
      List Condition) → causePresent s k = false))

/-- SET REPORTS writes the report mask whole (R167). A report given by a block joins the tail of the transmit queue if its
kind is enabled, no restart is pending, and fewer than 6 reports and fewer than 8 frames are queued; else it is not sent
(R179, R180). Setting a condition that is SET changes nothing; one that is NOT SET becomes SET, a STOP-class one asserts the
stop-request line with the reason STOP in the same act, and its CONDITION report is given if its own enable is on (R165,
R166, R170). TRACKER, HEAD and CYLINDER reports carry the items of R19, R45 and R107 with the values as they stand. The codes of
named values and of yes and no are log 13. -/
def Obligations.ReportsAndConditionsAreGiven : Prop :=
  (∀ (mask : BitVec 16) (s : State), LinkReady s →
    exec (.setReports mask) s = .next ({ s with conds := { s.conds with mask := mask } }.withReply ⟨0x80, [0x10]⟩)) ∧
  (∀ (k : ReportKind) (p : List Byte) (s : State),
    let enabled := s.conds.mask.getLsbD (match k with | .condition => 12 | .head => 13 | .cylinder => 14 | .tracker => 15) = true
    let room := s.link.tx.countP TxFrame.isReport < 6 ∧ s.link.tx.length < 8
    let kind : Byte := match k with | .condition => 0x90 | .head => 0x91 | .cylinder => 0x92 | .tracker => 0x93
    (enabled → s.link.restartPending = false → room →
      report k p s = { s with link := { s.link with tx := s.link.tx ++ [{ isReport := true, frame := ⟨kind, p⟩ }] } }) ∧
    (¬enabled ∨ s.link.restartPending = true ∨ ¬room → report k p s = s)) ∧
  (∀ (k : Condition) (s : State),
    let stops := k = .positionSlip ∨ k = .rejectUnconfirmed ∨ k = .rejectLost ∨ k = .allCylindersOut
    let set1 : State := { s with conds := { s.conds with isSet := s.conds.isSet.set k.num true } }
    let set2 : State := { set1 with
      conds := { set1.conds with stopLine := true }
      infeed := { s.infeed with withhold := { s.infeed.withhold with stop := true } } }
    let reported (t : State) (cls : Byte) : State :=
      if t.conds.mask.getLsbD k.num.val then
        report .condition ([BitVec.ofNat 8 k.num.val, cls, if causePresent s k then 1 else 0] ++ setItem t.conds.isSet.toList ++
          [if t.conds.stopLine then 1 else 0]) t
      else t
    (s.conds.isSet[k.num] = true → setCondition k s = s) ∧
    (s.conds.isSet[k.num] = false → stops → setCondition k s = reported set2 0) ∧
    (s.conds.isSet[k.num] = false → ¬stops → setCondition k s = reported set1 1)) ∧
  (∀ s : State,
    let code {α : Type} [BEq α] (table : List α) (x : α) : Byte := BitVec.ofNat 8 (table.idxOf x)
    let k := s.tracker
    (k.position < 65536 → k.revolution < 4294967296 → trackerReport s = report .tracker
      ([code [.primary, .secondary, .simulated] k.source, code [.unlocked, .seeking, .locked, .slipped] k.state,
        code [.running, .stopped] k.motion] ++ wire 2 k.position ++ wire 4 k.revolution) s) ∧
    (∀ (h : Fin 16) (cause : HeadCause),
      let x := s.heads[h]
      let seq : Nat := match x.record with
        | none => 0
        | some r => r.seq
      x.noFlowCount < 256 → x.zeroCount < 256 → seq < 16777216 → headReport h cause s = report .head
        ([BitVec.ofNat 8 h.val, code [.enabled, .disabling, .disabled, .zeroing, .outOfService] x.service,
          code [.empty, .seated, .crimped, .probing, .probed, .waiting, .charging, .charged, .dwelling, .lifted] x.cycle,
          BitVec.ofNat 8 x.noFlowCount, BitVec.ofNat 8 x.zeroCount] ++ wire 3 seq ++
         [code [.enableRequest, .disableRequest, .disableComplete, .resetRequest, .zeroGood, .noFlowLimit, .zeroLimit] cause]) s) ∧
    (∀ (c : Fin 4) (cause : CylCause),
      let y := s.cylinders[c]
      y.pressure < 65536 → y.failures < 256 → cylinderReport c cause s = report .cylinder
        ([BitVec.ofNat 8 c.val,
          code [.idle, .refilling, .ready, .discharging, .measuring, .fault, .disabled, .outOfService] y.state,
          if y.disablePending then 1 else 0] ++ wire 2 y.pressure ++ [BitVec.ofNat 8 y.failures,
          code [.refillTimeout, .refillLimit, .refillRecovered, .disableRequest, .disableComplete, .enableRequest] cause]) s))

/-- SELECT SOURCE (R2, R3): refused while a head holds a can or the reject queue holds an entry; otherwise the source is
selected, the tracker enters SEEKING with the flag NOT SEEN, leaving LOCKED sets POSITION and withdraws every admission (R51),
SIMULATED follows the source, the stop-detect timer is restarted and the count generator started or stopped; revolution and
high-water mark are kept. The ACCEPT comes before the TRACKER report. That the report is always sent and that the generator's
count restarts at each SELECT SOURCE of SIMULATED, and that the refusal names no field, is log 11. -/
def Obligations.SourceIsSelected : Prop :=
  ∀ (code : Nat) (src : Source) (s : State), LinkReady s →
    (code, src) ∈ ([(0, .primary), (1, .secondary), (2, .simulated)] : List (Nat × Source)) →
    let sim := decide (src = .simulated)
    let leaving := s.tracker.state = .locked ∧ s.infeed.withhold.position = false
    let t : State := { s with
      tracker := { s.tracker with
        source := src, state := .seeking, firstIndexSeen := false, position := 0, interval := 0
        stopDetect := .running (stopDetectTime s.config), genRunning := sim
        genCount := if sim then 0 else s.tracker.genCount }
      infeed := { s.infeed with
        withhold := { s.infeed.withhold with
          simulated := sim, position := s.infeed.withhold.position || decide (s.tracker.state = .locked) }
        admitted := if leaving then Vector.replicate 16 false else s.infeed.admitted
        gateOpen := if leaving then false else s.infeed.gateOpen } }
    (inProcess s = 0 → s.verdicts.rejects = [] →
      exec (.selectSource code) s = .next (trackerReport (t.withReply ⟨0x80, [0x11]⟩))) ∧
    (inProcess s ≠ 0 ∨ s.verdicts.rejects ≠ [] →
      exec (.selectSource code) s = .next (s.withReply ⟨0x81, [0x11, 5, 255]⟩))

/-- RELOCK (R11): accepted in SLIPPED, it moves the tracker to SEEKING with the flag NOT SEEN, and the ACCEPT comes before the
TRACKER report; the source and POSITION_SLIP stand. In any other state it is refused WRONG_STATE and changes nothing (that the
refusal names no field is DEDUCED, log 11). -/
def Obligations.RelockLeavesSlipped : Prop :=
  ∀ s : State, LinkReady s →
    (s.tracker.state = .slipped →
      exec .relock s = .next (trackerReport ({ s with tracker := { s.tracker with
        state := .seeking, firstIndexSeen := false, position := 0, interval := 0 } }.withReply ⟨0x80, [0x12]⟩))) ∧
    (s.tracker.state ≠ .slipped → exec .relock s = .next (s.withReply ⟨0x81, [0x12, 5, 255]⟩))


/-! ## The position tracker -/

/-- ENCODER_COUNT before LOCKED and in SLIPPED (R1, R4, R5, R6, R10, R12). A count from the other input shows only its sensor
levels. A count from the selected one restarts the stop-detect timer and makes the motion state RUNNING, with a TRACKER report
where it stood STOPPED; it then acts by the tracker state, and a forward index pulse after it by the state it leaves. A
reverse index pulse is as no index pulse. That an index is overdue from 4097 plus the tolerance on, at forward counts alone, is
DEDUCED (log 10); that the command carries the sensor levels it shows is log 5. -/
def Obligations.CountsBeforeLock : Prop :=
  ∀ (input : EncoderInput) (dir : Direction) (index : Bool) (v : Sensors) (order : List Taker) (s : State),
    let taken := exec (.encoderCount input dir index v order) s
    let selected := s.tracker.source = (match input with | .primary => .primary | .secondary => .secondary)
    let run : Tracker := { s.tracker with motion := .running, stopDetect := .running (stopDetectTime s.config) }
    let on (t : State) (x : Tracker) : State := { t with tracker := x }
    let started : State :=
      if s.tracker.motion = .stopped then trackerReport { s with sensors := v, tracker := run }
      else { s with sensors := v, tracker := run }
    let marked := index = true ∧ dir = .forward
    let pos := match dir with
      | .forward => (s.tracker.position + 1) % 4096
      | .reverse => (s.tracker.position + 4095) % 4096
    let i : Int := match dir with
      | .forward => s.tracker.interval + 1
      | .reverse => s.tracker.interval - 1
    let tol : Int := indexTolerance s.config
    let sought (seen : Bool) : Tracker := { run with state := .seeking, firstIndexSeen := seen, position := 0, interval := 0 }
    (¬selected → taken = .next { s with sensors := v }) ∧
    (selected → s.tracker.state = .unlocked →
      (¬marked → taken = .next (trackerReport (on started (sought false)))) ∧
      (marked → taken = .next (on (trackerReport (on started (sought false))) (sought true)))) ∧
    (selected → s.tracker.state = .seeking → s.tracker.firstIndexSeen = false →
      (¬marked → taken = .next started) ∧ (marked → taken = .next (on started (sought true)))) ∧
    (selected → s.tracker.state = .seeking → s.tracker.firstIndexSeen = true →
      (¬marked → dir = .forward → 4096 + tol + 1 ≤ i → taken = .next (on started (sought false))) ∧
      (¬marked → dir = .reverse ∨ i < 4096 + tol + 1 →
        taken = .next (on started { run with position := pos, interval := i })) ∧
      (marked → i < 4096 - tol ∨ 4096 + tol < i → taken = .next (on started (sought true))) ∧
      (marked → 4096 - tol ≤ i → i ≤ 4096 + tol →
        let rev := (s.tracker.highWater / 4096 + 1) % 4294967296
        let locked := trackerReport (on started { run with
          state := .locked, revolution := rev, position := 0, highWater := rev * 4096, interval := 0 })
        taken = .next { locked with
          infeed := { s.infeed with withhold := { s.infeed.withhold with position := false } } })) ∧
    (selected → s.tracker.state = .slipped →
      let gone := on started { run with position := pos, interval := i }
      (¬marked ∨ autoRelock s.config = false → taken = .next gone) ∧
      (marked → autoRelock s.config = true → taken = .next (trackerReport (on gone (sought true)))))

/-- ENCODER_COUNT from the selected source in LOCKED (R7, R8, R14, R15). A forward count enters the position after the present
one: the absolute position rises by one, the high-water mark with it where it is passed, and the heads and the verdict unit
meet that position, the heads only where the mark was passed. An index pulse corrects the absolute position to the reference
index or the next, position by position, or slips; an index overdue and a reverse excursion beyond the limit slip. The
index tolerance is at most 16 (R18). The order of the agents at one position is the command's operand (log 6), positions past
the last revolution wrap as numbers (log 9), the overdue test follows the position's phases (log 10), and the sensor levels are the
command's (log 5): the model's choices. -/
def Obligations.LockedCountsMove : Prop :=
  ∀ (input : EncoderInput) (index : Bool) (v : Sensors) (order : List Taker) (s : State),
    s.tracker.source = (match input with | .primary => .primary | .secondary => .secondary) → s.tracker.state = .locked →
    indexTolerance s.config ≤ 16 →
    let run : Tracker := { s.tracker with motion := .running, stopDetect := .running (stopDetectTime s.config) }
    let started : State :=
      if s.tracker.motion = .stopped then trackerReport { s with sensors := v, tracker := run }
      else { s with sensors := v, tracker := run }
    let tol : Int := indexTolerance s.config
    let next (t : Tracker) : Tracker :=
      let p := if t.position = 4095 then 0 else t.position + 1
      let r := if t.position = 4095 then (t.revolution + 1) % 4294967296 else t.revolution
      { t with position := p, revolution := r, highWater := max t.highWater (r * 4096 + p) }
    let enter (t : State) : State :=
      (takersInOrder order).foldl (takePosition (decide (t.tracker.highWater < (next t.tracker).absolute))
        (next t.tracker).position) { t with tracker := next t.tracker }
    let prev (t : Tracker) : Tracker :=
      { t with position := if t.position = 0 then 4095 else t.position - 1
               revolution := if t.position = 0 then (t.revolution + 4294967295) % 4294967296 else t.revolution }
    let restart (t : State) : State := { t with tracker := { t.tracker with interval := 0 } }
    let i := s.tracker.interval + 1
    let forward := exec (.encoderCount input .forward index v order) s
    let counted := enter { started with tracker := { run with interval := i } }
    let reverse := exec (.encoderCount input .reverse index v order) s
    let returned : State := { started with tracker := { prev run with interval := s.tracker.interval - 1 } }
    (index = false → forward = .next (if 4096 + tol + 1 ≤ i then enterSlipped counted else counted)) ∧
    (index = true → 4096 - tol ≤ i → i ≤ 4096 → forward = .next (restart (enter^[(4096 - i).toNat] counted))) ∧
    (index = true → 4096 < i → i ≤ 4096 + tol →
      forward = .next (restart { counted with tracker := prev^[(i - 4096).toNat] counted.tracker })) ∧
    (index = true → -tol ≤ i → i ≤ 0 → forward = .next (restart (enter^[(-i).toNat] counted))) ∧
    (index = true → 0 < i → i ≤ tol → forward = .next (restart { counted with tracker := prev^[i.toNat] counted.tracker })) ∧
    (index = true → i < -tol ∨ tol < i ∧ i < 4096 - tol → forward = .next (enterSlipped counted)) ∧
    (index = true → 4096 + tol < i →
      let slipped := enterSlipped counted
      forward = .next (if autoRelock s.config then trackerReport { slipped with tracker := { slipped.tracker with
        state := .seeking, firstIndexSeen := true, position := 0, interval := 0 } } else slipped)) ∧
    (reverse = .next (if (reverseLimit s.config : Int) < (s.tracker.highWater : Int) - ((prev s.tracker).absolute : Int) then
      enterSlipped returned else returned))

/-- SIMULATED_COUNT (R2): while SIMULATED is selected and the generator runs, its own count rises by one and a forward count is
taken exactly as an encoder count is, with an index pulse where its own count becomes 1 more than a multiple of 4096; else it
shows only its sensor levels. An encoder count of the selected input is the same taking. STOP_DETECT_EXPIRY (R12): the motion
state becomes STOPPED with a TRACKER report, or nothing but the timer changes on a stopped turret; no event with the timer not
running (log 1); the sensor levels are the command's (log 5). -/
def Obligations.SimulatedCountsAndStops : Prop :=
  (∀ (v : Sensors) (order : List Taker) (s : State),
    let u : State := { s with sensors := v, tracker := { s.tracker with genCount := s.tracker.genCount + 1 } }
    (s.tracker.source = .simulated → s.tracker.genRunning = true → (s.tracker.genCount + 1) % 4096 = 1 →
      exec (.simulatedCount v order) s = .next (takeCount .forward true order u)) ∧
    (s.tracker.source = .simulated → s.tracker.genRunning = true → (s.tracker.genCount + 1) % 4096 ≠ 1 →
      exec (.simulatedCount v order) s = .next (takeCount .forward false order u)) ∧
    (s.tracker.source ≠ .simulated ∨ s.tracker.genRunning = false →
      exec (.simulatedCount v order) s = .next { s with sensors := v }) ∧
    (∀ (dir : Direction) (index : Bool),
      (s.tracker.source = .primary → exec (.encoderCount .primary dir index v order) s =
        .next (takeCount dir index order { s with sensors := v })) ∧
      (s.tracker.source = .secondary → exec (.encoderCount .secondary dir index v order) s =
        .next (takeCount dir index order { s with sensors := v })))) ∧
  (∀ (s : State) (n : Nat), s.tracker.stopDetect = .running n →
    (s.tracker.motion = .running → exec .stopDetectExpiry s =
      .next (trackerReport { s with tracker := { s.tracker with stopDetect := .stopped, motion := .stopped } })) ∧
    (s.tracker.motion = .stopped → exec .stopDetectExpiry s =
      .next { s with tracker := { s.tracker with stopDetect := .stopped } })) ∧
  (∀ s : State, s.tracker.stopDetect = .stopped → exec .stopDetectExpiry s = .next s)

/-- Entry to SLIPPED (R9, R43, R51, R95, R146): POSITION stands, with every admission withdrawn; each held can gains
POSITION_LOST; a WAITING head is CHARGED and its request gone; a CHARGING head is CHARGED with its cylinder, now MEASURING, as
pending result; the reject queue is empty; POSITION_SLIP and REJECT_LOST are SET (the order in which the blocks take the notice,
which these values do not show, is log 7). The premise is the pairing invariant. -/
def Obligations.SlipIsTaken : Prop :=
  ∀ s : State, PairingSafe s →
    let t := enterSlipped s
    let lost (r : CanRecord) : CanRecord := r.withReason .positionLost
    t.tracker = { s.tracker with state := .slipped } ∧
    t.infeed.withhold.position = true ∧
    (s.infeed.withhold.position = false → t.infeed.gateOpen = false ∧ ∀ h : Fin 16, t.infeed.admitted[h] = false) ∧
    (∀ h : Fin 16,
      let x := s.heads[h]
      (x.cycle = .waiting → t.heads[h] =
        { x with record := x.record.map lost, cycle := .charged, pendingResult := none }) ∧
      (∀ c : Fin 4, x.cycle = .charging → x.paired = some c → t.heads[h] =
        { x with record := x.record.map lost, cycle := .charged, pendingResult := some c, paired := none
                 inlets := x.inlets.set c false, flowTimer := .stopped }) ∧
      (x.cycle ≠ .waiting → x.cycle ≠ .charging → t.heads[h] = { x with record := x.record.map lost })) ∧
    (∀ c : Fin 4,
      let x := s.cylinders[c]
      t.cylinders[c] =
        if x.state = .discharging then
          { x with state := .measuring, refillValve := false, dischargeValve := false, refillTimer := .stopped
                   retryTimer := .stopped, settleTimer := .running (settleTime s.config)
                   shot := x.shot.map fun z => { z with cause := some .slip, aborted := true, backflow := false } }
        else x) ∧
    t.grantQueue = [] ∧
    t.verdicts = { s.verdicts with rejects := [] } ∧
    (∀ k : Fin 12, t.conds.isSet[k] = (s.conds.isSet[k] || k == 0 || k == 2)) ∧
    t.gas = s.gas ∧ t.slots = s.slots ∧ t.allowances = s.allowances ∧ t.config = s.config ∧ t.gasTable = s.gasTable ∧
    t.sensors = s.sensors ∧ t.pending = s.pending

/-! ## Stations -/

/-- The agents that meet a position, each of the sixteen heads and the verdict unit once, in the order the command carries and
then those it does not name (R14, R142; log 6). Which phases a head meets (R14), and the phases SEAT, CRIMP, VENT and ZERO (R27, R28, R33, R41, R81, R83). Head h meets at a
position raised above the high-water mark the station whose angle plus 256 h falls there, of which there is at most one, and
below it none. ZERO tests the raw pressure, clamped to 0 to 2000, against atmosphere; the third bad sample in succession takes
the head out of service. Sensors show the levels the last command carried (log 5). -/
def Obligations.StationsMeetTheirHeads : Prop :=
  (∀ (c : MachineConfig) (h : Fin 16) (f : Fin 13),
    (stations[f.val]?.map (stationPosition c h)) = some ((c.fields[f.val] + 256 * h.val) % 4096)) ∧
  (∀ order : List Taker,
    (∀ h : Fin 16, (takersInOrder order).count (.head h) = 1) ∧ (takersInOrder order).count .verdictUnit = 1 ∧
    (order.Nodup → (takersInOrder order).take order.length = order)) ∧
  (∀ (pos : Nat) (h : Fin 16) (s : State), ConfigSafe s.config →
    takePosition false pos s (.head h) = s ∧
    (∀ st : Station, stationPosition s.config h st = pos → takePosition true pos s (.head h) = stationPhase h st s) ∧
    ((∀ st : Station, stationPosition s.config h st ≠ pos) → takePosition true pos s (.head h) = s)) ∧
  (∀ (h : Fin 16) (s : State),
    let x := s.heads[h]
    let put (y : Head) : State := { s with heads := s.heads.set h y }
    let at_ (st : Station) : State := stationPhase h st s
    let vents := x.service = .enabled ∨ x.service = .disabling ∨ x.service = .zeroing
    let diff : Int := (min 2000 s.sensors.heads[h].pressure.toNat : Nat) - (atmosphere s.config : Int)
    let good := -(zeroWindow s.config : Int) ≤ diff ∧ diff ≤ (zeroWindow s.config : Int)
    (x.record ≠ none → x.cycle = .seated →
      at_ .seat = put { x with headDown := true } ∧ at_ .crimp = put { x with collet := true }) ∧
    (x.record = none ∨ x.cycle ≠ .seated → at_ .seat = s ∧ at_ .crimp = s ∧ at_ .crimpRead = s) ∧
    (x.cycle = .empty → vents → at_ .vent = put { x with ventValve := true }) ∧
    (x.cycle ≠ .empty ∨ ¬vents → at_ .vent = s ∧ at_ .zero = s) ∧
    (x.cycle = .empty → vents → good →
      let y : Head := { x with ventValve := false, zeroOffset := diff, zeroCount := 0 }
      at_ .zero = if x.service = .zeroing then headReport h .zeroGood (put { y with service := .enabled }) else put y) ∧
    (x.cycle = .empty → vents → ¬good → x.zeroCount < 2 →
      at_ .zero = put { x with ventValve := false, zeroCount := x.zeroCount + 1 }) ∧
    (x.cycle = .empty → vents → ¬good → 2 ≤ x.zeroCount →
      let t := put { x with
        ventValve := false, zeroCount := 3, service := .outOfService, returnState := none
        record := x.record.map fun r => r.withReason .headFault }
      at_ .zero = headReport h .zeroLimit
        (setCondition .headOutOfService { t with grantQueue := s.grantQueue.filter (· ≠ h) })))

/-- GATE and INFEED (R25, R32, R50 to R54, R104, R105). The gate admits a can while no stored reason is present, the head is
ENABLED and EMPTY, and log, cans in process and pending admissions number less than 64; an admission restarts the idle timer
and in STANDBY begins a wake. At INFEED a can present is recorded under the ACTIVE slot if the pocket was admitted or room
remains, bound to the oldest fill entry or put on the awaiting list; else it is a stray. A head that is ZEROING, DISABLED or
OUT_OF_SERVICE marks it HEAD_FAULT, and a DISABLED one is DISABLING again; a DISABLING head that stays EMPTY is DISABLED. The pocket
sensor shows the level the last command carried (log 5). A head that still holds a record at INFEED first hands it on as at
OUTFEED. -/
def Obligations.CansEnterAtInfeed : Prop :=
  (∀ (h : Fin 16) (s : State),
    let w := s.infeed.withhold
    let admits := w.noRecipe = false ∧ w.holdRequest = false ∧ w.gas = false ∧ w.wake = false ∧ w.temp = false ∧
      w.position = false ∧ w.simulated = false ∧ w.stop = false ∧ w.noCylinder = false ∧ s.heads[h].service = .enabled ∧
      s.heads[h].cycle = .empty ∧ roomTaken s < 64
    let admitted : State := { s with
      infeed := { s.infeed with admitted := s.infeed.admitted.set h true, gateOpen := true }
      gas := { s.gas with idleTimer := .running (idleDelay s.config) } }
    (admits → s.gas.standby ≠ .standby → stationPhase h .gate s = admitted) ∧
    (admits → s.gas.standby = .standby → stationPhase h .gate s = { admitted with
      gas := { admitted.gas with standby := .waking, economy := false, wakeTimer := .running (wakeWait s.config) }
      infeed := { admitted.infeed with withhold := { w with wake := true } } }) ∧
    (¬admits → stationPhase h .gate s =
      { s with infeed := { s.infeed with admitted := s.infeed.admitted.set h false, gateOpen := false } })) ∧
  (∀ (h : Fin 16) (s : State), s.heads[h].record ≠ none →
    stationPhase h .infeed s = stationPhase h .infeed (stationPhase h .outfeed s) ∧
    (stationPhase h .outfeed s).heads[h].record = none ∧ (stationPhase h .outfeed s).heads[h].cycle = .empty) ∧
  (∀ (h : Fin 16) (s : State), s.heads[h].record = none →
    let x : Head := { s.heads[h] with ventValve := false, window := .notOpen, decided := false, flowDetected := false }
    let i : Infeed := { s.infeed with admitted := s.infeed.admitted.set h false }
    let put (y : Head) (j : Infeed) : State := { s with heads := s.heads.set h y, infeed := j }
    let left (j : Infeed) : State :=
      if x.service = .disabling ∧ x.cycle = .empty then
        headReport h .disableComplete (put { x with service := .disabled, returnState := none, ventValve := false } j)
      else put x j
    let room := s.infeed.admitted[h] = true ∨ roomTaken s < 64
    let infeed := stationPhase h .infeed s
    (s.sensors.pocket = false → infeed = left i) ∧
    (s.sensors.pocket = true → (activeSlot s = none ∨ ¬room) →
      infeed = left { i with strayCount := min 65535 (i.strayCount + 1) }) ∧
    (∀ slot : Fin 2, s.sensors.pocket = true → activeSlot s = some slot → room →
      let r : CanRecord :=
        { seq := i.nextSeq, head := h, slot := slot, recipeId := recipeId (slotRecipe s slot), tag := none, fillMass := none
          boundLost := false, basis := none, target := none, shots := [], total := 0, depth := none, diameter := none
          probeDecay := none, dwellDecay := none, reasons := [], more := false, verdict := none }
      let bound : CanRecord := match i.fillQueue with
        | [] => r
        | e :: _ => match e.mass with
          | some m => { r with tag := some e.tag, fillMass := some m }
          | none => { r with boundLost := true }
      let j : Infeed := { i with
        nextSeq := if i.nextSeq = 16777215 then 1 else i.nextSeq + 1
        fillQueue := i.fillQueue.tail
        awaiting := if i.fillQueue = [] then i.awaiting ++ [{ head := h, seq := i.nextSeq, settled := false, owed := 0 }]
          else i.awaiting }
      let put (y : Head) : State := { s with
        heads := s.heads.set h y, infeed := j, slots := s.slots.set slot { s.slots[slot] with refs := s.slots[slot].refs + 1 } }
      let fault : CanRecord := { bound with reasons := [.headFault] }
      (x.service = .enabled ∨ x.service = .disabling → infeed = put { x with cycle := .seated, record := some bound }) ∧
      (x.service = .zeroing ∨ x.service = .outOfService → infeed = put { x with cycle := .seated, record := some fault }) ∧
      (x.service = .disabled → infeed = headReport h .disableRequest
        (put { x with cycle := .seated, record := some fault, service := .disabling, returnState := some .zeroing }))))

/-- CRIMP_READ of a SEATED can (R34, R65, R72, R73): both gauges are taken within 0 to 9999; the depth is written, and the
diameter where a cup is found; each test that fails adds its reason, in order; the collet opens; CRIMPED. A reason joins the
list while it holds less than four, and else marks that there were more. The gauges show the levels the last command carried
(log 5). -/
def Obligations.CrimpIsRead : Prop :=
  (∀ (h : Fin 16) (s : State) (r : CanRecord), s.heads[h].record = some r → s.heads[h].cycle = .seated →
    let rcp := slotRecipe s r.slot
    let d := min 9999 s.sensors.heads[h].depth.toNat
    let m := min 9999 s.sensors.heads[h].diameter.toNat
    let found : List Reason :=
      (if noCupDepth rcp ≤ d then [.noCup] else []) ++ (if d < depthMin rcp then [.crimpShallow] else []) ++
      (if depthMax rcp < d then [.crimpDeep] else []) ++
      (if d < noCupDepth rcp ∧ (m < diameterMin rcp ∨ diameterMax rcp < m) then [.crimpDiameter] else [])
    let read : CanRecord := { r with depth := some d, diameter := if d < noCupDepth rcp then some m else r.diameter }
    stationPhase h .crimpRead s = { s with heads := s.heads.set h { s.heads[h] with
      record := some (found.foldl CanRecord.withReason read), collet := false, cycle := .crimped } }) ∧
  (∀ (r : CanRecord) (k : Reason),
    (k ∈ r.reasons → r.withReason k = r) ∧
    (k ∉ r.reasons → r.reasons.length < 4 → r.withReason k = { r with reasons := r.reasons ++ [k] }) ∧
    (k ∉ r.reasons → 4 ≤ r.reasons.length → r.withReason k = { r with more := true }))

/-- The leak probe (R35, R36, R74 to R77): PROBE starts it on an unmarked CRIMPED can, in HOLD where the corrected pressure is at
the probe pressure already, else in BUILD with its valve open; PROBE_BUILD_END takes Pa; BUILD_TIMEOUT_EXPIRY gives CRIMP_LEAK;
PROBE_HOLD_EXPIRY writes the decay and tests it. Each ends PROBED, with the charge decision at once where CHARGE_OPEN has
passed (log 16). A head that is EMPTY or holds a can in another cycle state starts no probe. An event out of its step changes
nothing but the pressure shown (log 1); the readings are operands, at PROBE_BUILD_END the one that reaches the probe pressure and
the one at the closing, which is Pa (log 5). -/
def Obligations.ProbeRuns : Prop :=
  (∀ (h : Fin 16) (raw : Int) (two : BuildReadings) (s : State),
    let shown (raw : Int) : State := { s with
      sensors := { s.sensors with heads := s.sensors.heads.set h { s.sensors.heads[h] with pressure := raw } } }
    (s.heads[h].record = none ∨ s.heads[h].cycle ≠ .crimped → stationPhase h .probe s = s) ∧
    (s.heads[h].probeStep ≠ .build → exec (.probeBuildEnd h two) s = .next (shown two.reached) ∧
      exec (.buildTimeoutExpiry h) s = .next s) ∧
    (s.heads[h].probeStep ≠ .hold → exec (.probeHoldExpiry h raw) s = .next (shown raw))) ∧
  ∀ (h : Fin 16) (raw : Int) (two : BuildReadings) (s : State) (r : CanRecord), s.heads[h].record = some r →
    let x := s.heads[h]
    let rcp := slotRecipe s r.slot
    let corrected (raw : Int) : Nat := min 2000 (((min 2000 raw.toNat : Nat) : Int) - x.zeroOffset).toNat
    let put (t : State) (y : Head) : State := { t with heads := t.heads.set h y }
    let shown (raw : Int) : State := { s with
      sensors := { s.sensors with heads := s.sensors.heads.set h { s.sensors.heads[h] with pressure := raw } } }
    let probed (t : State) (y : Head) : State :=
      if x.window = .notOpen then put t { y with cycle := .probed } else chargeDecision h (put t { y with cycle := .probed })
    let ended (r : CanRecord) : Head := { x with
      record := some r, probeValve := false, probeTimer := .stopped, probeStep := .idle, pa := none }
    let p := corrected s.sensors.heads[h].pressure
    (x.cycle = .crimped → r.reasons ≠ [] → stationPhase h .probe s = probed s x) ∧
    (x.cycle = .crimped → r.reasons = [] → probePressure rcp ≤ p → stationPhase h .probe s = put s { x with
      cycle := .probing, probeStep := .hold, pa := some p, probeTimer := .hold (probeHold rcp) }) ∧
    (x.cycle = .crimped → r.reasons = [] → p < probePressure rcp → stationPhase h .probe s = put s { x with
      cycle := .probing, probeStep := .build, probeValve := true, probeTimer := .build 100 }) ∧
    (x.probeStep = .build → probePressure rcp ≤ corrected two.reached →
      exec (.probeBuildEnd h two) s = .next (put (shown two.closing) { x with
        probeValve := false, pa := some (corrected two.closing), probeStep := .hold, probeTimer := .hold (probeHold rcp) })) ∧
    (corrected two.reached < probePressure rcp → exec (.probeBuildEnd h two) s = .next (shown two.reached)) ∧
    (x.cycle = .probing → x.probeStep = .build →
      exec (.buildTimeoutExpiry h) s = .next (probed s (ended (r.withReason .crimpLeak)))) ∧
    (∀ pa : Nat, x.cycle = .probing → x.probeStep = .hold → x.pa = some pa →
      let decay : Int := (pa : Int) - (corrected raw : Int)
      let read : CanRecord := { r with probeDecay := some decay }
      (pa < probeBuildMin rcp ∨ (probeDecayLimit rcp : Int) < decay →
        exec (.probeHoldExpiry h raw) s = .next (probed (shown raw) (ended (read.withReason .crimpLeak)))) ∧
      (probeBuildMin rcp ≤ pa → decay ≤ (probeDecayLimit rcp : Int) →
        exec (.probeHoldExpiry h raw) s = .next (probed (shown raw) (ended read))))

/-! ## The charge decision, the arbiter and the dose -/

/-- CHARGE_OPEN and the charge decision (R36, R62, R63, R100, R111, R123). A PROBED can not yet decided is settled: its entry in
the awaiting list is noted as settled, and the settled entries at the head of the list leave it, each raising the debt by one, and
by one for each settled can behind it that has left the turret (log 18); the debt is held at 16 with FILL_SEQUENCE set where it
would pass. A good binding, or the NOMINAL policy, gives an unmarked can its
basis and target dose, and its request joins the grant queue at which the arbiter looks; a fill reason, or a mark, leaves it
uncharged, with basis NONE, and CHARGED. At an EMPTY head, and at one whose can is not yet PROBED or is decided, CHARGE_OPEN opens
the window and decides nothing. -/
def Obligations.ChargeIsDecided : Prop :=
  (∀ (h : Fin 16) (s : State), s.heads[h].record = none ∨ s.heads[h].cycle ≠ .probed ∨ s.heads[h].decided = true →
    stationPhase h .chargeOpen s = { s with heads := s.heads.set h { s.heads[h] with window := .isOpen } }) ∧
  ∀ (h : Fin 16) (s : State) (r : CanRecord), s.heads[h].record = some r → s.heads[h].cycle = .probed →
    let x := s.heads[h]
    let rcp := slotRecipe s r.slot
    let noted := s.infeed.awaiting.map fun e => if e.head = h ∧ e.seq = r.seq then { e with settled := true } else e
    let gone := ((noted.takeWhile AwaitEntry.settled).map fun e => e.owed + 1).sum
    let settled : State := { s with infeed := { s.infeed with
      awaiting := noted.dropWhile AwaitEntry.settled, debt := min 16 (s.infeed.debt + gone) } }
    let counted : State := if s.infeed.debt + gone ≤ 16 then settled else setCondition .fillSequence settled
    let put (y : Head) : State := { counted with heads := s.heads.set h y }
    let open_ : Head := { x with window := .isOpen, decided := true }
    let mass : Option (DoseBasis × Nat) := match r.fillMass with
      | some m => if fillMin rcp ≤ m ∧ m ≤ fillMax rcp then some (.weighed, m) else none
      | none => if r.boundLost = false ∧ policyRejects rcp = false then some (.nominal, nominalMass rcp) else none
    let fault : Reason := match r.fillMass with
      | some _ => .fillOutOfRange
      | none => if r.boundLost then .fillLost else .noFillReport
    let target (m : Nat) : Nat := min (doseMax rcp) (max (doseMin rcp) ((m * gasRatio rcp * 2 + 100) / 200))
    (∀ (b : DoseBasis) (m : Nat), x.decided = false → mass = some (b, m) → r.reasons = [] → h ∉ s.grantQueue →
      stationPhase h .chargeOpen s = arbitrate { put { open_ with
        cycle := .waiting, record := some { r with basis := some b, target := some (target m) } } with
          grantQueue := s.grantQueue ++ [h] }) ∧
    (∀ (b : DoseBasis) (m : Nat), x.decided = false → mass = some (b, m) → r.reasons ≠ [] →
      stationPhase h .chargeOpen s = put { open_ with
        cycle := .charged, pendingResult := none, record := some { r with basis := some .none } }) ∧
    (x.decided = false → mass = none →
      stationPhase h .chargeOpen s = put { open_ with
        cycle := .charged, pendingResult := none, record := some { r.withReason fault with basis := some .none } })

/-- The arbiter (R94, R100, R101, R113, R118, R124, R131). While the queue holds a request and a cylinder is READY, the oldest
request is offered the lowest READY cylinder. If the shot target less the allowance reaches the minimum shot, the cylinder is
granted: DISCHARGING, with its owner and its shot in flight, and the head CHARGING and paired; else the head is CHARGED and
the dose of an unmarked can judged. The grant queue names no head twice, and the head offered holds a target dose. The cut-off is
DoseArithmetic's, whose start density is DEDUCED (log 8). -/
def Obligations.OffersFollowTheQueue : Prop :=
  (∀ s : State, s.grantQueue = [] ∨ (∀ c : Fin 4, s.cylinders[c].state ≠ .ready) → arbitrate s = s) ∧
  (∀ (h : Fin 16) (rest : List (Fin 16)) (c : Fin 4) (r : CanRecord) (t : Nat) (s : State),
    s.grantQueue = h :: rest → s.grantQueue.Nodup → s.cylinders[c].state = .ready →
    (∀ d : Fin 4, d < c → s.cylinders[d].state ≠ .ready) → s.heads[h].record = some r → r.target = some t →
    let x := s.heads[h]
    let y := s.cylinders[c]
    let target : Int := (t : Int) - (r.total : Int)
    let mass : Int := target - (s.allowances[r.slot][c] : Int)
    let temp : Int := max (-100) (min 500 s.gas.heldTemp)
    let cut := shotCutoff s.gasTable (floorPressure (slotRecipe s r.slot)) y.pressure mass temp (cylinderVolume s.config c)
    let shot : Shot :=
      { owner := h, slot := r.slot, startP := y.pressure, startOver := y.overRange, cutoff := cut.1, short := cut.2
        temperature := temp, cause := none, aborted := false, backflow := false, endP := none, endOver := false
        delivered := none, startDensity := density s.gasTable y.pressure, volume := cylinderVolume s.config c
        target := target, mayAdapt := true }
    let put (z : Head) : State := { s with heads := s.heads.set h z, grantQueue := rest }
    let refused : Head := { x with cycle := .charged, pendingResult := none }
    ((minimumShot s.config : Int) ≤ mass →
      arbitrate s = arbitrate { put { x with
        cycle := .charging, paired := some c, inlets := x.inlets.set c true, flowDetected := false
        flowTimer := .running (flowDetectTime s.config) } with
          cylinders := s.cylinders.set c { y with
            state := .discharging, refillValve := false, dischargeValve := true, refillTimer := .stopped
            retryTimer := .stopped, settleTimer := .stopped, owner := some h, shot := some shot } }) ∧
    (mass < (minimumShot s.config : Int) →
      arbitrate s = arbitrate (put { refused with record := some (
        if r.reasons = [] ∧ (r.total : Int) < (t : Int) - (toleranceLow (slotRecipe s r.slot) : Int) then
          r.withReason .doseLow
        else if r.reasons = [] ∧ (t : Int) + (toleranceHigh (slotRecipe s r.slot) : Int) < (r.total : Int) then
          r.withReason .doseHigh
        else r) })))

/-- The dose arithmetic (R110, R114, R115, R116, R119), for a gas table that may be in force: the density at a pressure, on the
points and between them; the density drop of a shot, rounded half up; the SHORT shot that ends at the floor; and, where the
shot is not SHORT, the cut-off as the lowest pressure whose density is at or above the cut-off density; the delivered mass;
and an allowance moved by a quarter of the error, truncated toward zero and held within 0 to 2000. The density does
not fall as the pressure rises. That R114's "ρ(P1)" is the start density is log 8. -/
def Obligations.DoseArithmetic : Prop :=
  (∀ (t : GasTable) (i : Fin 16) (k : Nat), GasTableSafe t → k < 250 →
    let a := t.points[i.val]'(by omega)
    let b := t.points[i.val + 1]'(by omega)
    density t (250 * i.val + k) = (a + (b - a) * k / 250 : Nat) ∧ ∀ p : Nat, 4000 ≤ p → density t p = t.points[16]) ∧
  (∀ (t : GasTable) (p q : Nat), GasTableSafe t → p ≤ q → density t p ≤ density t q) ∧
  (∀ (t : GasTable) (floor p v : Nat) (mass temp : Int), GasTableSafe t → 0 < v → -2732 < temp → 0 < mass →
    let drop := (2 * (mass * (2732 + temp) * 1000) + v * 2932) / (2 * (v * 2932))
    let cut := shotCutoff t floor p mass temp v
    (density t p - drop < density t floor → cut = (floor, true)) ∧
    (density t floor ≤ density t p - drop →
      cut.2 = false ∧ density t p - drop ≤ density t cut.1 ∧ ∀ q : Nat, q < cut.1 → density t q < density t p - drop)) ∧
  (∀ (start stop temp : Int) (v : Nat),
    (start < stop → deliveredMass false start stop temp v = 0) ∧ deliveredMass true start stop temp v = 0 ∧
    (stop ≤ start → -2732 < temp → (deliveredMass false start stop temp v : Int) =
      (2 * (v * (start - stop) * 2932) + (2732 + temp) * 1000) / (2 * ((2732 + temp) * 1000)))) ∧
  (∀ (a : Nat) (e : Int), (adaptedAllowance a e : Int) = max 0 (min 2000 ((a : Int) + e.tdiv 4)))

/-! ## Cylinders -/

/-- CYLINDER_PRESSURE_READING by cylinder state (R87, R90, R93, R95, R125, R127). The reading is taken within 0 to 4000, with the
over-range mark above. REFILLING ends at the fill pressure of the ACTIVE slot: READY, with REFILL_RECOVERED where timeouts stood,
and the arbiter looks. READY below the top-up band is refilled. DISCHARGING tests flow, backflow and cut-off, in this order; a
discharge ended is MEASURING, and its head CHARGED with it as pending result. Else only the reading is shown. -/
def Obligations.CylinderReadingsAreTaken : Prop :=
  ∀ (c : Fin 4) (raw : Int) (s : State),
    let p := min 4000 raw.toNat
    let y : Cylinder := { s.cylinders[c] with pressure := p, overRange := decide (4000 < raw) }
    let put (z : Cylinder) : State := { s with cylinders := s.cylinders.set c z }
    let still (st : CylState) : Cylinder := { y with
      state := st, refillValve := false, dischargeValve := false, refillTimer := .stopped, retryTimer := .stopped
      settleTimer := .stopped }
    let taken := exec (.cylinderPressureReading c raw) s
    (y.state = .idle ∨ y.state = .measuring ∨ y.state = .fault ∨ y.state = .disabled ∨ y.state = .outOfService →
      taken = .next (put y)) ∧
    (y.state = .refilling ∨ y.state = .ready → activeSlot s = none → taken = .next (put y)) ∧
    (∀ i : Fin 2, y.state = .refilling → activeSlot s = some i →
      let p1 := fillPressure (slotRecipe s i)
      (p < p1 → taken = .next (put y)) ∧
      (p1 ≤ p → y.disablePending = false → y.failures = 0 → taken = .next (arbitrate (put (still .ready)))) ∧
      (p1 ≤ p → y.disablePending = false → 0 < y.failures →
        taken = .next (arbitrate (cylinderReport c .refillRecovered (put { still .ready with failures := 0 }))))) ∧
    (∀ i : Fin 2, y.state = .ready → activeSlot s = some i →
      let low := (p : Int) < (fillPressure (slotRecipe s i) : Int) - (topUpBand s.config : Int)
      (s.gas.standby = .active ∧ low → taken = .next (put { still .refilling with
        refillValve := true, refillTimer := .running (refillTimeout s.config) })) ∧
      (s.gas.standby ≠ .active ∨ ¬low → taken = .next (put y))) ∧
    (∀ (h : Fin 16) (z : Shot), y.state = .discharging → y.owner = some h → y.shot = some z →
      let x : Head :=
        if s.heads[h].flowDetected = false ∧ (p : Int) ≤ (z.startP : Int) - (flowThreshold s.config : Int) then
          { s.heads[h] with flowDetected := true, flowTimer := .stopped, noFlowCount := 0 }
        else s.heads[h]
      let ended (cause : EndCause) (back : Bool) (record : Option CanRecord) : State :=
        { put { still .measuring with
            settleTimer := .running (settleTime s.config)
            shot := some { z with cause := some cause, aborted := false, backflow := back } } with
          heads := s.heads.set h { x with
            cycle := .charged, pendingResult := some c, paired := none, inlets := x.inlets.set c false
            flowTimer := .stopped, record := record } }
      (z.startP + backflowThreshold s.config < p →
        taken = .next (ended .backflow true (x.record.map fun r => r.withReason .backflow))) ∧
      (p ≤ z.startP + backflowThreshold s.config → p ≤ z.cutoff → taken = .next (ended .cutoff false x.record)) ∧
      (p ≤ z.startP + backflowThreshold s.config → z.cutoff < p →
        taken = .next { put y with heads := s.heads.set h x }))

/-- REFILL_TIMER_EXPIRY and RETRY_TIMER_EXPIRY (R89, R91, R92). A refill timed out is FAULT with the failure counted and the retry
timer started; the third in succession is OUT_OF_SERVICE, with its condition, its report and the all-out test. A retry refills
again where the refill condition holds, else it is IDLE. An expiry of a timer not running is no event (log 1). -/
def Obligations.RefillTimersExpire : Prop :=
  ∀ (c : Fin 4) (s : State),
    let y := s.cylinders[c]
    let put (z : Cylinder) : State := { s with cylinders := s.cylinders.set c z }
    let still (st : CylState) : Cylinder := { y with
      state := st, refillValve := false, dischargeValve := false, refillTimer := .stopped, retryTimer := .stopped
      settleTimer := .stopped }
    (∀ n : Nat, y.state = .refilling → y.refillTimer = .running n →
      (y.failures < 2 → exec (.refillTimerExpiry c) s = .next (cylinderReport c .refillTimeout (put { still .fault with
        failures := y.failures + 1, retryTimer := .running (retryDelay s.config) }))) ∧
      (2 ≤ y.failures → exec (.refillTimerExpiry c) s = .next (allOutTest (cylinderReport c .refillLimit
        (setCondition .cylinderOutOfService (put { still .outOfService with failures := 3 })))))) ∧
    (y.refillTimer = .stopped → exec (.refillTimerExpiry c) s = .next s) ∧
    (∀ n : Nat, y.state = .fault → y.retryTimer = .running n →
      (refillCondition s = true → exec (.retryTimerExpiry c) s = .next (put { still .refilling with
        refillValve := true, refillTimer := .running (refillTimeout s.config) })) ∧
      (refillCondition s = false → exec (.retryTimerExpiry c) s = .next (put (still .idle)))) ∧
    (y.retryTimer = .stopped → exec (.retryTimerExpiry c) s = .next s) ∧
    (refillCondition s = true ↔
      (∃ i : Fin 2, s.slots[i].state = .active) ∧ s.gas.standby = .active)

/-- SETTLE_TIMER_EXPIRY (R96, R112, R116 to R119, R129 to R131). The measured pressure ends the shot; its delivered mass is
credited to the owner head if that head's pending result names this cylinder, with the shot's entry, and then a follow-on
request joins the queue, at which the arbiter looks, or the dose is judged; an unflagged shot that kept its right and missed by no more than the band moves
the allowance; the shot becomes the last shot, and the cylinder completes a pending disable, with its mark withdrawn (log 21) and
its report of the values after the change (log 20), or goes IDLE and refills. A settle timer not running does not expire (log
1). -/
def Obligations.MeasurementCompletes : Prop :=
  (∀ (c : Fin 4) (h : Fin 16) (z : Shot) (n : Nat) (s : State),
    s.cylinders[c].state = .measuring → s.cylinders[c].settleTimer = .running n → s.cylinders[c].owner = some h →
    s.cylinders[c].shot = some z →
    let y := s.cylinders[c]
    let x := s.heads[h]
    let done := deliveredMass z.backflow z.startDensity (density s.gasTable y.pressure) z.temperature z.volume
    let shot : Shot := { z with endP := some y.pressure, endOver := y.overRange, delivered := some done }
    let e : Int := (done : Int) - z.target
    let adapts := z.short = false ∧ z.aborted = false ∧ z.backflow = false ∧ z.startOver = false ∧ y.overRange = false ∧
      z.mayAdapt = true ∧ (s.slots[z.slot].state = .active ∨ s.slots[z.slot].state = .retiring) ∧
      -(adaptationBand s.config : Int) ≤ e ∧ e ≤ (adaptationBand s.config : Int)
    let still (st : CylState) : Cylinder := { y with
      state := st, refillValve := false, dischargeValve := false, refillTimer := .stopped, retryTimer := .stopped
      settleTimer := .stopped, lastShot := some shot, owner := none, shot := none }
    let finish (t : State) : State :=
      let put (w : Cylinder) : State := { t with
        cylinders := t.cylinders.set c w
        allowances := if adapts then
            t.allowances.set z.slot (t.allowances[z.slot].set c
              (max 0 (min 2000 ((t.allowances[z.slot][c] : Int) + e.tdiv 4))).toNat)
          else t.allowances }
      if y.disablePending then
        allOutTest (cylinderReport c .disableComplete (put { still .disabled with disablePending := false }))
      else if refillCondition s then
        put { still .refilling with refillValve := true, refillTimer := .running (refillTimeout s.config) }
      else put (still .idle)
    let entry : ShotEntry :=
      { cylinder := c, startP := z.startP, cutoff := z.cutoff, endP := y.pressure, temperature := z.temperature
        delivered := done, short := z.short, aborted := z.aborted, backflow := z.backflow
        overRange := z.startOver || y.overRange }
    let expired := exec (.settleTimerExpiry c) s
    (x.pendingResult ≠ some c → expired = .next (finish s)) ∧
    (∀ r : CanRecord, x.pendingResult = some c → x.record = some r →
      let r' : CanRecord := { r with shots := r.shots ++ [entry], total := r.total + done }
      let rcp := slotRecipe s r.slot
      let put (w : CanRecord) : State := { s with heads := s.heads.set h { x with record := some w, pendingResult := none } }
      let follows (t : Nat) := z.short = true ∧ r'.shots.length < maxShots rcp ∧ x.window = .isOpen ∧
        (minimumShot s.config : Int) ≤ (t : Int) - (r'.total : Int)
      (r.reasons ≠ [] ∨ r.target = none → expired = .next (finish (put r'))) ∧
      (∀ t : Nat, r.reasons = [] → r.target = some t → follows t → h ∉ s.grantQueue →
        expired = .next (finish (arbitrate { s with
          heads := s.heads.set h { x with record := some r', pendingResult := none, cycle := .waiting }
          grantQueue := s.grantQueue ++ [h] }))) ∧
      (∀ t : Nat, r.reasons = [] → r.target = some t → ¬follows t → x.cycle ≠ .waiting →
        expired = .next (finish (put (
          if (r'.total : Int) < (t : Int) - (toleranceLow rcp : Int) then r'.withReason .doseLow
          else if (t : Int) + (toleranceHigh rcp : Int) < (r'.total : Int) then r'.withReason .doseHigh else r')))))) ∧
  (∀ (c : Fin 4) (s : State), s.cylinders[c].settleTimer = .stopped → exec (.settleTimerExpiry c) s = .next s)


/-- FLOW_DETECT_TIMER_EXPIRY of a CHARGING head (R126, R95, R97, R27) and DWELL_TIMER_EXPIRY of a DWELLING one (R134). A no-flow
attempt closes the inlet, ends the pairing, drops the shot unmeasured and counts; the cylinder is READY, or completes a pending
disable; below three attempts an unmarked can asks again at the queue's tail, a marked one is CHARGED, and the third gives NO_FLOW
and takes the head out of service. A completed disable withdraws its mark (log 21) and reports the values after the change (log 20).
That the cylinder's side is taken before the head's, which the order of their reports shows, is log 29.
A dwell test of a DWELLING head (log 17) writes its decay and tests it; the pressure is the command's (log 5). An expiry of a
stopped timer is no event (log 1). -/
def Obligations.FlowAndDwellTimersExpire : Prop :=
  (∀ (h : Fin 16) (c : Fin 4) (n : Nat) (r : CanRecord) (s : State),
    s.heads[h].record = some r → s.heads[h].cycle = .charging → s.heads[h].paired = some c →
    s.heads[h].flowTimer = .running n → s.heads[h].flowDetected = false → s.cylinders[c].state = .discharging →
    h ∉ s.grantQueue →
    let y := s.cylinders[c]
    let x : Head := { s.heads[h] with
      inlets := s.heads[h].inlets.set c false, paired := none, flowTimer := .stopped
      noFlowCount := min 3 (s.heads[h].noFlowCount + 1) }
    let still (st : CylState) : Cylinder := { y with
      state := st, refillValve := false, dischargeValve := false, refillTimer := .stopped, retryTimer := .stopped
      settleTimer := .stopped, owner := none, shot := none }
    let put (z : Cylinder) : State := { s with heads := s.heads.set h x, cylinders := s.cylinders.set c z }
    let freed : State :=
      if y.disablePending then
        allOutTest (cylinderReport c .disableComplete (put { still .disabled with disablePending := false }))
      else put (still .ready)
    let after (z : Head) : State := { freed with heads := s.heads.set h z }
    let expired := exec (.flowDetectTimerExpiry h) s
    (s.heads[h].noFlowCount < 2 → r.reasons = [] →
      expired = .next (arbitrate { after { x with cycle := .waiting } with grantQueue := s.grantQueue ++ [h] })) ∧
    (s.heads[h].noFlowCount < 2 → r.reasons ≠ [] →
      expired = .next (arbitrate (after { x with cycle := .charged, pendingResult := none }))) ∧
    (2 ≤ s.heads[h].noFlowCount →
      expired = .next (arbitrate (headReport h .noFlowLimit (setCondition .headOutOfService (after { x with
        cycle := .charged, pendingResult := none, service := .outOfService, returnState := none
        record := some ((r.withReason .noFlow).withReason .headFault) })))))) ∧
  (∀ (h : Fin 16) (s : State), s.heads[h].flowTimer = .stopped → exec (.flowDetectTimerExpiry h) s = .next s) ∧
  (∀ (h : Fin 16) (raw : Int) (s : State),
    let x := s.heads[h]
    let p : Nat := min 2000 (((min 2000 raw.toNat : Nat) : Int) - x.zeroOffset).toNat
    let shown : State := { s with
      sensors := { s.sensors with heads := s.sensors.heads.set h { s.sensors.heads[h] with pressure := raw } } }
    (x.dwellTimer = .stopped → exec (.dwellTimerExpiry h raw) s = .next shown) ∧
    (∀ (n p1 : Nat) (r : CanRecord), x.dwellTimer = .running n → x.cycle = .dwelling → x.record = some r →
      x.firstDwell = some p1 →
      let decay : Int := (p1 : Int) - (p : Int)
      let tested (w : CanRecord) : State := { shown with heads := s.heads.set h { x with
        record := some w, dwellTimer := .stopped, firstDwell := none } }
      (decay ≤ (dwellDecayLimit (slotRecipe s r.slot) : Int) →
        exec (.dwellTimerExpiry h raw) s = .next (tested { r with dwellDecay := some decay })) ∧
      ((dwellDecayLimit (slotRecipe s r.slot) : Int) < decay → exec (.dwellTimerExpiry h raw) s =
        .next (tested (({ r with dwellDecay := some decay } : CanRecord).withReason .settleLeak)))))

/-! ## From the end of the charge window to the verdict -/

/-- CHARGE_CLOSE, DWELL and LIFT of a head that holds a can (R37, R38, R39, R78, R128, R131, R132, R134, R135). CHARGE_CLOSE
closes the window: a WAITING head without a shot gains NO_CHARGE, one with a shot is judged, a CHARGING one ends its discharge, a
PROBING one its probe with PROBE_LATE, and one undecided gains NO_CHARGE and is decided. DWELL starts the test of an unmarked
CHARGED can, LIFT ends one still running with DWELL_SHORT. DWELL, LIFT and OUTFEED first do what CHARGE_CLOSE does where it was
missed. At an EMPTY head CHARGE_CLOSE closes the window alone, and DWELL and LIFT do nothing. The transducer shows the level the
last command carried (log 5). -/
def Obligations.WindowClosesAndCansDwell : Prop :=
  (∀ (h : Fin 16) (s : State), s.heads[h].record = none → s.heads[h].cycle = .empty →
    stationPhase h .chargeClose s = { s with heads := s.heads.set h { s.heads[h] with window := .closed } } ∧
    stationPhase h .dwell s = s ∧ stationPhase h .lift s = s) ∧
  ∀ (h : Fin 16) (s : State) (r : CanRecord), s.heads[h].record = some r →
    let x := s.heads[h]
    let rcp := slotRecipe s r.slot
    let put (y : Head) : State := { s with heads := s.heads.set h y }
    let closed : Head := { x with window := .closed }
    let ended (w : CanRecord) : State := { put { closed with
      cycle := .charged, pendingResult := none, record := some w } with grantQueue := s.grantQueue.filter (· ≠ h) }
    let p : Nat := min 2000 (((min 2000 s.sensors.heads[h].pressure.toNat : Nat) : Int) - x.zeroOffset).toNat
    let close := stationPhase h .chargeClose s
    (x.decided = true → x.cycle ≠ .probing → x.cycle ≠ .waiting → x.cycle ≠ .charging → close = put closed) ∧
    (x.decided = true → x.cycle = .waiting → r.shots = [] → close = ended (r.withReason .noCharge)) ∧
    (∀ t : Nat, x.decided = true → x.cycle = .waiting → r.shots ≠ [] → r.reasons = [] → r.target = some t →
      close = ended (
        if (r.total : Int) < (t : Int) - (toleranceLow rcp : Int) then r.withReason .doseLow
        else if (t : Int) + (toleranceHigh rcp : Int) < (r.total : Int) then r.withReason .doseHigh else r)) ∧
    (∀ (c : Fin 4) (z : Shot), x.decided = true → x.cycle = .charging → x.paired = some c →
      s.cylinders[c].state = .discharging → s.cylinders[c].owner = some h → s.cylinders[c].shot = some z →
      close = { put { closed with
          cycle := .charged, pendingResult := some c, paired := none, inlets := x.inlets.set c false
          flowTimer := .stopped } with
        cylinders := s.cylinders.set c { s.cylinders[c] with
          state := .measuring, refillValve := false, dischargeValve := false, refillTimer := .stopped
          retryTimer := .stopped, settleTimer := .running (settleTime s.config)
          shot := some { z with cause := some .chargeClose, aborted := true, backflow := false } } }) ∧
    (x.decided = false → x.cycle = .probing → close = chargeDecision h (put { closed with
      cycle := .probed, probeValve := false, probeTimer := .stopped, probeStep := .idle, pa := none
      record := some (r.withReason .probeLate) })) ∧
    (x.decided = false → x.cycle = .seated ∨ x.cycle = .crimped ∨ x.cycle = .probed →
      close = chargeDecision h (put { closed with record := some (r.withReason .noCharge) })) ∧
    (x.window ≠ .closed →
      stationPhase h .dwell s = stationPhase h .dwell close ∧ stationPhase h .lift s = stationPhase h .lift close ∧
      stationPhase h .outfeed s = stationPhase h .outfeed close) ∧
    (x.window = .closed → x.decided = true →
      (x.cycle = .charged → r.reasons = [] → stationPhase h .dwell s = put { x with
        cycle := .dwelling, firstDwell := some p, dwellTimer := .running (dwellTime rcp) }) ∧
      (x.cycle = .charged → r.reasons ≠ [] → stationPhase h .dwell s = put { x with cycle := .dwelling }) ∧
      (x.cycle ≠ .charged → stationPhase h .dwell s = s) ∧
      (x.dwellTimer = .stopped → stationPhase h .lift s = put { x with headDown := false, cycle := .lifted }) ∧
      (∀ n : Nat, x.dwellTimer = .running n → x.cycle ≠ .waiting → stationPhase h .lift s = put { x with
        headDown := false, cycle := .lifted, dwellTimer := .stopped, firstDwell := none
        record := some (r.withReason .dwellShort) }))

/-- OUTFEED, the reject gate and its commands (R25, R40, R61, R133, R139 to R145, R158). The record is handed on, with DOSE_UNKNOWN
where a result was still pending: GOOD without a reason, else REJECT and booked at the reject distance; the head is EMPTY, a
DISABLING one DISABLED, and a RETIRING slot without cans FREE; a can still in the awaiting list leaves it, and the entry before it
owes its debt (log 18); a dwell timer still running and a closed collet stand (log 17, log 27). At an absolute position the entries whose confirm end it is leave
unconfirmed, and those due fire the gate. CONFIRM_SENSOR_ON takes the first FIRED entry, or counts; GATE_PULSE_EXPIRY closes, and
with the gate timer not running is no event (log 1). Positions are compared as numbers (log 9); the queue has no limit, and
all entries due at one position fire (log 28). -/
def Obligations.VerdictsAndRejects : Prop :=
  (∀ (h : Fin 16) (s : State) (r : CanRecord), s.heads[h].record = some r → s.heads[h].window = .closed →
    s.heads[h].decided = true → s.heads[h].cycle ≠ .waiting →
    (∀ (before rest : List AwaitEntry) (a e : AwaitEntry), s.infeed.awaiting = before ++ a :: e :: rest →
      e.head = h → e.seq = r.seq → (∀ b : AwaitEntry, b ∈ before ++ a :: rest → ¬(b.head = h ∧ b.seq = r.seq)) →
      (∀ b : AwaitEntry, s.infeed.awaiting.head? = some b → b.settled = false) → s.infeed.debt ≤ 16 →
      stationPhase h .outfeed s = stationPhase h .outfeed { s with infeed := { s.infeed with
        awaiting := before ++ { a with owed := a.owed + e.owed + 1 } :: rest } }) ∧
    ((∀ b : AwaitEntry, b ∈ s.infeed.awaiting → ¬(b.head = h ∧ b.seq = r.seq)) →
    let x := s.heads[h]
    let w : CanRecord := if x.pendingResult = none then r else r.withReason .doseUnknown
    let good := w.reasons = [] ∧ w.more = false
    let entry : RejectEntry :=
      { seq := r.seq, due := s.tracker.absolute + rejectDistance s.config, fired := false, confirmEnd := none }
    let gone : Head := { x with record := none, cycle := .empty, headDown := false, pendingResult := none }
    let on (y : Head) : State := { s with
      heads := s.heads.set h y
      verdicts := { s.verdicts with
        log := s.verdicts.log ++ [{ w with verdict := some (if good then .good else .reject) }]
        rejects := if good then s.verdicts.rejects else s.verdicts.rejects ++ [entry] } }
    let handed : State :=
      if x.service = .disabling then
        headReport h .disableComplete (on { gone with service := .disabled, returnState := none, ventValve := false })
      else on gone
    let slot := s.slots[r.slot]
    stationPhase h .outfeed s =
      if slot.state = .retiring ∧ slot.refs ≤ 1 then { handed with
        slots := s.slots.set r.slot { slot with state := .free, recipe := none, refs := 0 }
        allowances := s.allowances.set r.slot #v[0, 0, 0, 0] }
      else { handed with slots := s.slots.set r.slot { slot with refs := slot.refs - 1 } })) ∧
  (∀ (h : Fin 16) (s : State), s.heads[h].record = none → stationPhase h .outfeed s = s) ∧
  (∀ (raised : Bool) (pos : Nat) (s : State),
    let now := s.tracker.absolute
    let ends (e : RejectEntry) : Prop := e.fired = true ∧ e.confirmEnd = some now
    let due (e : RejectEntry) : Prop := e.fired = false ∧ e.due = now
    let u := s.verdicts
    let noted : State := if ∃ e : RejectEntry, e ∈ u.rejects ∧ ends e then setCondition .rejectUnconfirmed s else s
    let fires := ∃ e : RejectEntry, e ∈ u.rejects ∧ due e
    takePosition raised pos s .verdictUnit = { noted with verdicts := { u with
      gateOn := if fires then true else u.gateOn
      gateTimer := if fires then .running (gatePulse s.config) else u.gateTimer
      rejects := (u.rejects.filter fun e => ¬ends e).map fun e =>
        if due e then { e with fired := true, confirmEnd := some (now + confirmWindow s.config) } else e } }) ∧
  (∀ (before rest : List RejectEntry) (e : RejectEntry) (s : State), s.verdicts.rejects = before ++ e :: rest →
    e.fired = true → (∀ d : RejectEntry, d ∈ before → d.fired = false) →
    exec .confirmSensorOn s = .next { s with verdicts := { s.verdicts with rejects := before ++ rest } }) ∧
  (∀ s : State, (∀ d : RejectEntry, d ∈ s.verdicts.rejects → d.fired = false) →
    exec .confirmSensorOn s = .next { s with verdicts := { s.verdicts with
      unmatched := min 65535 (s.verdicts.unmatched + 1) } }) ∧
  (∀ (n : Nat) (s : State), s.verdicts.gateTimer = .running n →
    exec .gatePulseExpiry s = .next { s with verdicts := { s.verdicts with gateOn := false, gateTimer := .stopped } }) ∧
  (∀ s : State, s.verdicts.gateTimer = .stopped → exec .gatePulseExpiry s = .next s)

/-! ## The gas supply -/

/-- BUFFER_READING, TEMPERATURE_READING and TEMP_HOLD_EXPIRY (R102, R103). The reading is taken within 0 to 6000; below the on
threshold the throttle is ON, with GAS and BUFFER_LOW, and at the off threshold it is OFF, which may complete a wake. A reading
from -400 to 800 is held, with TEMP withdrawn; the first faulty one starts the hold timer, whose expiry gives TEMP and
TEMP_SENSOR. A hold timer not running does not expire (log 1). -/
def Obligations.GasSupplyIsWatched : Prop :=
  (∀ (raw : Int) (s : State),
    let p := min 6000 raw.toNat
    let set (on : Bool) : State := { s with
      gas := { s.gas with buffer := p, throttleOn := on }
      infeed := { s.infeed with withhold := { s.infeed.withhold with gas := on } } }
    let shown : State := { s with gas := { s.gas with buffer := p } }
    let taken := exec (.bufferReading raw) s
    (s.gas.throttleOn = false → p < throttleOn s.config → taken = .next (setCondition .bufferLow (set true))) ∧
    (s.gas.throttleOn = false → throttleOn s.config ≤ p → taken = .next shown) ∧
    (s.gas.throttleOn = true → p < throttleOff s.config → taken = .next shown) ∧
    (s.gas.throttleOn = true → throttleOff s.config ≤ p → taken = .next (completeWake (set false)))) ∧
  (∀ s : State,
    (∀ t : Int, -400 ≤ t → t ≤ 800 → exec (.temperatureReading (some t)) s = .next { s with
      gas := { s.gas with heldTemp := t, tempGood := true, holdTimer := .stopped }
      infeed := { s.infeed with withhold := { s.infeed.withhold with temp := false } } }) ∧
    (∀ reading : Option Int, (∀ t : Int, reading = some t → t < -400 ∨ 800 < t) →
      (s.gas.tempGood = true → exec (.temperatureReading reading) s = .next { s with
        gas := { s.gas with tempGood := false, holdTimer := .running (tempHoldLimit s.config) } }) ∧
      (s.gas.tempGood = false → exec (.temperatureReading reading) s = .next s)) ∧
    (∀ n : Nat, s.gas.holdTimer = .running n → exec .tempHoldExpiry s = .next (setCondition .tempSensor { s with
      gas := { s.gas with holdTimer := .expired }
      infeed := { s.infeed with withhold := { s.infeed.withhold with temp := true } } })) ∧
    (s.gas.holdTimer = .stopped ∨ s.gas.holdTimer = .expired → exec .tempHoldExpiry s = .next s))

/-- Standby and wake (R89, R93, R104, R105): IDLE_TIMER_EXPIRY, LANE_SENSOR_OFF, LANE_SENSOR_ON and WAKE_TIMER_EXPIRY. STANDBY is
entered from ACTIVE once the idle timer has expired and the lane sensor stands off; the lane sensor begins a wake, which
completes once the wake timer has expired and the throttle is OFF: ACTIVE, the idle timer restarted, WAKE withdrawn, and the
IDLE cylinders and the READY ones below the top-up band refill. A timer not running does not expire (log 1). -/
def Obligations.StandbyAndWake : Prop :=
  ∀ s : State,
    let with_ (g : Gas) : State := { s with gas := g }
    let asleep (g : Gas) : Gas := { g with standby := .standby, economy := true }
    let woken (t : State) : State := { t with
      gas := { t.gas with standby := .active, wakeTimer := .stopped, idleTimer := .running (idleDelay t.config) }
      infeed := { t.infeed with withhold := { t.infeed.withhold with wake := false } } }
    (∀ n : Nat, s.gas.idleTimer = .running n →
      let g : Gas := { s.gas with idleTimer := .expired }
      (s.gas.standby = .active → s.gas.laneSensor = false → exec .idleTimerExpiry s = .next (with_ (asleep g))) ∧
      (s.gas.standby ≠ .active ∨ s.gas.laneSensor = true → exec .idleTimerExpiry s = .next (with_ g))) ∧
    (s.gas.idleTimer = .stopped ∨ s.gas.idleTimer = .expired → exec .idleTimerExpiry s = .next s) ∧
    (let g : Gas := { s.gas with laneSensor := false }
     (s.gas.standby = .active → s.gas.idleTimer = .expired → exec .laneSensorOff s = .next (with_ (asleep g))) ∧
     (s.gas.standby ≠ .active ∨ s.gas.idleTimer ≠ .expired → exec .laneSensorOff s = .next (with_ g))) ∧
    (let g : Gas := { s.gas with laneSensor := true }
     (s.gas.standby = .standby → exec .laneSensorOn s = .next { s with
       gas := { g with standby := .waking, economy := false, wakeTimer := .running (wakeWait s.config) }
       infeed := { s.infeed with withhold := { s.infeed.withhold with wake := true } } }) ∧
     (s.gas.standby ≠ .standby → exec .laneSensorOn s = .next (with_ g))) ∧
    (∀ n : Nat, s.gas.wakeTimer = .running n →
      exec .wakeTimerExpiry s = .next (completeWake (with_ { s.gas with wakeTimer := .expired }))) ∧
    (s.gas.wakeTimer = .stopped ∨ s.gas.wakeTimer = .expired → exec .wakeTimerExpiry s = .next s) ∧
    (s.gas.standby ≠ .waking ∨ s.gas.wakeTimer ≠ .expired ∨ s.gas.throttleOn = true → completeWake s = s) ∧
    (s.gas.standby = .waking → s.gas.wakeTimer = .expired → s.gas.throttleOn = false →
      (activeSlot s = none → completeWake s = woken s) ∧
      (∀ i : Fin 2, activeSlot s = some i → completeWake s = { woken s with
        cylinders := s.cylinders.map fun x =>
          if x.state = .idle ∨ x.state = .ready ∧
              (x.pressure : Int) < (fillPressure (slotRecipe s i) : Int) - (topUpBand s.config : Int) then
            { x with state := .refilling, refillValve := true, dischargeValve := false
                     refillTimer := .running (refillTimeout s.config), retryTimer := .stopped, settleTimer := .stopped }
          else x }))
end

