-- ==== Sys2Proof/Laws/State.lean ====
section
/-! SUPPORT. One lemma per field of State per update of Machine/Ops.lean, and what reading one head, cylinder, slot or
allowance gives after a write to it. All are simp lemmas, so that no proof unfolds a record update. -/

namespace Sys2Proof.Machine

variable (s : State)

/-! ### modTracker -/

@[simp] theorem State.modTracker_tracker (f : Tracker → Tracker) : (s.modTracker f).tracker = f s.tracker := rfl
@[simp] theorem State.modTracker_heads (f : Tracker → Tracker) : (s.modTracker f).heads = s.heads := rfl
@[simp] theorem State.modTracker_infeed (f : Tracker → Tracker) : (s.modTracker f).infeed = s.infeed := rfl
@[simp] theorem State.modTracker_cylinders (f : Tracker → Tracker) : (s.modTracker f).cylinders = s.cylinders := rfl
@[simp] theorem State.modTracker_grantQueue (f : Tracker → Tracker) : (s.modTracker f).grantQueue = s.grantQueue := rfl
@[simp] theorem State.modTracker_gas (f : Tracker → Tracker) : (s.modTracker f).gas = s.gas := rfl
@[simp] theorem State.modTracker_gasTable (f : Tracker → Tracker) : (s.modTracker f).gasTable = s.gasTable := rfl
@[simp] theorem State.modTracker_allowances (f : Tracker → Tracker) : (s.modTracker f).allowances = s.allowances := rfl
@[simp] theorem State.modTracker_verdicts (f : Tracker → Tracker) : (s.modTracker f).verdicts = s.verdicts := rfl
@[simp] theorem State.modTracker_slots (f : Tracker → Tracker) : (s.modTracker f).slots = s.slots := rfl
@[simp] theorem State.modTracker_config (f : Tracker → Tracker) : (s.modTracker f).config = s.config := rfl
@[simp] theorem State.modTracker_conds (f : Tracker → Tracker) : (s.modTracker f).conds = s.conds := rfl
@[simp] theorem State.modTracker_link (f : Tracker → Tracker) : (s.modTracker f).link = s.link := rfl
@[simp] theorem State.modTracker_sensors (f : Tracker → Tracker) : (s.modTracker f).sensors = s.sensors := rfl
@[simp] theorem State.modTracker_pending (f : Tracker → Tracker) : (s.modTracker f).pending = s.pending := rfl

/-! ### modHead -/

@[simp] theorem State.modHead_tracker (h : Fin 16) (f : Head → Head) : (s.modHead h f).tracker = s.tracker := rfl
@[simp] theorem State.modHead_heads (h : Fin 16) (f : Head → Head) : (s.modHead h f).heads = s.heads.set h (f s.heads[h]) := rfl
@[simp] theorem State.modHead_infeed (h : Fin 16) (f : Head → Head) : (s.modHead h f).infeed = s.infeed := rfl
@[simp] theorem State.modHead_cylinders (h : Fin 16) (f : Head → Head) : (s.modHead h f).cylinders = s.cylinders := rfl
@[simp] theorem State.modHead_grantQueue (h : Fin 16) (f : Head → Head) : (s.modHead h f).grantQueue = s.grantQueue := rfl
@[simp] theorem State.modHead_gas (h : Fin 16) (f : Head → Head) : (s.modHead h f).gas = s.gas := rfl
@[simp] theorem State.modHead_gasTable (h : Fin 16) (f : Head → Head) : (s.modHead h f).gasTable = s.gasTable := rfl
@[simp] theorem State.modHead_allowances (h : Fin 16) (f : Head → Head) : (s.modHead h f).allowances = s.allowances := rfl
@[simp] theorem State.modHead_verdicts (h : Fin 16) (f : Head → Head) : (s.modHead h f).verdicts = s.verdicts := rfl
@[simp] theorem State.modHead_slots (h : Fin 16) (f : Head → Head) : (s.modHead h f).slots = s.slots := rfl
@[simp] theorem State.modHead_config (h : Fin 16) (f : Head → Head) : (s.modHead h f).config = s.config := rfl
@[simp] theorem State.modHead_conds (h : Fin 16) (f : Head → Head) : (s.modHead h f).conds = s.conds := rfl
@[simp] theorem State.modHead_link (h : Fin 16) (f : Head → Head) : (s.modHead h f).link = s.link := rfl
@[simp] theorem State.modHead_sensors (h : Fin 16) (f : Head → Head) : (s.modHead h f).sensors = s.sensors := rfl
@[simp] theorem State.modHead_pending (h : Fin 16) (f : Head → Head) : (s.modHead h f).pending = s.pending := rfl

/-! ### modInfeed -/

@[simp] theorem State.modInfeed_tracker (f : Infeed → Infeed) : (s.modInfeed f).tracker = s.tracker := rfl
@[simp] theorem State.modInfeed_heads (f : Infeed → Infeed) : (s.modInfeed f).heads = s.heads := rfl
@[simp] theorem State.modInfeed_infeed (f : Infeed → Infeed) : (s.modInfeed f).infeed = f s.infeed := rfl
@[simp] theorem State.modInfeed_cylinders (f : Infeed → Infeed) : (s.modInfeed f).cylinders = s.cylinders := rfl
@[simp] theorem State.modInfeed_grantQueue (f : Infeed → Infeed) : (s.modInfeed f).grantQueue = s.grantQueue := rfl
@[simp] theorem State.modInfeed_gas (f : Infeed → Infeed) : (s.modInfeed f).gas = s.gas := rfl
@[simp] theorem State.modInfeed_gasTable (f : Infeed → Infeed) : (s.modInfeed f).gasTable = s.gasTable := rfl
@[simp] theorem State.modInfeed_allowances (f : Infeed → Infeed) : (s.modInfeed f).allowances = s.allowances := rfl
@[simp] theorem State.modInfeed_verdicts (f : Infeed → Infeed) : (s.modInfeed f).verdicts = s.verdicts := rfl
@[simp] theorem State.modInfeed_slots (f : Infeed → Infeed) : (s.modInfeed f).slots = s.slots := rfl
@[simp] theorem State.modInfeed_config (f : Infeed → Infeed) : (s.modInfeed f).config = s.config := rfl
@[simp] theorem State.modInfeed_conds (f : Infeed → Infeed) : (s.modInfeed f).conds = s.conds := rfl
@[simp] theorem State.modInfeed_link (f : Infeed → Infeed) : (s.modInfeed f).link = s.link := rfl
@[simp] theorem State.modInfeed_sensors (f : Infeed → Infeed) : (s.modInfeed f).sensors = s.sensors := rfl
@[simp] theorem State.modInfeed_pending (f : Infeed → Infeed) : (s.modInfeed f).pending = s.pending := rfl

/-! ### modWithhold -/

@[simp] theorem State.modWithhold_tracker (f : Withhold → Withhold) : (s.modWithhold f).tracker = s.tracker := rfl
@[simp] theorem State.modWithhold_heads (f : Withhold → Withhold) : (s.modWithhold f).heads = s.heads := rfl
@[simp] theorem State.modWithhold_infeed (f : Withhold → Withhold) : (s.modWithhold f).infeed = { s.infeed with withhold := f s.infeed.withhold } := rfl
@[simp] theorem State.modWithhold_cylinders (f : Withhold → Withhold) : (s.modWithhold f).cylinders = s.cylinders := rfl
@[simp] theorem State.modWithhold_grantQueue (f : Withhold → Withhold) : (s.modWithhold f).grantQueue = s.grantQueue := rfl
@[simp] theorem State.modWithhold_gas (f : Withhold → Withhold) : (s.modWithhold f).gas = s.gas := rfl
@[simp] theorem State.modWithhold_gasTable (f : Withhold → Withhold) : (s.modWithhold f).gasTable = s.gasTable := rfl
@[simp] theorem State.modWithhold_allowances (f : Withhold → Withhold) : (s.modWithhold f).allowances = s.allowances := rfl
@[simp] theorem State.modWithhold_verdicts (f : Withhold → Withhold) : (s.modWithhold f).verdicts = s.verdicts := rfl
@[simp] theorem State.modWithhold_slots (f : Withhold → Withhold) : (s.modWithhold f).slots = s.slots := rfl
@[simp] theorem State.modWithhold_config (f : Withhold → Withhold) : (s.modWithhold f).config = s.config := rfl
@[simp] theorem State.modWithhold_conds (f : Withhold → Withhold) : (s.modWithhold f).conds = s.conds := rfl
@[simp] theorem State.modWithhold_link (f : Withhold → Withhold) : (s.modWithhold f).link = s.link := rfl
@[simp] theorem State.modWithhold_sensors (f : Withhold → Withhold) : (s.modWithhold f).sensors = s.sensors := rfl
@[simp] theorem State.modWithhold_pending (f : Withhold → Withhold) : (s.modWithhold f).pending = s.pending := rfl

/-! ### modCyl -/

@[simp] theorem State.modCyl_tracker (c : Fin 4) (f : Cylinder → Cylinder) : (s.modCyl c f).tracker = s.tracker := rfl
@[simp] theorem State.modCyl_heads (c : Fin 4) (f : Cylinder → Cylinder) : (s.modCyl c f).heads = s.heads := rfl
@[simp] theorem State.modCyl_infeed (c : Fin 4) (f : Cylinder → Cylinder) : (s.modCyl c f).infeed = s.infeed := rfl
@[simp] theorem State.modCyl_cylinders (c : Fin 4) (f : Cylinder → Cylinder) : (s.modCyl c f).cylinders = s.cylinders.set c (f s.cylinders[c]) := rfl
@[simp] theorem State.modCyl_grantQueue (c : Fin 4) (f : Cylinder → Cylinder) : (s.modCyl c f).grantQueue = s.grantQueue := rfl
@[simp] theorem State.modCyl_gas (c : Fin 4) (f : Cylinder → Cylinder) : (s.modCyl c f).gas = s.gas := rfl
@[simp] theorem State.modCyl_gasTable (c : Fin 4) (f : Cylinder → Cylinder) : (s.modCyl c f).gasTable = s.gasTable := rfl
@[simp] theorem State.modCyl_allowances (c : Fin 4) (f : Cylinder → Cylinder) : (s.modCyl c f).allowances = s.allowances := rfl
@[simp] theorem State.modCyl_verdicts (c : Fin 4) (f : Cylinder → Cylinder) : (s.modCyl c f).verdicts = s.verdicts := rfl
@[simp] theorem State.modCyl_slots (c : Fin 4) (f : Cylinder → Cylinder) : (s.modCyl c f).slots = s.slots := rfl
@[simp] theorem State.modCyl_config (c : Fin 4) (f : Cylinder → Cylinder) : (s.modCyl c f).config = s.config := rfl
@[simp] theorem State.modCyl_conds (c : Fin 4) (f : Cylinder → Cylinder) : (s.modCyl c f).conds = s.conds := rfl
@[simp] theorem State.modCyl_link (c : Fin 4) (f : Cylinder → Cylinder) : (s.modCyl c f).link = s.link := rfl
@[simp] theorem State.modCyl_sensors (c : Fin 4) (f : Cylinder → Cylinder) : (s.modCyl c f).sensors = s.sensors := rfl
@[simp] theorem State.modCyl_pending (c : Fin 4) (f : Cylinder → Cylinder) : (s.modCyl c f).pending = s.pending := rfl

/-! ### modGrants -/

@[simp] theorem State.modGrants_tracker (f : List (Fin 16) → List (Fin 16)) : (s.modGrants f).tracker = s.tracker := rfl
@[simp] theorem State.modGrants_heads (f : List (Fin 16) → List (Fin 16)) : (s.modGrants f).heads = s.heads := rfl
@[simp] theorem State.modGrants_infeed (f : List (Fin 16) → List (Fin 16)) : (s.modGrants f).infeed = s.infeed := rfl
@[simp] theorem State.modGrants_cylinders (f : List (Fin 16) → List (Fin 16)) : (s.modGrants f).cylinders = s.cylinders := rfl
@[simp] theorem State.modGrants_grantQueue (f : List (Fin 16) → List (Fin 16)) : (s.modGrants f).grantQueue = f s.grantQueue := rfl
@[simp] theorem State.modGrants_gas (f : List (Fin 16) → List (Fin 16)) : (s.modGrants f).gas = s.gas := rfl
@[simp] theorem State.modGrants_gasTable (f : List (Fin 16) → List (Fin 16)) : (s.modGrants f).gasTable = s.gasTable := rfl
@[simp] theorem State.modGrants_allowances (f : List (Fin 16) → List (Fin 16)) : (s.modGrants f).allowances = s.allowances := rfl
@[simp] theorem State.modGrants_verdicts (f : List (Fin 16) → List (Fin 16)) : (s.modGrants f).verdicts = s.verdicts := rfl
@[simp] theorem State.modGrants_slots (f : List (Fin 16) → List (Fin 16)) : (s.modGrants f).slots = s.slots := rfl
@[simp] theorem State.modGrants_config (f : List (Fin 16) → List (Fin 16)) : (s.modGrants f).config = s.config := rfl
@[simp] theorem State.modGrants_conds (f : List (Fin 16) → List (Fin 16)) : (s.modGrants f).conds = s.conds := rfl
@[simp] theorem State.modGrants_link (f : List (Fin 16) → List (Fin 16)) : (s.modGrants f).link = s.link := rfl
@[simp] theorem State.modGrants_sensors (f : List (Fin 16) → List (Fin 16)) : (s.modGrants f).sensors = s.sensors := rfl
@[simp] theorem State.modGrants_pending (f : List (Fin 16) → List (Fin 16)) : (s.modGrants f).pending = s.pending := rfl

/-! ### modGas -/

@[simp] theorem State.modGas_tracker (f : Gas → Gas) : (s.modGas f).tracker = s.tracker := rfl
@[simp] theorem State.modGas_heads (f : Gas → Gas) : (s.modGas f).heads = s.heads := rfl
@[simp] theorem State.modGas_infeed (f : Gas → Gas) : (s.modGas f).infeed = s.infeed := rfl
@[simp] theorem State.modGas_cylinders (f : Gas → Gas) : (s.modGas f).cylinders = s.cylinders := rfl
@[simp] theorem State.modGas_grantQueue (f : Gas → Gas) : (s.modGas f).grantQueue = s.grantQueue := rfl
@[simp] theorem State.modGas_gas (f : Gas → Gas) : (s.modGas f).gas = f s.gas := rfl
@[simp] theorem State.modGas_gasTable (f : Gas → Gas) : (s.modGas f).gasTable = s.gasTable := rfl
@[simp] theorem State.modGas_allowances (f : Gas → Gas) : (s.modGas f).allowances = s.allowances := rfl
@[simp] theorem State.modGas_verdicts (f : Gas → Gas) : (s.modGas f).verdicts = s.verdicts := rfl
@[simp] theorem State.modGas_slots (f : Gas → Gas) : (s.modGas f).slots = s.slots := rfl
@[simp] theorem State.modGas_config (f : Gas → Gas) : (s.modGas f).config = s.config := rfl
@[simp] theorem State.modGas_conds (f : Gas → Gas) : (s.modGas f).conds = s.conds := rfl
@[simp] theorem State.modGas_link (f : Gas → Gas) : (s.modGas f).link = s.link := rfl
@[simp] theorem State.modGas_sensors (f : Gas → Gas) : (s.modGas f).sensors = s.sensors := rfl
@[simp] theorem State.modGas_pending (f : Gas → Gas) : (s.modGas f).pending = s.pending := rfl

/-! ### setAllowance -/

@[simp] theorem State.setAllowance_tracker (i : Fin 2) (c : Fin 4) (v : Nat) : (s.setAllowance i c v).tracker = s.tracker := rfl
@[simp] theorem State.setAllowance_heads (i : Fin 2) (c : Fin 4) (v : Nat) : (s.setAllowance i c v).heads = s.heads := rfl
@[simp] theorem State.setAllowance_infeed (i : Fin 2) (c : Fin 4) (v : Nat) : (s.setAllowance i c v).infeed = s.infeed := rfl
@[simp] theorem State.setAllowance_cylinders (i : Fin 2) (c : Fin 4) (v : Nat) : (s.setAllowance i c v).cylinders = s.cylinders := rfl
@[simp] theorem State.setAllowance_grantQueue (i : Fin 2) (c : Fin 4) (v : Nat) : (s.setAllowance i c v).grantQueue = s.grantQueue := rfl
@[simp] theorem State.setAllowance_gas (i : Fin 2) (c : Fin 4) (v : Nat) : (s.setAllowance i c v).gas = s.gas := rfl
@[simp] theorem State.setAllowance_gasTable (i : Fin 2) (c : Fin 4) (v : Nat) : (s.setAllowance i c v).gasTable = s.gasTable := rfl
@[simp] theorem State.setAllowance_allowances (i : Fin 2) (c : Fin 4) (v : Nat) : (s.setAllowance i c v).allowances = s.allowances.set i (s.allowances[i].set c v) := rfl
@[simp] theorem State.setAllowance_verdicts (i : Fin 2) (c : Fin 4) (v : Nat) : (s.setAllowance i c v).verdicts = s.verdicts := rfl
@[simp] theorem State.setAllowance_slots (i : Fin 2) (c : Fin 4) (v : Nat) : (s.setAllowance i c v).slots = s.slots := rfl
@[simp] theorem State.setAllowance_config (i : Fin 2) (c : Fin 4) (v : Nat) : (s.setAllowance i c v).config = s.config := rfl
@[simp] theorem State.setAllowance_conds (i : Fin 2) (c : Fin 4) (v : Nat) : (s.setAllowance i c v).conds = s.conds := rfl
@[simp] theorem State.setAllowance_link (i : Fin 2) (c : Fin 4) (v : Nat) : (s.setAllowance i c v).link = s.link := rfl
@[simp] theorem State.setAllowance_sensors (i : Fin 2) (c : Fin 4) (v : Nat) : (s.setAllowance i c v).sensors = s.sensors := rfl
@[simp] theorem State.setAllowance_pending (i : Fin 2) (c : Fin 4) (v : Nat) : (s.setAllowance i c v).pending = s.pending := rfl

/-! ### setSlotAllowances -/

@[simp] theorem State.setSlotAllowances_tracker (i : Fin 2) (v : Nat) : (s.setSlotAllowances i v).tracker = s.tracker := rfl
@[simp] theorem State.setSlotAllowances_heads (i : Fin 2) (v : Nat) : (s.setSlotAllowances i v).heads = s.heads := rfl
@[simp] theorem State.setSlotAllowances_infeed (i : Fin 2) (v : Nat) : (s.setSlotAllowances i v).infeed = s.infeed := rfl
@[simp] theorem State.setSlotAllowances_cylinders (i : Fin 2) (v : Nat) : (s.setSlotAllowances i v).cylinders = s.cylinders := rfl
@[simp] theorem State.setSlotAllowances_grantQueue (i : Fin 2) (v : Nat) : (s.setSlotAllowances i v).grantQueue = s.grantQueue := rfl
@[simp] theorem State.setSlotAllowances_gas (i : Fin 2) (v : Nat) : (s.setSlotAllowances i v).gas = s.gas := rfl
@[simp] theorem State.setSlotAllowances_gasTable (i : Fin 2) (v : Nat) : (s.setSlotAllowances i v).gasTable = s.gasTable := rfl
@[simp] theorem State.setSlotAllowances_allowances (i : Fin 2) (v : Nat) : (s.setSlotAllowances i v).allowances = s.allowances.set i (Vector.replicate 4 v) := rfl
@[simp] theorem State.setSlotAllowances_verdicts (i : Fin 2) (v : Nat) : (s.setSlotAllowances i v).verdicts = s.verdicts := rfl
@[simp] theorem State.setSlotAllowances_slots (i : Fin 2) (v : Nat) : (s.setSlotAllowances i v).slots = s.slots := rfl
@[simp] theorem State.setSlotAllowances_config (i : Fin 2) (v : Nat) : (s.setSlotAllowances i v).config = s.config := rfl
@[simp] theorem State.setSlotAllowances_conds (i : Fin 2) (v : Nat) : (s.setSlotAllowances i v).conds = s.conds := rfl
@[simp] theorem State.setSlotAllowances_link (i : Fin 2) (v : Nat) : (s.setSlotAllowances i v).link = s.link := rfl
@[simp] theorem State.setSlotAllowances_sensors (i : Fin 2) (v : Nat) : (s.setSlotAllowances i v).sensors = s.sensors := rfl
@[simp] theorem State.setSlotAllowances_pending (i : Fin 2) (v : Nat) : (s.setSlotAllowances i v).pending = s.pending := rfl

/-! ### modVerdicts -/

@[simp] theorem State.modVerdicts_tracker (f : VerdictUnit → VerdictUnit) : (s.modVerdicts f).tracker = s.tracker := rfl
@[simp] theorem State.modVerdicts_heads (f : VerdictUnit → VerdictUnit) : (s.modVerdicts f).heads = s.heads := rfl
@[simp] theorem State.modVerdicts_infeed (f : VerdictUnit → VerdictUnit) : (s.modVerdicts f).infeed = s.infeed := rfl
@[simp] theorem State.modVerdicts_cylinders (f : VerdictUnit → VerdictUnit) : (s.modVerdicts f).cylinders = s.cylinders := rfl
@[simp] theorem State.modVerdicts_grantQueue (f : VerdictUnit → VerdictUnit) : (s.modVerdicts f).grantQueue = s.grantQueue := rfl
@[simp] theorem State.modVerdicts_gas (f : VerdictUnit → VerdictUnit) : (s.modVerdicts f).gas = s.gas := rfl
@[simp] theorem State.modVerdicts_gasTable (f : VerdictUnit → VerdictUnit) : (s.modVerdicts f).gasTable = s.gasTable := rfl
@[simp] theorem State.modVerdicts_allowances (f : VerdictUnit → VerdictUnit) : (s.modVerdicts f).allowances = s.allowances := rfl
@[simp] theorem State.modVerdicts_verdicts (f : VerdictUnit → VerdictUnit) : (s.modVerdicts f).verdicts = f s.verdicts := rfl
@[simp] theorem State.modVerdicts_slots (f : VerdictUnit → VerdictUnit) : (s.modVerdicts f).slots = s.slots := rfl
@[simp] theorem State.modVerdicts_config (f : VerdictUnit → VerdictUnit) : (s.modVerdicts f).config = s.config := rfl
@[simp] theorem State.modVerdicts_conds (f : VerdictUnit → VerdictUnit) : (s.modVerdicts f).conds = s.conds := rfl
@[simp] theorem State.modVerdicts_link (f : VerdictUnit → VerdictUnit) : (s.modVerdicts f).link = s.link := rfl
@[simp] theorem State.modVerdicts_sensors (f : VerdictUnit → VerdictUnit) : (s.modVerdicts f).sensors = s.sensors := rfl
@[simp] theorem State.modVerdicts_pending (f : VerdictUnit → VerdictUnit) : (s.modVerdicts f).pending = s.pending := rfl

/-! ### modSlot -/

@[simp] theorem State.modSlot_tracker (i : Fin 2) (f : Slot → Slot) : (s.modSlot i f).tracker = s.tracker := rfl
@[simp] theorem State.modSlot_heads (i : Fin 2) (f : Slot → Slot) : (s.modSlot i f).heads = s.heads := rfl
@[simp] theorem State.modSlot_infeed (i : Fin 2) (f : Slot → Slot) : (s.modSlot i f).infeed = s.infeed := rfl
@[simp] theorem State.modSlot_cylinders (i : Fin 2) (f : Slot → Slot) : (s.modSlot i f).cylinders = s.cylinders := rfl
@[simp] theorem State.modSlot_grantQueue (i : Fin 2) (f : Slot → Slot) : (s.modSlot i f).grantQueue = s.grantQueue := rfl
@[simp] theorem State.modSlot_gas (i : Fin 2) (f : Slot → Slot) : (s.modSlot i f).gas = s.gas := rfl
@[simp] theorem State.modSlot_gasTable (i : Fin 2) (f : Slot → Slot) : (s.modSlot i f).gasTable = s.gasTable := rfl
@[simp] theorem State.modSlot_allowances (i : Fin 2) (f : Slot → Slot) : (s.modSlot i f).allowances = s.allowances := rfl
@[simp] theorem State.modSlot_verdicts (i : Fin 2) (f : Slot → Slot) : (s.modSlot i f).verdicts = s.verdicts := rfl
@[simp] theorem State.modSlot_slots (i : Fin 2) (f : Slot → Slot) : (s.modSlot i f).slots = s.slots.set i (f s.slots[i]) := rfl
@[simp] theorem State.modSlot_config (i : Fin 2) (f : Slot → Slot) : (s.modSlot i f).config = s.config := rfl
@[simp] theorem State.modSlot_conds (i : Fin 2) (f : Slot → Slot) : (s.modSlot i f).conds = s.conds := rfl
@[simp] theorem State.modSlot_link (i : Fin 2) (f : Slot → Slot) : (s.modSlot i f).link = s.link := rfl
@[simp] theorem State.modSlot_sensors (i : Fin 2) (f : Slot → Slot) : (s.modSlot i f).sensors = s.sensors := rfl
@[simp] theorem State.modSlot_pending (i : Fin 2) (f : Slot → Slot) : (s.modSlot i f).pending = s.pending := rfl

/-! ### modConds -/

@[simp] theorem State.modConds_tracker (f : Conditions → Conditions) : (s.modConds f).tracker = s.tracker := rfl
@[simp] theorem State.modConds_heads (f : Conditions → Conditions) : (s.modConds f).heads = s.heads := rfl
@[simp] theorem State.modConds_infeed (f : Conditions → Conditions) : (s.modConds f).infeed = s.infeed := rfl
@[simp] theorem State.modConds_cylinders (f : Conditions → Conditions) : (s.modConds f).cylinders = s.cylinders := rfl
@[simp] theorem State.modConds_grantQueue (f : Conditions → Conditions) : (s.modConds f).grantQueue = s.grantQueue := rfl
@[simp] theorem State.modConds_gas (f : Conditions → Conditions) : (s.modConds f).gas = s.gas := rfl
@[simp] theorem State.modConds_gasTable (f : Conditions → Conditions) : (s.modConds f).gasTable = s.gasTable := rfl
@[simp] theorem State.modConds_allowances (f : Conditions → Conditions) : (s.modConds f).allowances = s.allowances := rfl
@[simp] theorem State.modConds_verdicts (f : Conditions → Conditions) : (s.modConds f).verdicts = s.verdicts := rfl
@[simp] theorem State.modConds_slots (f : Conditions → Conditions) : (s.modConds f).slots = s.slots := rfl
@[simp] theorem State.modConds_config (f : Conditions → Conditions) : (s.modConds f).config = s.config := rfl
@[simp] theorem State.modConds_conds (f : Conditions → Conditions) : (s.modConds f).conds = f s.conds := rfl
@[simp] theorem State.modConds_link (f : Conditions → Conditions) : (s.modConds f).link = s.link := rfl
@[simp] theorem State.modConds_sensors (f : Conditions → Conditions) : (s.modConds f).sensors = s.sensors := rfl
@[simp] theorem State.modConds_pending (f : Conditions → Conditions) : (s.modConds f).pending = s.pending := rfl

/-! ### modLink -/

@[simp] theorem State.modLink_tracker (f : Link → Link) : (s.modLink f).tracker = s.tracker := rfl
@[simp] theorem State.modLink_heads (f : Link → Link) : (s.modLink f).heads = s.heads := rfl
@[simp] theorem State.modLink_infeed (f : Link → Link) : (s.modLink f).infeed = s.infeed := rfl
@[simp] theorem State.modLink_cylinders (f : Link → Link) : (s.modLink f).cylinders = s.cylinders := rfl
@[simp] theorem State.modLink_grantQueue (f : Link → Link) : (s.modLink f).grantQueue = s.grantQueue := rfl
@[simp] theorem State.modLink_gas (f : Link → Link) : (s.modLink f).gas = s.gas := rfl
@[simp] theorem State.modLink_gasTable (f : Link → Link) : (s.modLink f).gasTable = s.gasTable := rfl
@[simp] theorem State.modLink_allowances (f : Link → Link) : (s.modLink f).allowances = s.allowances := rfl
@[simp] theorem State.modLink_verdicts (f : Link → Link) : (s.modLink f).verdicts = s.verdicts := rfl
@[simp] theorem State.modLink_slots (f : Link → Link) : (s.modLink f).slots = s.slots := rfl
@[simp] theorem State.modLink_config (f : Link → Link) : (s.modLink f).config = s.config := rfl
@[simp] theorem State.modLink_conds (f : Link → Link) : (s.modLink f).conds = s.conds := rfl
@[simp] theorem State.modLink_link (f : Link → Link) : (s.modLink f).link = f s.link := rfl
@[simp] theorem State.modLink_sensors (f : Link → Link) : (s.modLink f).sensors = s.sensors := rfl
@[simp] theorem State.modLink_pending (f : Link → Link) : (s.modLink f).pending = s.pending := rfl

/-! ### setSensors -/

@[simp] theorem State.setSensors_tracker (v : Sensors) : (s.setSensors v).tracker = s.tracker := rfl
@[simp] theorem State.setSensors_heads (v : Sensors) : (s.setSensors v).heads = s.heads := rfl
@[simp] theorem State.setSensors_infeed (v : Sensors) : (s.setSensors v).infeed = s.infeed := rfl
@[simp] theorem State.setSensors_cylinders (v : Sensors) : (s.setSensors v).cylinders = s.cylinders := rfl
@[simp] theorem State.setSensors_grantQueue (v : Sensors) : (s.setSensors v).grantQueue = s.grantQueue := rfl
@[simp] theorem State.setSensors_gas (v : Sensors) : (s.setSensors v).gas = s.gas := rfl
@[simp] theorem State.setSensors_gasTable (v : Sensors) : (s.setSensors v).gasTable = s.gasTable := rfl
@[simp] theorem State.setSensors_allowances (v : Sensors) : (s.setSensors v).allowances = s.allowances := rfl
@[simp] theorem State.setSensors_verdicts (v : Sensors) : (s.setSensors v).verdicts = s.verdicts := rfl
@[simp] theorem State.setSensors_slots (v : Sensors) : (s.setSensors v).slots = s.slots := rfl
@[simp] theorem State.setSensors_config (v : Sensors) : (s.setSensors v).config = s.config := rfl
@[simp] theorem State.setSensors_conds (v : Sensors) : (s.setSensors v).conds = s.conds := rfl
@[simp] theorem State.setSensors_link (v : Sensors) : (s.setSensors v).link = s.link := rfl
@[simp] theorem State.setSensors_sensors (v : Sensors) : (s.setSensors v).sensors = v := rfl
@[simp] theorem State.setSensors_pending (v : Sensors) : (s.setSensors v).pending = s.pending := rfl

/-! ### showPressure -/

@[simp] theorem State.showPressure_tracker (h : Fin 16) (raw : Int) : (s.showPressure h raw).tracker = s.tracker := rfl
@[simp] theorem State.showPressure_heads (h : Fin 16) (raw : Int) : (s.showPressure h raw).heads = s.heads := rfl
@[simp] theorem State.showPressure_infeed (h : Fin 16) (raw : Int) : (s.showPressure h raw).infeed = s.infeed := rfl
@[simp] theorem State.showPressure_cylinders (h : Fin 16) (raw : Int) : (s.showPressure h raw).cylinders = s.cylinders := rfl
@[simp] theorem State.showPressure_grantQueue (h : Fin 16) (raw : Int) : (s.showPressure h raw).grantQueue = s.grantQueue := rfl
@[simp] theorem State.showPressure_gas (h : Fin 16) (raw : Int) : (s.showPressure h raw).gas = s.gas := rfl
@[simp] theorem State.showPressure_gasTable (h : Fin 16) (raw : Int) : (s.showPressure h raw).gasTable = s.gasTable := rfl
@[simp] theorem State.showPressure_allowances (h : Fin 16) (raw : Int) : (s.showPressure h raw).allowances = s.allowances := rfl
@[simp] theorem State.showPressure_verdicts (h : Fin 16) (raw : Int) : (s.showPressure h raw).verdicts = s.verdicts := rfl
@[simp] theorem State.showPressure_slots (h : Fin 16) (raw : Int) : (s.showPressure h raw).slots = s.slots := rfl
@[simp] theorem State.showPressure_config (h : Fin 16) (raw : Int) : (s.showPressure h raw).config = s.config := rfl
@[simp] theorem State.showPressure_conds (h : Fin 16) (raw : Int) : (s.showPressure h raw).conds = s.conds := rfl
@[simp] theorem State.showPressure_link (h : Fin 16) (raw : Int) : (s.showPressure h raw).link = s.link := rfl
@[simp] theorem State.showPressure_pending (h : Fin 16) (raw : Int) : (s.showPressure h raw).pending = s.pending := rfl

/-! ### One head, cylinder, slot or allowance after a write -/

theorem State.modHead_get (h k : Fin 16) (f : Head → Head) :
    (s.modHead h f).heads[k] = if h = k then f s.heads[h] else s.heads[k] := by
  simp only [State.modHead, Fin.getElem_fin, Vector.getElem_set, Fin.ext_iff]

theorem State.modHead_self (h : Fin 16) (f : Head → Head) : (s.modHead h f).heads[h] = f s.heads[h] := by simp

theorem State.modHead_other {h k : Fin 16} (f : Head → Head) (hk : h ≠ k) : (s.modHead h f).heads[k] = s.heads[k] := by
  rw [State.modHead_get, if_neg hk]

theorem State.modCyl_get (c k : Fin 4) (f : Cylinder → Cylinder) :
    (s.modCyl c f).cylinders[k] = if c = k then f s.cylinders[c] else s.cylinders[k] := by
  simp only [State.modCyl, Fin.getElem_fin, Vector.getElem_set, Fin.ext_iff]

theorem State.modCyl_self (c : Fin 4) (f : Cylinder → Cylinder) :
    (s.modCyl c f).cylinders[c] = f s.cylinders[c] := by simp

theorem State.modCyl_other {c k : Fin 4} (f : Cylinder → Cylinder) (hk : c ≠ k) :
    (s.modCyl c f).cylinders[k] = s.cylinders[k] := by
  rw [State.modCyl_get, if_neg hk]

theorem State.modSlot_get (i k : Fin 2) (f : Slot → Slot) :
    (s.modSlot i f).slots[k] = if i = k then f s.slots[i] else s.slots[k] := by
  simp only [State.modSlot, Fin.getElem_fin, Vector.getElem_set, Fin.ext_iff]

theorem State.modSlot_self (i : Fin 2) (f : Slot → Slot) : (s.modSlot i f).slots[i] = f s.slots[i] := by simp

theorem State.setAllowance_get (i k : Fin 2) (c d : Fin 4) (v : Nat) :
    (s.setAllowance i c v).allowances[k][d] = if i = k ∧ c = d then v else s.allowances[k][d] := by
  simp only [State.setAllowance, Fin.getElem_fin, Vector.getElem_set, Fin.ext_iff]
  split <;> rename_i h
  · obtain rfl : i = k := Fin.ext h
    simp [Vector.getElem_set]
  · simp [h]

theorem State.setSlotAllowances_get (i k : Fin 2) (d : Fin 4) (v : Nat) :
    (s.setSlotAllowances i v).allowances[k][d] = if i = k then v else s.allowances[k][d] := by
  simp only [State.setSlotAllowances, Fin.getElem_fin, Vector.getElem_set, Fin.ext_iff]
  split <;> simp

end Sys2Proof.Machine
end

