-- ==== Sys2Proof/Laws/Frames.lean ====
section
/-! SUPPORT. The frame of each shared operation, said once: the parts of State it never touches. Each is a simp lemma. -/

namespace Sys2Proof.Machine

/-- A part of State that no step of a fold touches is not touched by the fold. -/
theorem foldl_frame {α β : Type} (F : State → β) (f : State → α → State) (h : ∀ s x, F (f s x) = F s) (l : List α)
    (s : State) : F (l.foldl f s) = F s := by
  induction l generalizing s with
  | nil => rfl
  | cons x l ih => rw [List.foldl_cons, ih, h]

variable (s : State)

/-! ### Ops -/

@[simp] theorem pushReply_frame (f : Frame) :
    (pushReply f s).tracker = s.tracker ∧ (pushReply f s).heads = s.heads ∧ (pushReply f s).infeed = s.infeed ∧
    (pushReply f s).cylinders = s.cylinders ∧ (pushReply f s).grantQueue = s.grantQueue ∧ (pushReply f s).gas =
    s.gas ∧ (pushReply f s).gasTable = s.gasTable ∧ (pushReply f s).allowances = s.allowances ∧ (pushReply f
    s).verdicts = s.verdicts ∧ (pushReply f s).slots = s.slots ∧ (pushReply f s).config = s.config ∧ (pushReply
    f s).conds = s.conds ∧ (pushReply f s).sensors = s.sensors ∧ (pushReply f s).pending = s.pending := by simp [pushReply]

@[simp] theorem accept_frame (k : Byte) (d : List Byte) :
    (accept k d s).tracker = s.tracker ∧ (accept k d s).heads = s.heads ∧ (accept k d s).infeed = s.infeed ∧
    (accept k d s).cylinders = s.cylinders ∧ (accept k d s).grantQueue = s.grantQueue ∧ (accept k d s).gas =
    s.gas ∧ (accept k d s).gasTable = s.gasTable ∧ (accept k d s).allowances = s.allowances ∧ (accept k d
    s).verdicts = s.verdicts ∧ (accept k d s).slots = s.slots ∧ (accept k d s).config = s.config ∧ (accept k d
    s).conds = s.conds ∧ (accept k d s).sensors = s.sensors ∧ (accept k d s).pending = s.pending := by simp [accept]

@[simp] theorem refuse_frame (k : Byte) (e : RefusalCode) (n : Nat) :
    (refuse k e n s).tracker = s.tracker ∧ (refuse k e n s).heads = s.heads ∧ (refuse k e n s).infeed = s.infeed
    ∧ (refuse k e n s).cylinders = s.cylinders ∧ (refuse k e n s).grantQueue = s.grantQueue ∧ (refuse k e n
    s).gas = s.gas ∧ (refuse k e n s).gasTable = s.gasTable ∧ (refuse k e n s).allowances = s.allowances ∧
    (refuse k e n s).verdicts = s.verdicts ∧ (refuse k e n s).slots = s.slots ∧ (refuse k e n s).config =
    s.config ∧ (refuse k e n s).conds = s.conds ∧ (refuse k e n s).sensors = s.sensors ∧ (refuse k e n
    s).pending = s.pending := by simp [refuse]

@[simp] theorem report_frame (k : ReportKind) (p : List Byte) :
    (report k p s).tracker = s.tracker ∧ (report k p s).heads = s.heads ∧ (report k p s).infeed = s.infeed ∧
    (report k p s).cylinders = s.cylinders ∧ (report k p s).grantQueue = s.grantQueue ∧ (report k p s).gas =
    s.gas ∧ (report k p s).gasTable = s.gasTable ∧ (report k p s).allowances = s.allowances ∧ (report k p
    s).verdicts = s.verdicts ∧ (report k p s).slots = s.slots ∧ (report k p s).config = s.config ∧ (report k p
    s).conds = s.conds ∧ (report k p s).sensors = s.sensors ∧ (report k p s).pending = s.pending := by
  simp only [report]; repeat' split
  all_goals simp

@[simp] theorem trackerReport_frame :
    (trackerReport s).tracker = s.tracker ∧ (trackerReport s).heads = s.heads ∧ (trackerReport s).infeed =
    s.infeed ∧ (trackerReport s).cylinders = s.cylinders ∧ (trackerReport s).grantQueue = s.grantQueue ∧
    (trackerReport s).gas = s.gas ∧ (trackerReport s).gasTable = s.gasTable ∧ (trackerReport s).allowances =
    s.allowances ∧ (trackerReport s).verdicts = s.verdicts ∧ (trackerReport s).slots = s.slots ∧ (trackerReport
    s).config = s.config ∧ (trackerReport s).conds = s.conds ∧ (trackerReport s).sensors = s.sensors ∧
    (trackerReport s).pending = s.pending := by simp [trackerReport]

@[simp] theorem headReport_frame (h : Fin 16) (k : HeadCause) :
    (headReport h k s).tracker = s.tracker ∧ (headReport h k s).heads = s.heads ∧ (headReport h k s).infeed =
    s.infeed ∧ (headReport h k s).cylinders = s.cylinders ∧ (headReport h k s).grantQueue = s.grantQueue ∧
    (headReport h k s).gas = s.gas ∧ (headReport h k s).gasTable = s.gasTable ∧ (headReport h k s).allowances =
    s.allowances ∧ (headReport h k s).verdicts = s.verdicts ∧ (headReport h k s).slots = s.slots ∧ (headReport h
    k s).config = s.config ∧ (headReport h k s).conds = s.conds ∧ (headReport h k s).sensors = s.sensors ∧
    (headReport h k s).pending = s.pending := by simp [headReport]

@[simp] theorem cylinderReport_frame (c : Fin 4) (k : CylCause) :
    (cylinderReport c k s).tracker = s.tracker ∧ (cylinderReport c k s).heads = s.heads ∧ (cylinderReport c k
    s).infeed = s.infeed ∧ (cylinderReport c k s).cylinders = s.cylinders ∧ (cylinderReport c k s).grantQueue =
    s.grantQueue ∧ (cylinderReport c k s).gas = s.gas ∧ (cylinderReport c k s).gasTable = s.gasTable ∧
    (cylinderReport c k s).allowances = s.allowances ∧ (cylinderReport c k s).verdicts = s.verdicts ∧
    (cylinderReport c k s).slots = s.slots ∧ (cylinderReport c k s).config = s.config ∧ (cylinderReport c k
    s).conds = s.conds ∧ (cylinderReport c k s).sensors = s.sensors ∧ (cylinderReport c k s).pending = s.pending := by simp [cylinderReport]

@[simp] theorem conditionReport_frame (k : Condition) :
    (conditionReport k s).tracker = s.tracker ∧ (conditionReport k s).heads = s.heads ∧ (conditionReport k
    s).infeed = s.infeed ∧ (conditionReport k s).cylinders = s.cylinders ∧ (conditionReport k s).grantQueue =
    s.grantQueue ∧ (conditionReport k s).gas = s.gas ∧ (conditionReport k s).gasTable = s.gasTable ∧
    (conditionReport k s).allowances = s.allowances ∧ (conditionReport k s).verdicts = s.verdicts ∧
    (conditionReport k s).slots = s.slots ∧ (conditionReport k s).config = s.config ∧ (conditionReport k
    s).conds = s.conds ∧ (conditionReport k s).sensors = s.sensors ∧ (conditionReport k s).pending = s.pending := by
  simp only [conditionReport]; repeat' split
  all_goals simp

@[simp] theorem updateStop_frame :
    (updateStop s).tracker = s.tracker ∧ (updateStop s).heads = s.heads ∧ (updateStop s).cylinders = s.cylinders
    ∧ (updateStop s).grantQueue = s.grantQueue ∧ (updateStop s).gas = s.gas ∧ (updateStop s).gasTable =
    s.gasTable ∧ (updateStop s).allowances = s.allowances ∧ (updateStop s).verdicts = s.verdicts ∧ (updateStop
    s).slots = s.slots ∧ (updateStop s).config = s.config ∧ (updateStop s).link = s.link ∧ (updateStop
    s).sensors = s.sensors ∧ (updateStop s).pending = s.pending := by simp [updateStop]

@[simp] theorem setCondition_frame (k : Condition) :
    (setCondition k s).tracker = s.tracker ∧ (setCondition k s).heads = s.heads ∧ (setCondition k s).cylinders =
    s.cylinders ∧ (setCondition k s).grantQueue = s.grantQueue ∧ (setCondition k s).gas = s.gas ∧ (setCondition
    k s).gasTable = s.gasTable ∧ (setCondition k s).allowances = s.allowances ∧ (setCondition k s).verdicts =
    s.verdicts ∧ (setCondition k s).slots = s.slots ∧ (setCondition k s).config = s.config ∧ (setCondition k
    s).sensors = s.sensors ∧ (setCondition k s).pending = s.pending := by
  simp only [setCondition]; repeat' split
  all_goals simp

@[simp] theorem setPosition_frame :
    (setPosition s).tracker = s.tracker ∧ (setPosition s).heads = s.heads ∧ (setPosition s).cylinders =
    s.cylinders ∧ (setPosition s).grantQueue = s.grantQueue ∧ (setPosition s).gas = s.gas ∧ (setPosition
    s).gasTable = s.gasTable ∧ (setPosition s).allowances = s.allowances ∧ (setPosition s).verdicts = s.verdicts
    ∧ (setPosition s).slots = s.slots ∧ (setPosition s).config = s.config ∧ (setPosition s).conds = s.conds ∧
    (setPosition s).link = s.link ∧ (setPosition s).sensors = s.sensors ∧ (setPosition s).pending = s.pending := by
  simp only [setPosition]; repeat' split
  all_goals simp

@[simp] theorem withdraw_frame (h : Fin 16) :
    (withdraw h s).tracker = s.tracker ∧ (withdraw h s).heads = s.heads ∧ (withdraw h s).infeed = s.infeed ∧
    (withdraw h s).cylinders = s.cylinders ∧ (withdraw h s).gas = s.gas ∧ (withdraw h s).gasTable = s.gasTable ∧
    (withdraw h s).allowances = s.allowances ∧ (withdraw h s).verdicts = s.verdicts ∧ (withdraw h s).slots =
    s.slots ∧ (withdraw h s).config = s.config ∧ (withdraw h s).conds = s.conds ∧ (withdraw h s).link = s.link ∧
    (withdraw h s).sensors = s.sensors ∧ (withdraw h s).pending = s.pending := by simp [withdraw]

@[simp] theorem joinQueue_frame (h : Fin 16) :
    (joinQueue h s).tracker = s.tracker ∧ (joinQueue h s).infeed = s.infeed ∧ (joinQueue h s).cylinders =
    s.cylinders ∧ (joinQueue h s).gas = s.gas ∧ (joinQueue h s).gasTable = s.gasTable ∧ (joinQueue h
    s).allowances = s.allowances ∧ (joinQueue h s).verdicts = s.verdicts ∧ (joinQueue h s).slots = s.slots ∧
    (joinQueue h s).config = s.config ∧ (joinQueue h s).conds = s.conds ∧ (joinQueue h s).link = s.link ∧
    (joinQueue h s).sensors = s.sensors ∧ (joinQueue h s).pending = s.pending := by simp [joinQueue]

@[simp] theorem addReason_frame (h : Fin 16) (k : Reason) :
    (addReason h k s).tracker = s.tracker ∧ (addReason h k s).infeed = s.infeed ∧ (addReason h k s).cylinders =
    s.cylinders ∧ (addReason h k s).gas = s.gas ∧ (addReason h k s).gasTable = s.gasTable ∧ (addReason h k
    s).allowances = s.allowances ∧ (addReason h k s).verdicts = s.verdicts ∧ (addReason h k s).slots = s.slots ∧
    (addReason h k s).config = s.config ∧ (addReason h k s).conds = s.conds ∧ (addReason h k s).link = s.link ∧
    (addReason h k s).sensors = s.sensors ∧ (addReason h k s).pending = s.pending := by
  simp only [addReason]; repeat' split
  all_goals simp

@[simp] theorem modRecord_frame (h : Fin 16) (f : CanRecord → CanRecord) :
    (modRecord h f s).tracker = s.tracker ∧ (modRecord h f s).infeed = s.infeed ∧ (modRecord h f s).cylinders =
    s.cylinders ∧ (modRecord h f s).grantQueue = s.grantQueue ∧ (modRecord h f s).gas = s.gas ∧ (modRecord h f
    s).gasTable = s.gasTable ∧ (modRecord h f s).allowances = s.allowances ∧ (modRecord h f s).verdicts =
    s.verdicts ∧ (modRecord h f s).slots = s.slots ∧ (modRecord h f s).config = s.config ∧ (modRecord h f
    s).conds = s.conds ∧ (modRecord h f s).link = s.link ∧ (modRecord h f s).sensors = s.sensors ∧ (modRecord h
    f s).pending = s.pending := by simp [modRecord]

/-! ### Dose -/

@[simp] theorem adapt_frame (c : Fin 4) (x : Shot) (d : Nat) :
    (adapt c x d s).tracker = s.tracker ∧ (adapt c x d s).heads = s.heads ∧ (adapt c x d s).infeed = s.infeed ∧
    (adapt c x d s).cylinders = s.cylinders ∧ (adapt c x d s).grantQueue = s.grantQueue ∧ (adapt c x d s).gas =
    s.gas ∧ (adapt c x d s).gasTable = s.gasTable ∧ (adapt c x d s).verdicts = s.verdicts ∧ (adapt c x d
    s).slots = s.slots ∧ (adapt c x d s).config = s.config ∧ (adapt c x d s).conds = s.conds ∧ (adapt c x d
    s).link = s.link ∧ (adapt c x d s).sensors = s.sensors ∧ (adapt c x d s).pending = s.pending := by
  simp only [adapt]; repeat' split
  all_goals simp

/-! ### Cylinders -/

@[simp] theorem enterRefilling_frame (c : Fin 4) :
    (enterRefilling c s).tracker = s.tracker ∧ (enterRefilling c s).heads = s.heads ∧ (enterRefilling c
    s).infeed = s.infeed ∧ (enterRefilling c s).grantQueue = s.grantQueue ∧ (enterRefilling c s).gas = s.gas ∧
    (enterRefilling c s).gasTable = s.gasTable ∧ (enterRefilling c s).allowances = s.allowances ∧
    (enterRefilling c s).verdicts = s.verdicts ∧ (enterRefilling c s).slots = s.slots ∧ (enterRefilling c
    s).config = s.config ∧ (enterRefilling c s).conds = s.conds ∧ (enterRefilling c s).link = s.link ∧
    (enterRefilling c s).sensors = s.sensors ∧ (enterRefilling c s).pending = s.pending := by simp [enterRefilling]

@[simp] theorem enterIdle_frame (c : Fin 4) :
    (enterIdle c s).tracker = s.tracker ∧ (enterIdle c s).heads = s.heads ∧ (enterIdle c s).infeed = s.infeed ∧
    (enterIdle c s).grantQueue = s.grantQueue ∧ (enterIdle c s).gas = s.gas ∧ (enterIdle c s).gasTable =
    s.gasTable ∧ (enterIdle c s).allowances = s.allowances ∧ (enterIdle c s).verdicts = s.verdicts ∧ (enterIdle
    c s).slots = s.slots ∧ (enterIdle c s).config = s.config ∧ (enterIdle c s).conds = s.conds ∧ (enterIdle c
    s).link = s.link ∧ (enterIdle c s).sensors = s.sensors ∧ (enterIdle c s).pending = s.pending := by
  simp only [enterIdle]; repeat' split
  all_goals simp

@[simp] theorem refillIdle_frame (c : Fin 4) :
    (refillIdle c s).tracker = s.tracker ∧ (refillIdle c s).heads = s.heads ∧ (refillIdle c s).infeed = s.infeed
    ∧ (refillIdle c s).grantQueue = s.grantQueue ∧ (refillIdle c s).gas = s.gas ∧ (refillIdle c s).gasTable =
    s.gasTable ∧ (refillIdle c s).allowances = s.allowances ∧ (refillIdle c s).verdicts = s.verdicts ∧
    (refillIdle c s).slots = s.slots ∧ (refillIdle c s).config = s.config ∧ (refillIdle c s).conds = s.conds ∧
    (refillIdle c s).link = s.link ∧ (refillIdle c s).sensors = s.sensors ∧ (refillIdle c s).pending = s.pending := by
  simp only [refillIdle]; repeat' split
  all_goals simp

@[simp] theorem topUp_frame (c : Fin 4) :
    (topUp c s).tracker = s.tracker ∧ (topUp c s).heads = s.heads ∧ (topUp c s).infeed = s.infeed ∧ (topUp c
    s).grantQueue = s.grantQueue ∧ (topUp c s).gas = s.gas ∧ (topUp c s).gasTable = s.gasTable ∧ (topUp c
    s).allowances = s.allowances ∧ (topUp c s).verdicts = s.verdicts ∧ (topUp c s).slots = s.slots ∧ (topUp c
    s).config = s.config ∧ (topUp c s).conds = s.conds ∧ (topUp c s).link = s.link ∧ (topUp c s).sensors =
    s.sensors ∧ (topUp c s).pending = s.pending := by
  simp only [topUp]; repeat' split
  all_goals simp

@[simp] theorem allOutTest_frame :
    (allOutTest s).tracker = s.tracker ∧ (allOutTest s).heads = s.heads ∧ (allOutTest s).cylinders = s.cylinders
    ∧ (allOutTest s).grantQueue = s.grantQueue ∧ (allOutTest s).gas = s.gas ∧ (allOutTest s).gasTable =
    s.gasTable ∧ (allOutTest s).allowances = s.allowances ∧ (allOutTest s).verdicts = s.verdicts ∧ (allOutTest
    s).slots = s.slots ∧ (allOutTest s).config = s.config ∧ (allOutTest s).sensors = s.sensors ∧ (allOutTest
    s).pending = s.pending := by
  simp only [allOutTest]; repeat' split
  all_goals simp

@[simp] theorem completeDisable_frame (c : Fin 4) :
    (completeDisable c s).tracker = s.tracker ∧ (completeDisable c s).heads = s.heads ∧ (completeDisable c
    s).grantQueue = s.grantQueue ∧ (completeDisable c s).gas = s.gas ∧ (completeDisable c s).gasTable =
    s.gasTable ∧ (completeDisable c s).allowances = s.allowances ∧ (completeDisable c s).verdicts = s.verdicts ∧
    (completeDisable c s).slots = s.slots ∧ (completeDisable c s).config = s.config ∧ (completeDisable c
    s).sensors = s.sensors ∧ (completeDisable c s).pending = s.pending := by simp [completeDisable]

@[simp] theorem readyOrDisabled_frame (c : Fin 4) :
    (readyOrDisabled c s).tracker = s.tracker ∧ (readyOrDisabled c s).heads = s.heads ∧ (readyOrDisabled c
    s).grantQueue = s.grantQueue ∧ (readyOrDisabled c s).gas = s.gas ∧ (readyOrDisabled c s).gasTable =
    s.gasTable ∧ (readyOrDisabled c s).allowances = s.allowances ∧ (readyOrDisabled c s).verdicts = s.verdicts ∧
    (readyOrDisabled c s).slots = s.slots ∧ (readyOrDisabled c s).config = s.config ∧ (readyOrDisabled c
    s).sensors = s.sensors ∧ (readyOrDisabled c s).pending = s.pending := by
  simp only [readyOrDisabled]; repeat' split
  all_goals simp

@[simp] theorem endDischarge_frame (c : Fin 4) (k : EndCause) :
    (endDischarge c k s).tracker = s.tracker ∧ (endDischarge c k s).infeed = s.infeed ∧ (endDischarge c k
    s).grantQueue = s.grantQueue ∧ (endDischarge c k s).gas = s.gas ∧ (endDischarge c k s).gasTable = s.gasTable
    ∧ (endDischarge c k s).allowances = s.allowances ∧ (endDischarge c k s).verdicts = s.verdicts ∧
    (endDischarge c k s).slots = s.slots ∧ (endDischarge c k s).config = s.config ∧ (endDischarge c k s).conds =
    s.conds ∧ (endDischarge c k s).link = s.link ∧ (endDischarge c k s).sensors = s.sensors ∧ (endDischarge c k
    s).pending = s.pending := by
  simp only [endDischarge]; repeat' split
  all_goals simp

@[simp] theorem disableCylinder_frame (c : Fin 4) :
    (disableCylinder c s).tracker = s.tracker ∧ (disableCylinder c s).heads = s.heads ∧ (disableCylinder c
    s).grantQueue = s.grantQueue ∧ (disableCylinder c s).gas = s.gas ∧ (disableCylinder c s).gasTable =
    s.gasTable ∧ (disableCylinder c s).allowances = s.allowances ∧ (disableCylinder c s).verdicts = s.verdicts ∧
    (disableCylinder c s).slots = s.slots ∧ (disableCylinder c s).config = s.config ∧ (disableCylinder c
    s).sensors = s.sensors ∧ (disableCylinder c s).pending = s.pending := by
  simp only [disableCylinder]; repeat' split
  all_goals simp

@[simp] theorem enableCylinder_frame (c : Fin 4) :
    (enableCylinder c s).tracker = s.tracker ∧ (enableCylinder c s).heads = s.heads ∧ (enableCylinder c
    s).grantQueue = s.grantQueue ∧ (enableCylinder c s).gas = s.gas ∧ (enableCylinder c s).gasTable = s.gasTable
    ∧ (enableCylinder c s).allowances = s.allowances ∧ (enableCylinder c s).verdicts = s.verdicts ∧
    (enableCylinder c s).slots = s.slots ∧ (enableCylinder c s).config = s.config ∧ (enableCylinder c s).sensors
    = s.sensors ∧ (enableCylinder c s).pending = s.pending := by
  simp only [enableCylinder]; repeat' split
  all_goals simp

@[simp] theorem refillTimeoutAct_frame (c : Fin 4) :
    (refillTimeoutAct c s).tracker = s.tracker ∧ (refillTimeoutAct c s).heads = s.heads ∧ (refillTimeoutAct c
    s).grantQueue = s.grantQueue ∧ (refillTimeoutAct c s).gas = s.gas ∧ (refillTimeoutAct c s).gasTable =
    s.gasTable ∧ (refillTimeoutAct c s).allowances = s.allowances ∧ (refillTimeoutAct c s).verdicts = s.verdicts
    ∧ (refillTimeoutAct c s).slots = s.slots ∧ (refillTimeoutAct c s).config = s.config ∧ (refillTimeoutAct c
    s).sensors = s.sensors ∧ (refillTimeoutAct c s).pending = s.pending := by
  simp only [refillTimeoutAct]; repeat' split
  all_goals simp

@[simp] theorem retryAct_frame (c : Fin 4) :
    (retryAct c s).tracker = s.tracker ∧ (retryAct c s).heads = s.heads ∧ (retryAct c s).infeed = s.infeed ∧
    (retryAct c s).grantQueue = s.grantQueue ∧ (retryAct c s).gas = s.gas ∧ (retryAct c s).gasTable = s.gasTable
    ∧ (retryAct c s).allowances = s.allowances ∧ (retryAct c s).verdicts = s.verdicts ∧ (retryAct c s).slots =
    s.slots ∧ (retryAct c s).config = s.config ∧ (retryAct c s).conds = s.conds ∧ (retryAct c s).link = s.link ∧
    (retryAct c s).sensors = s.sensors ∧ (retryAct c s).pending = s.pending := by simp [retryAct]

/-! ### Charge -/

@[simp] theorem raiseDebt_frame (n : Nat) :
    (raiseDebt n s).tracker = s.tracker ∧ (raiseDebt n s).heads = s.heads ∧ (raiseDebt n s).cylinders =
    s.cylinders ∧ (raiseDebt n s).grantQueue = s.grantQueue ∧ (raiseDebt n s).gas = s.gas ∧ (raiseDebt n
    s).gasTable = s.gasTable ∧ (raiseDebt n s).allowances = s.allowances ∧ (raiseDebt n s).verdicts = s.verdicts
    ∧ (raiseDebt n s).slots = s.slots ∧ (raiseDebt n s).config = s.config ∧ (raiseDebt n s).sensors = s.sensors
    ∧ (raiseDebt n s).pending = s.pending := by
  simp only [raiseDebt]; repeat' split
  all_goals simp

@[simp] theorem releaseSettled_frame (n : Nat) :
    (releaseSettled n s).tracker = s.tracker ∧ (releaseSettled n s).heads = s.heads ∧ (releaseSettled n s).cylinders =
    s.cylinders ∧ (releaseSettled n s).grantQueue = s.grantQueue ∧ (releaseSettled n s).gas = s.gas ∧
    (releaseSettled n s).gasTable = s.gasTable ∧ (releaseSettled n s).allowances = s.allowances ∧ (releaseSettled n
    s).verdicts = s.verdicts ∧ (releaseSettled n s).slots = s.slots ∧ (releaseSettled n s).config = s.config ∧
    (releaseSettled n s).sensors = s.sensors ∧ (releaseSettled n s).pending = s.pending := by simp [releaseSettled]

@[simp] theorem departAwaiting_frame (h : Fin 16) (q : Nat) :
    (departAwaiting h q s).tracker = s.tracker ∧ (departAwaiting h q s).heads = s.heads ∧
    (departAwaiting h q s).cylinders = s.cylinders ∧ (departAwaiting h q s).grantQueue = s.grantQueue ∧
    (departAwaiting h q s).gas = s.gas ∧ (departAwaiting h q s).gasTable = s.gasTable ∧
    (departAwaiting h q s).allowances = s.allowances ∧ (departAwaiting h q s).verdicts = s.verdicts ∧
    (departAwaiting h q s).slots = s.slots ∧ (departAwaiting h q s).config = s.config ∧
    (departAwaiting h q s).sensors = s.sensors ∧ (departAwaiting h q s).pending = s.pending := by
  simp only [departAwaiting]; split <;> simp

@[simp] theorem settleUnbound_frame (h : Fin 16) (q : Nat) :
    (settleUnbound h q s).tracker = s.tracker ∧ (settleUnbound h q s).heads = s.heads ∧ (settleUnbound h q
    s).cylinders = s.cylinders ∧ (settleUnbound h q s).grantQueue = s.grantQueue ∧ (settleUnbound h q s).gas =
    s.gas ∧ (settleUnbound h q s).gasTable = s.gasTable ∧ (settleUnbound h q s).allowances = s.allowances ∧
    (settleUnbound h q s).verdicts = s.verdicts ∧ (settleUnbound h q s).slots = s.slots ∧ (settleUnbound h q
    s).config = s.config ∧ (settleUnbound h q s).sensors = s.sensors ∧ (settleUnbound h q s).pending = s.pending := by simp [settleUnbound]

@[simp] theorem judgeDose_frame (h : Fin 16) :
    (judgeDose h s).tracker = s.tracker ∧ (judgeDose h s).infeed = s.infeed ∧ (judgeDose h s).cylinders =
    s.cylinders ∧ (judgeDose h s).gas = s.gas ∧ (judgeDose h s).gasTable = s.gasTable ∧ (judgeDose h
    s).allowances = s.allowances ∧ (judgeDose h s).verdicts = s.verdicts ∧ (judgeDose h s).slots = s.slots ∧
    (judgeDose h s).config = s.config ∧ (judgeDose h s).conds = s.conds ∧ (judgeDose h s).link = s.link ∧
    (judgeDose h s).sensors = s.sensors ∧ (judgeDose h s).pending = s.pending := by
  simp only [judgeDose]; repeat' split
  all_goals simp

@[simp] theorem grant_frame (h : Fin 16) (c : Fin 4) (i : Fin 2) (t : Int) :
    (grant h c i t s).tracker = s.tracker ∧ (grant h c i t s).infeed = s.infeed ∧ (grant h c i t s).gas = s.gas
    ∧ (grant h c i t s).gasTable = s.gasTable ∧ (grant h c i t s).allowances = s.allowances ∧ (grant h c i t
    s).verdicts = s.verdicts ∧ (grant h c i t s).slots = s.slots ∧ (grant h c i t s).config = s.config ∧ (grant
    h c i t s).conds = s.conds ∧ (grant h c i t s).link = s.link ∧ (grant h c i t s).sensors = s.sensors ∧
    (grant h c i t s).pending = s.pending := by simp [grant]

@[simp] theorem offer_frame (h : Fin 16) (c : Fin 4) :
    (offer h c s).tracker = s.tracker ∧ (offer h c s).infeed = s.infeed ∧ (offer h c s).gas = s.gas ∧ (offer h c
    s).gasTable = s.gasTable ∧ (offer h c s).allowances = s.allowances ∧ (offer h c s).verdicts = s.verdicts ∧
    (offer h c s).slots = s.slots ∧ (offer h c s).config = s.config ∧ (offer h c s).conds = s.conds ∧ (offer h c
    s).link = s.link ∧ (offer h c s).sensors = s.sensors ∧ (offer h c s).pending = s.pending := by
  simp only [offer]; repeat' split
  all_goals simp

@[simp] theorem offers_frame (n : Nat) :
    (offers n s).tracker = s.tracker ∧ (offers n s).infeed = s.infeed ∧ (offers n s).gas = s.gas ∧ (offers n
    s).gasTable = s.gasTable ∧ (offers n s).allowances = s.allowances ∧ (offers n s).verdicts = s.verdicts ∧
    (offers n s).slots = s.slots ∧ (offers n s).config = s.config ∧ (offers n s).conds = s.conds ∧ (offers n
    s).link = s.link ∧ (offers n s).sensors = s.sensors ∧ (offers n s).pending = s.pending := by
  induction n generalizing s with
  | zero => simp [offers]
  | succ n ih => simp only [offers]; repeat' split
                 all_goals simp [ih]

@[simp] theorem arbitrate_frame :
    (arbitrate s).tracker = s.tracker ∧ (arbitrate s).infeed = s.infeed ∧ (arbitrate s).gas = s.gas ∧ (arbitrate
    s).gasTable = s.gasTable ∧ (arbitrate s).allowances = s.allowances ∧ (arbitrate s).verdicts = s.verdicts ∧
    (arbitrate s).slots = s.slots ∧ (arbitrate s).config = s.config ∧ (arbitrate s).conds = s.conds ∧ (arbitrate
    s).link = s.link ∧ (arbitrate s).sensors = s.sensors ∧ (arbitrate s).pending = s.pending := by simp [arbitrate]

@[simp] theorem requestGas_frame (h : Fin 16) :
    (requestGas h s).tracker = s.tracker ∧ (requestGas h s).infeed = s.infeed ∧ (requestGas h s).gas = s.gas ∧
    (requestGas h s).gasTable = s.gasTable ∧ (requestGas h s).allowances = s.allowances ∧ (requestGas h
    s).verdicts = s.verdicts ∧ (requestGas h s).slots = s.slots ∧ (requestGas h s).config = s.config ∧
    (requestGas h s).conds = s.conds ∧ (requestGas h s).link = s.link ∧ (requestGas h s).sensors = s.sensors ∧
    (requestGas h s).pending = s.pending := by simp [requestGas]

@[simp] theorem writeBasis_frame (h : Fin 16) (x : Settlement) (r : Recipe) :
    (writeBasis h x r s).tracker = s.tracker ∧ (writeBasis h x r s).infeed = s.infeed ∧ (writeBasis h x r
    s).cylinders = s.cylinders ∧ (writeBasis h x r s).gas = s.gas ∧ (writeBasis h x r s).gasTable = s.gasTable ∧
    (writeBasis h x r s).allowances = s.allowances ∧ (writeBasis h x r s).verdicts = s.verdicts ∧ (writeBasis h
    x r s).slots = s.slots ∧ (writeBasis h x r s).config = s.config ∧ (writeBasis h x r s).conds = s.conds ∧
    (writeBasis h x r s).link = s.link ∧ (writeBasis h x r s).sensors = s.sensors ∧ (writeBasis h x r s).pending
    = s.pending := by
  simp only [writeBasis]; repeat' split
  all_goals simp

@[simp] theorem chargeDecision_frame (h : Fin 16) :
    (chargeDecision h s).tracker = s.tracker ∧ (chargeDecision h s).gas = s.gas ∧ (chargeDecision h s).gasTable
    = s.gasTable ∧ (chargeDecision h s).allowances = s.allowances ∧ (chargeDecision h s).verdicts = s.verdicts ∧
    (chargeDecision h s).slots = s.slots ∧ (chargeDecision h s).config = s.config ∧ (chargeDecision h s).sensors
    = s.sensors ∧ (chargeDecision h s).pending = s.pending := by
  simp only [chargeDecision]; repeat' split
  all_goals simp

@[simp] theorem enterProbed_frame (h : Fin 16) :
    (enterProbed h s).tracker = s.tracker ∧ (enterProbed h s).gas = s.gas ∧ (enterProbed h s).gasTable =
    s.gasTable ∧ (enterProbed h s).allowances = s.allowances ∧ (enterProbed h s).verdicts = s.verdicts ∧
    (enterProbed h s).slots = s.slots ∧ (enterProbed h s).config = s.config ∧ (enterProbed h s).sensors =
    s.sensors ∧ (enterProbed h s).pending = s.pending := by
  simp only [enterProbed]; repeat' split
  all_goals simp

@[simp] theorem afterCredit_frame (h : Fin 16) (b : Bool) :
    (afterCredit h b s).tracker = s.tracker ∧ (afterCredit h b s).infeed = s.infeed ∧ (afterCredit h b s).gas =
    s.gas ∧ (afterCredit h b s).gasTable = s.gasTable ∧ (afterCredit h b s).allowances = s.allowances ∧
    (afterCredit h b s).verdicts = s.verdicts ∧ (afterCredit h b s).slots = s.slots ∧ (afterCredit h b s).config
    = s.config ∧ (afterCredit h b s).conds = s.conds ∧ (afterCredit h b s).link = s.link ∧ (afterCredit h b
    s).sensors = s.sensors ∧ (afterCredit h b s).pending = s.pending := by
  simp only [afterCredit]; repeat' split
  all_goals simp

@[simp] theorem credit_frame (h : Fin 16) (c : Fin 4) (x : Shot) :
    (credit h c x s).tracker = s.tracker ∧ (credit h c x s).infeed = s.infeed ∧ (credit h c x s).gas = s.gas ∧
    (credit h c x s).gasTable = s.gasTable ∧ (credit h c x s).allowances = s.allowances ∧ (credit h c x
    s).verdicts = s.verdicts ∧ (credit h c x s).slots = s.slots ∧ (credit h c x s).config = s.config ∧ (credit h
    c x s).conds = s.conds ∧ (credit h c x s).link = s.link ∧ (credit h c x s).sensors = s.sensors ∧ (credit h c
    x s).pending = s.pending := by
  simp only [credit]; repeat' split
  all_goals simp

@[simp] theorem afterMeasuring_frame (c : Fin 4) :
    (afterMeasuring c s).tracker = s.tracker ∧ (afterMeasuring c s).heads = s.heads ∧ (afterMeasuring c
    s).grantQueue = s.grantQueue ∧ (afterMeasuring c s).gas = s.gas ∧ (afterMeasuring c s).gasTable = s.gasTable
    ∧ (afterMeasuring c s).allowances = s.allowances ∧ (afterMeasuring c s).verdicts = s.verdicts ∧
    (afterMeasuring c s).slots = s.slots ∧ (afterMeasuring c s).config = s.config ∧ (afterMeasuring c s).sensors
    = s.sensors ∧ (afterMeasuring c s).pending = s.pending := by
  simp only [afterMeasuring]; repeat' split
  all_goals simp

@[simp] theorem completeMeasurement_frame (c : Fin 4) :
    (completeMeasurement c s).tracker = s.tracker ∧ (completeMeasurement c s).gas = s.gas ∧ (completeMeasurement
    c s).gasTable = s.gasTable ∧ (completeMeasurement c s).verdicts = s.verdicts ∧ (completeMeasurement c
    s).slots = s.slots ∧ (completeMeasurement c s).config = s.config ∧ (completeMeasurement c s).sensors =
    s.sensors ∧ (completeMeasurement c s).pending = s.pending := by
  simp only [completeMeasurement]; repeat' split
  all_goals simp

@[simp] theorem dischargeReading_frame (c : Fin 4) (h : Fin 16) (x : Shot) :
    (dischargeReading c h x s).tracker = s.tracker ∧ (dischargeReading c h x s).infeed = s.infeed ∧
    (dischargeReading c h x s).gas = s.gas ∧ (dischargeReading c h x s).gasTable = s.gasTable ∧
    (dischargeReading c h x s).allowances = s.allowances ∧ (dischargeReading c h x s).verdicts = s.verdicts ∧
    (dischargeReading c h x s).slots = s.slots ∧ (dischargeReading c h x s).config = s.config ∧
    (dischargeReading c h x s).conds = s.conds ∧ (dischargeReading c h x s).link = s.link ∧ (dischargeReading c
    h x s).sensors = s.sensors ∧ (dischargeReading c h x s).pending = s.pending := by
  simp only [dischargeReading]; repeat' split
  all_goals simp

@[simp] theorem endProbe_frame (h : Fin 16) :
    (endProbe h s).tracker = s.tracker ∧ (endProbe h s).infeed = s.infeed ∧ (endProbe h s).cylinders =
    s.cylinders ∧ (endProbe h s).grantQueue = s.grantQueue ∧ (endProbe h s).gas = s.gas ∧ (endProbe h
    s).gasTable = s.gasTable ∧ (endProbe h s).allowances = s.allowances ∧ (endProbe h s).verdicts = s.verdicts ∧
    (endProbe h s).slots = s.slots ∧ (endProbe h s).config = s.config ∧ (endProbe h s).conds = s.conds ∧
    (endProbe h s).link = s.link ∧ (endProbe h s).sensors = s.sensors ∧ (endProbe h s).pending = s.pending := by simp [endProbe]

@[simp] theorem closeWindow_frame (h : Fin 16) :
    (closeWindow h s).tracker = s.tracker ∧ (closeWindow h s).gas = s.gas ∧ (closeWindow h s).gasTable =
    s.gasTable ∧ (closeWindow h s).allowances = s.allowances ∧ (closeWindow h s).verdicts = s.verdicts ∧
    (closeWindow h s).slots = s.slots ∧ (closeWindow h s).config = s.config ∧ (closeWindow h s).sensors =
    s.sensors ∧ (closeWindow h s).pending = s.pending := by
  simp only [closeWindow]; repeat' split
  all_goals simp

@[simp] theorem lateDecision_frame (h : Fin 16) :
    (lateDecision h s).tracker = s.tracker ∧ (lateDecision h s).gas = s.gas ∧ (lateDecision h s).gasTable =
    s.gasTable ∧ (lateDecision h s).allowances = s.allowances ∧ (lateDecision h s).verdicts = s.verdicts ∧
    (lateDecision h s).slots = s.slots ∧ (lateDecision h s).config = s.config ∧ (lateDecision h s).sensors =
    s.sensors ∧ (lateDecision h s).pending = s.pending := by
  simp only [lateDecision]; repeat' split
  all_goals simp

@[simp] theorem catchUp_frame (h : Fin 16) :
    (catchUp h s).tracker = s.tracker ∧ (catchUp h s).gas = s.gas ∧ (catchUp h s).gasTable = s.gasTable ∧
    (catchUp h s).allowances = s.allowances ∧ (catchUp h s).verdicts = s.verdicts ∧ (catchUp h s).slots =
    s.slots ∧ (catchUp h s).config = s.config ∧ (catchUp h s).sensors = s.sensors ∧ (catchUp h s).pending =
    s.pending := by
  simp only [catchUp]; repeat' split
  all_goals simp

/-! ### Infeed -/

@[simp] theorem createRecord_frame (h : Fin 16) (i : Fin 2) :
    (createRecord h i s).tracker = s.tracker ∧ (createRecord h i s).cylinders = s.cylinders ∧ (createRecord h i
    s).grantQueue = s.grantQueue ∧ (createRecord h i s).gas = s.gas ∧ (createRecord h i s).gasTable = s.gasTable
    ∧ (createRecord h i s).allowances = s.allowances ∧ (createRecord h i s).verdicts = s.verdicts ∧
    (createRecord h i s).config = s.config ∧ (createRecord h i s).conds = s.conds ∧ (createRecord h i s).link =
    s.link ∧ (createRecord h i s).sensors = s.sensors ∧ (createRecord h i s).pending = s.pending := by
  simp only [createRecord]; repeat' split
  all_goals simp

@[simp] theorem takeCan_frame (h : Fin 16) :
    (takeCan h s).tracker = s.tracker ∧ (takeCan h s).infeed = s.infeed ∧ (takeCan h s).cylinders = s.cylinders
    ∧ (takeCan h s).gas = s.gas ∧ (takeCan h s).gasTable = s.gasTable ∧ (takeCan h s).allowances = s.allowances
    ∧ (takeCan h s).verdicts = s.verdicts ∧ (takeCan h s).slots = s.slots ∧ (takeCan h s).config = s.config ∧
    (takeCan h s).conds = s.conds ∧ (takeCan h s).sensors = s.sensors ∧ (takeCan h s).pending = s.pending := by
  simp only [takeCan]; repeat' split
  all_goals simp

@[simp] theorem emptyInfeed_frame (h : Fin 16) :
    (emptyInfeed h s).tracker = s.tracker ∧ (emptyInfeed h s).infeed = s.infeed ∧ (emptyInfeed h s).cylinders =
    s.cylinders ∧ (emptyInfeed h s).grantQueue = s.grantQueue ∧ (emptyInfeed h s).gas = s.gas ∧ (emptyInfeed h
    s).gasTable = s.gasTable ∧ (emptyInfeed h s).allowances = s.allowances ∧ (emptyInfeed h s).verdicts =
    s.verdicts ∧ (emptyInfeed h s).slots = s.slots ∧ (emptyInfeed h s).config = s.config ∧ (emptyInfeed h
    s).conds = s.conds ∧ (emptyInfeed h s).sensors = s.sensors ∧ (emptyInfeed h s).pending = s.pending := by
  simp only [emptyInfeed]; repeat' split
  all_goals simp

@[simp] theorem meetPocket_frame (h : Fin 16) :
    (meetPocket h s).tracker = s.tracker ∧ (meetPocket h s).cylinders = s.cylinders ∧ (meetPocket h s).gas =
    s.gas ∧ (meetPocket h s).gasTable = s.gasTable ∧ (meetPocket h s).allowances = s.allowances ∧ (meetPocket h
    s).verdicts = s.verdicts ∧ (meetPocket h s).config = s.config ∧ (meetPocket h s).conds = s.conds ∧
    (meetPocket h s).sensors = s.sensors ∧ (meetPocket h s).pending = s.pending := by
  simp only [meetPocket]; repeat' split
  all_goals simp

/-! ### GasSupply -/

@[simp] theorem enterStandby_frame :
    (enterStandby s).tracker = s.tracker ∧ (enterStandby s).heads = s.heads ∧ (enterStandby s).infeed = s.infeed
    ∧ (enterStandby s).cylinders = s.cylinders ∧ (enterStandby s).grantQueue = s.grantQueue ∧ (enterStandby
    s).gasTable = s.gasTable ∧ (enterStandby s).allowances = s.allowances ∧ (enterStandby s).verdicts =
    s.verdicts ∧ (enterStandby s).slots = s.slots ∧ (enterStandby s).config = s.config ∧ (enterStandby s).conds
    = s.conds ∧ (enterStandby s).link = s.link ∧ (enterStandby s).sensors = s.sensors ∧ (enterStandby s).pending
    = s.pending := by simp [enterStandby]

@[simp] theorem beginWake_frame :
    (beginWake s).tracker = s.tracker ∧ (beginWake s).heads = s.heads ∧ (beginWake s).cylinders = s.cylinders ∧
    (beginWake s).grantQueue = s.grantQueue ∧ (beginWake s).gasTable = s.gasTable ∧ (beginWake s).allowances =
    s.allowances ∧ (beginWake s).verdicts = s.verdicts ∧ (beginWake s).slots = s.slots ∧ (beginWake s).config =
    s.config ∧ (beginWake s).conds = s.conds ∧ (beginWake s).link = s.link ∧ (beginWake s).sensors = s.sensors ∧
    (beginWake s).pending = s.pending := by
  simp only [beginWake]; repeat' split
  all_goals simp

@[simp] theorem admissionNotice_frame :
    (admissionNotice s).tracker = s.tracker ∧ (admissionNotice s).heads = s.heads ∧ (admissionNotice
    s).cylinders = s.cylinders ∧ (admissionNotice s).grantQueue = s.grantQueue ∧ (admissionNotice s).gasTable =
    s.gasTable ∧ (admissionNotice s).allowances = s.allowances ∧ (admissionNotice s).verdicts = s.verdicts ∧
    (admissionNotice s).slots = s.slots ∧ (admissionNotice s).config = s.config ∧ (admissionNotice s).conds =
    s.conds ∧ (admissionNotice s).link = s.link ∧ (admissionNotice s).sensors = s.sensors ∧ (admissionNotice
    s).pending = s.pending := by simp [admissionNotice]

@[simp] theorem refillBank_frame :
    (refillBank s).tracker = s.tracker ∧ (refillBank s).heads = s.heads ∧ (refillBank s).infeed = s.infeed ∧
    (refillBank s).grantQueue = s.grantQueue ∧ (refillBank s).gas = s.gas ∧ (refillBank s).gasTable = s.gasTable
    ∧ (refillBank s).allowances = s.allowances ∧ (refillBank s).verdicts = s.verdicts ∧ (refillBank s).slots =
    s.slots ∧ (refillBank s).config = s.config ∧ (refillBank s).conds = s.conds ∧ (refillBank s).link = s.link ∧
    (refillBank s).sensors = s.sensors ∧ (refillBank s).pending = s.pending := by
  refine ⟨?_, ?_, ?_, ?_, ?_, ?_, ?_, ?_, ?_, ?_, ?_, ?_, ?_, ?_⟩ <;> exact foldl_frame _ _ (by simp) _ s

@[simp] theorem completeWake_frame :
    (completeWake s).tracker = s.tracker ∧ (completeWake s).heads = s.heads ∧ (completeWake s).grantQueue =
    s.grantQueue ∧ (completeWake s).gasTable = s.gasTable ∧ (completeWake s).allowances = s.allowances ∧
    (completeWake s).verdicts = s.verdicts ∧ (completeWake s).slots = s.slots ∧ (completeWake s).config =
    s.config ∧ (completeWake s).conds = s.conds ∧ (completeWake s).link = s.link ∧ (completeWake s).sensors =
    s.sensors ∧ (completeWake s).pending = s.pending := by
  simp only [completeWake]; repeat' split
  all_goals simp

@[simp] theorem bufferAct_frame (r : Int) :
    (bufferAct r s).tracker = s.tracker ∧ (bufferAct r s).heads = s.heads ∧ (bufferAct r s).grantQueue =
    s.grantQueue ∧ (bufferAct r s).gasTable = s.gasTable ∧ (bufferAct r s).allowances = s.allowances ∧
    (bufferAct r s).verdicts = s.verdicts ∧ (bufferAct r s).slots = s.slots ∧ (bufferAct r s).config = s.config
    ∧ (bufferAct r s).sensors = s.sensors ∧ (bufferAct r s).pending = s.pending := by
  simp only [bufferAct]; repeat' split
  all_goals simp

@[simp] theorem temperatureAct_frame (r : Option Int) :
    (temperatureAct r s).tracker = s.tracker ∧ (temperatureAct r s).heads = s.heads ∧ (temperatureAct r
    s).cylinders = s.cylinders ∧ (temperatureAct r s).grantQueue = s.grantQueue ∧ (temperatureAct r s).gasTable
    = s.gasTable ∧ (temperatureAct r s).allowances = s.allowances ∧ (temperatureAct r s).verdicts = s.verdicts ∧
    (temperatureAct r s).slots = s.slots ∧ (temperatureAct r s).config = s.config ∧ (temperatureAct r s).conds =
    s.conds ∧ (temperatureAct r s).link = s.link ∧ (temperatureAct r s).sensors = s.sensors ∧ (temperatureAct r
    s).pending = s.pending := by
  simp only [temperatureAct]; repeat' split
  all_goals simp

/-! ### Verdicts -/

@[simp] theorem takeRecord_frame (r : CanRecord) :
    (takeRecord r s).tracker = s.tracker ∧ (takeRecord r s).heads = s.heads ∧ (takeRecord r s).infeed = s.infeed
    ∧ (takeRecord r s).cylinders = s.cylinders ∧ (takeRecord r s).grantQueue = s.grantQueue ∧ (takeRecord r
    s).gas = s.gas ∧ (takeRecord r s).gasTable = s.gasTable ∧ (takeRecord r s).allowances = s.allowances ∧
    (takeRecord r s).slots = s.slots ∧ (takeRecord r s).config = s.config ∧ (takeRecord r s).conds = s.conds ∧
    (takeRecord r s).link = s.link ∧ (takeRecord r s).sensors = s.sensors ∧ (takeRecord r s).pending = s.pending := by
  simp only [takeRecord]; repeat' split
  all_goals simp

@[simp] theorem dropReference_frame (i : Fin 2) :
    (dropReference i s).tracker = s.tracker ∧ (dropReference i s).heads = s.heads ∧ (dropReference i s).infeed =
    s.infeed ∧ (dropReference i s).cylinders = s.cylinders ∧ (dropReference i s).grantQueue = s.grantQueue ∧
    (dropReference i s).gas = s.gas ∧ (dropReference i s).gasTable = s.gasTable ∧ (dropReference i s).verdicts =
    s.verdicts ∧ (dropReference i s).config = s.config ∧ (dropReference i s).conds = s.conds ∧ (dropReference i
    s).link = s.link ∧ (dropReference i s).sensors = s.sensors ∧ (dropReference i s).pending = s.pending := by
  simp only [dropReference]; repeat' split
  all_goals simp

@[simp] theorem reachConfirmEnds_frame :
    (reachConfirmEnds s).tracker = s.tracker ∧ (reachConfirmEnds s).heads = s.heads ∧ (reachConfirmEnds
    s).cylinders = s.cylinders ∧ (reachConfirmEnds s).grantQueue = s.grantQueue ∧ (reachConfirmEnds s).gas =
    s.gas ∧ (reachConfirmEnds s).gasTable = s.gasTable ∧ (reachConfirmEnds s).allowances = s.allowances ∧
    (reachConfirmEnds s).slots = s.slots ∧ (reachConfirmEnds s).config = s.config ∧ (reachConfirmEnds s).sensors
    = s.sensors ∧ (reachConfirmEnds s).pending = s.pending := by
  simp only [reachConfirmEnds]; repeat' split
  all_goals simp

@[simp] theorem fireRejects_frame :
    (fireRejects s).tracker = s.tracker ∧ (fireRejects s).heads = s.heads ∧ (fireRejects s).infeed = s.infeed ∧
    (fireRejects s).cylinders = s.cylinders ∧ (fireRejects s).grantQueue = s.grantQueue ∧ (fireRejects s).gas =
    s.gas ∧ (fireRejects s).gasTable = s.gasTable ∧ (fireRejects s).allowances = s.allowances ∧ (fireRejects
    s).slots = s.slots ∧ (fireRejects s).config = s.config ∧ (fireRejects s).conds = s.conds ∧ (fireRejects
    s).link = s.link ∧ (fireRejects s).sensors = s.sensors ∧ (fireRejects s).pending = s.pending := by
  simp only [fireRejects]; repeat' split
  all_goals simp

@[simp] theorem verdictPosition_frame :
    (verdictPosition s).tracker = s.tracker ∧ (verdictPosition s).heads = s.heads ∧ (verdictPosition
    s).cylinders = s.cylinders ∧ (verdictPosition s).grantQueue = s.grantQueue ∧ (verdictPosition s).gas = s.gas
    ∧ (verdictPosition s).gasTable = s.gasTable ∧ (verdictPosition s).allowances = s.allowances ∧
    (verdictPosition s).slots = s.slots ∧ (verdictPosition s).config = s.config ∧ (verdictPosition s).sensors =
    s.sensors ∧ (verdictPosition s).pending = s.pending := by simp [verdictPosition]

@[simp] theorem verdictSlip_frame :
    (verdictSlip s).tracker = s.tracker ∧ (verdictSlip s).heads = s.heads ∧ (verdictSlip s).cylinders =
    s.cylinders ∧ (verdictSlip s).grantQueue = s.grantQueue ∧ (verdictSlip s).gas = s.gas ∧ (verdictSlip
    s).gasTable = s.gasTable ∧ (verdictSlip s).allowances = s.allowances ∧ (verdictSlip s).slots = s.slots ∧
    (verdictSlip s).config = s.config ∧ (verdictSlip s).sensors = s.sensors ∧ (verdictSlip s).pending =
    s.pending := by simp [verdictSlip]

/-! ### Stations -/

@[simp] theorem enterOutOfService_frame (h : Fin 16) (k : HeadCause) :
    (enterOutOfService h k s).tracker = s.tracker ∧ (enterOutOfService h k s).cylinders = s.cylinders ∧
    (enterOutOfService h k s).gas = s.gas ∧ (enterOutOfService h k s).gasTable = s.gasTable ∧ (enterOutOfService
    h k s).allowances = s.allowances ∧ (enterOutOfService h k s).verdicts = s.verdicts ∧ (enterOutOfService h k
    s).slots = s.slots ∧ (enterOutOfService h k s).config = s.config ∧ (enterOutOfService h k s).sensors =
    s.sensors ∧ (enterOutOfService h k s).pending = s.pending := by simp [enterOutOfService]

@[simp] theorem infeedStation_frame (h : Fin 16) :
    (infeedStation h s).tracker = s.tracker ∧ (infeedStation h s).cylinders = s.cylinders ∧ (infeedStation h
    s).gas = s.gas ∧ (infeedStation h s).gasTable = s.gasTable ∧ (infeedStation h s).allowances = s.allowances ∧
    (infeedStation h s).verdicts = s.verdicts ∧ (infeedStation h s).config = s.config ∧ (infeedStation h
    s).conds = s.conds ∧ (infeedStation h s).sensors = s.sensors ∧ (infeedStation h s).pending = s.pending := by simp [infeedStation]

@[simp] theorem seatStation_frame (h : Fin 16) :
    (seatStation h s).tracker = s.tracker ∧ (seatStation h s).infeed = s.infeed ∧ (seatStation h s).cylinders =
    s.cylinders ∧ (seatStation h s).grantQueue = s.grantQueue ∧ (seatStation h s).gas = s.gas ∧ (seatStation h
    s).gasTable = s.gasTable ∧ (seatStation h s).allowances = s.allowances ∧ (seatStation h s).verdicts =
    s.verdicts ∧ (seatStation h s).slots = s.slots ∧ (seatStation h s).config = s.config ∧ (seatStation h
    s).conds = s.conds ∧ (seatStation h s).link = s.link ∧ (seatStation h s).sensors = s.sensors ∧ (seatStation
    h s).pending = s.pending := by
  simp only [seatStation]; repeat' split
  all_goals simp

@[simp] theorem crimpStation_frame (h : Fin 16) :
    (crimpStation h s).tracker = s.tracker ∧ (crimpStation h s).infeed = s.infeed ∧ (crimpStation h s).cylinders
    = s.cylinders ∧ (crimpStation h s).grantQueue = s.grantQueue ∧ (crimpStation h s).gas = s.gas ∧
    (crimpStation h s).gasTable = s.gasTable ∧ (crimpStation h s).allowances = s.allowances ∧ (crimpStation h
    s).verdicts = s.verdicts ∧ (crimpStation h s).slots = s.slots ∧ (crimpStation h s).config = s.config ∧
    (crimpStation h s).conds = s.conds ∧ (crimpStation h s).link = s.link ∧ (crimpStation h s).sensors =
    s.sensors ∧ (crimpStation h s).pending = s.pending := by
  simp only [crimpStation]; repeat' split
  all_goals simp

@[simp] theorem crimpReadStation_frame (h : Fin 16) :
    (crimpReadStation h s).tracker = s.tracker ∧ (crimpReadStation h s).infeed = s.infeed ∧ (crimpReadStation h
    s).cylinders = s.cylinders ∧ (crimpReadStation h s).gas = s.gas ∧ (crimpReadStation h s).gasTable =
    s.gasTable ∧ (crimpReadStation h s).allowances = s.allowances ∧ (crimpReadStation h s).verdicts = s.verdicts
    ∧ (crimpReadStation h s).slots = s.slots ∧ (crimpReadStation h s).config = s.config ∧ (crimpReadStation h
    s).conds = s.conds ∧ (crimpReadStation h s).link = s.link ∧ (crimpReadStation h s).sensors = s.sensors ∧
    (crimpReadStation h s).pending = s.pending := by
  simp only [crimpReadStation]
  split
  · refine ⟨?_, ?_, ?_, ?_, ?_, ?_, ?_, ?_, ?_, ?_, ?_, ?_, ?_⟩ <;>
      (simp only [State.modHead]; exact (foldl_frame _ _ (by simp) _ _).trans (by simp))
  · simp

@[simp] theorem probeStation_frame (h : Fin 16) :
    (probeStation h s).tracker = s.tracker ∧ (probeStation h s).gas = s.gas ∧ (probeStation h s).gasTable =
    s.gasTable ∧ (probeStation h s).allowances = s.allowances ∧ (probeStation h s).verdicts = s.verdicts ∧
    (probeStation h s).slots = s.slots ∧ (probeStation h s).config = s.config ∧ (probeStation h s).sensors =
    s.sensors ∧ (probeStation h s).pending = s.pending := by
  simp only [probeStation]; repeat' split
  all_goals simp

@[simp] theorem chargeOpenStation_frame (h : Fin 16) :
    (chargeOpenStation h s).tracker = s.tracker ∧ (chargeOpenStation h s).gas = s.gas ∧ (chargeOpenStation h
    s).gasTable = s.gasTable ∧ (chargeOpenStation h s).allowances = s.allowances ∧ (chargeOpenStation h
    s).verdicts = s.verdicts ∧ (chargeOpenStation h s).slots = s.slots ∧ (chargeOpenStation h s).config =
    s.config ∧ (chargeOpenStation h s).sensors = s.sensors ∧ (chargeOpenStation h s).pending = s.pending := by
  simp only [chargeOpenStation]; repeat' split
  all_goals simp

@[simp] theorem chargeCloseStation_frame (h : Fin 16) :
    (chargeCloseStation h s).tracker = s.tracker ∧ (chargeCloseStation h s).gas = s.gas ∧ (chargeCloseStation h
    s).gasTable = s.gasTable ∧ (chargeCloseStation h s).allowances = s.allowances ∧ (chargeCloseStation h
    s).verdicts = s.verdicts ∧ (chargeCloseStation h s).slots = s.slots ∧ (chargeCloseStation h s).config =
    s.config ∧ (chargeCloseStation h s).sensors = s.sensors ∧ (chargeCloseStation h s).pending = s.pending := by simp [chargeCloseStation]

@[simp] theorem dwellStation_frame (h : Fin 16) :
    (dwellStation h s).tracker = s.tracker ∧ (dwellStation h s).gas = s.gas ∧ (dwellStation h s).gasTable =
    s.gasTable ∧ (dwellStation h s).allowances = s.allowances ∧ (dwellStation h s).verdicts = s.verdicts ∧
    (dwellStation h s).slots = s.slots ∧ (dwellStation h s).config = s.config ∧ (dwellStation h s).sensors =
    s.sensors ∧ (dwellStation h s).pending = s.pending := by
  simp only [dwellStation]; repeat' split
  all_goals simp

@[simp] theorem liftStation_frame (h : Fin 16) :
    (liftStation h s).tracker = s.tracker ∧ (liftStation h s).gas = s.gas ∧ (liftStation h s).gasTable =
    s.gasTable ∧ (liftStation h s).allowances = s.allowances ∧ (liftStation h s).verdicts = s.verdicts ∧
    (liftStation h s).slots = s.slots ∧ (liftStation h s).config = s.config ∧ (liftStation h s).sensors =
    s.sensors ∧ (liftStation h s).pending = s.pending := by
  simp only [liftStation]; repeat' split
  all_goals simp

@[simp] theorem doseUnknown_frame (h : Fin 16) :
    (doseUnknown h s).tracker = s.tracker ∧ (doseUnknown h s).infeed = s.infeed ∧ (doseUnknown h s).cylinders =
    s.cylinders ∧ (doseUnknown h s).gas = s.gas ∧ (doseUnknown h s).gasTable = s.gasTable ∧ (doseUnknown h
    s).allowances = s.allowances ∧ (doseUnknown h s).verdicts = s.verdicts ∧ (doseUnknown h s).slots = s.slots ∧
    (doseUnknown h s).config = s.config ∧ (doseUnknown h s).conds = s.conds ∧ (doseUnknown h s).link = s.link ∧
    (doseUnknown h s).sensors = s.sensors ∧ (doseUnknown h s).pending = s.pending := by
  simp only [doseUnknown]; repeat' split
  all_goals simp

@[simp] theorem handOn_frame (h : Fin 16) :
    (handOn h s).tracker = s.tracker ∧ (handOn h s).cylinders = s.cylinders ∧ (handOn h s).grantQueue = s.grantQueue ∧
    (handOn h s).gas = s.gas ∧ (handOn h s).gasTable = s.gasTable ∧ (handOn h s).config = s.config ∧
    (handOn h s).sensors = s.sensors ∧ (handOn h s).pending = s.pending := by
  simp only [handOn]; repeat' split
  all_goals simp

@[simp] theorem outfeedStation_frame (h : Fin 16) :
    (outfeedStation h s).tracker = s.tracker ∧ (outfeedStation h s).gas = s.gas ∧ (outfeedStation h s).gasTable
    = s.gasTable ∧ (outfeedStation h s).config = s.config ∧ (outfeedStation h s).sensors = s.sensors ∧
    (outfeedStation h s).pending = s.pending := by
  simp only [outfeedStation]; repeat' split
  all_goals simp

@[simp] theorem ventStation_frame (h : Fin 16) :
    (ventStation h s).tracker = s.tracker ∧ (ventStation h s).infeed = s.infeed ∧ (ventStation h s).cylinders =
    s.cylinders ∧ (ventStation h s).grantQueue = s.grantQueue ∧ (ventStation h s).gas = s.gas ∧ (ventStation h
    s).gasTable = s.gasTable ∧ (ventStation h s).allowances = s.allowances ∧ (ventStation h s).verdicts =
    s.verdicts ∧ (ventStation h s).slots = s.slots ∧ (ventStation h s).config = s.config ∧ (ventStation h
    s).conds = s.conds ∧ (ventStation h s).link = s.link ∧ (ventStation h s).sensors = s.sensors ∧ (ventStation
    h s).pending = s.pending := by
  simp only [ventStation]; repeat' split
  all_goals simp

@[simp] theorem goodZero_frame (h : Fin 16) (d : Int) :
    (goodZero h d s).tracker = s.tracker ∧ (goodZero h d s).infeed = s.infeed ∧ (goodZero h d s).cylinders =
    s.cylinders ∧ (goodZero h d s).grantQueue = s.grantQueue ∧ (goodZero h d s).gas = s.gas ∧ (goodZero h d
    s).gasTable = s.gasTable ∧ (goodZero h d s).allowances = s.allowances ∧ (goodZero h d s).verdicts =
    s.verdicts ∧ (goodZero h d s).slots = s.slots ∧ (goodZero h d s).config = s.config ∧ (goodZero h d s).conds
    = s.conds ∧ (goodZero h d s).sensors = s.sensors ∧ (goodZero h d s).pending = s.pending := by
  simp only [goodZero]; repeat' split
  all_goals simp

@[simp] theorem badZero_frame (h : Fin 16) :
    (badZero h s).tracker = s.tracker ∧ (badZero h s).cylinders = s.cylinders ∧ (badZero h s).gas = s.gas ∧
    (badZero h s).gasTable = s.gasTable ∧ (badZero h s).allowances = s.allowances ∧ (badZero h s).verdicts =
    s.verdicts ∧ (badZero h s).slots = s.slots ∧ (badZero h s).config = s.config ∧ (badZero h s).sensors =
    s.sensors ∧ (badZero h s).pending = s.pending := by
  simp only [badZero]; repeat' split
  all_goals simp

@[simp] theorem zeroStation_frame (h : Fin 16) :
    (zeroStation h s).tracker = s.tracker ∧ (zeroStation h s).cylinders = s.cylinders ∧ (zeroStation h s).gas =
    s.gas ∧ (zeroStation h s).gasTable = s.gasTable ∧ (zeroStation h s).allowances = s.allowances ∧ (zeroStation
    h s).verdicts = s.verdicts ∧ (zeroStation h s).slots = s.slots ∧ (zeroStation h s).config = s.config ∧
    (zeroStation h s).sensors = s.sensors ∧ (zeroStation h s).pending = s.pending := by
  simp only [zeroStation]; repeat' split
  all_goals simp

@[simp] theorem gateStation_frame (h : Fin 16) :
    (gateStation h s).tracker = s.tracker ∧ (gateStation h s).heads = s.heads ∧ (gateStation h s).cylinders =
    s.cylinders ∧ (gateStation h s).grantQueue = s.grantQueue ∧ (gateStation h s).gasTable = s.gasTable ∧
    (gateStation h s).allowances = s.allowances ∧ (gateStation h s).verdicts = s.verdicts ∧ (gateStation h
    s).slots = s.slots ∧ (gateStation h s).config = s.config ∧ (gateStation h s).conds = s.conds ∧ (gateStation
    h s).link = s.link ∧ (gateStation h s).sensors = s.sensors ∧ (gateStation h s).pending = s.pending := by
  simp only [gateStation]; repeat' split
  all_goals simp

@[simp] theorem stationPhase_frame (h : Fin 16) (st : Station) :
    (stationPhase h st s).tracker = s.tracker ∧ (stationPhase h st s).gasTable = s.gasTable ∧ (stationPhase h st
    s).config = s.config ∧ (stationPhase h st s).sensors = s.sensors ∧ (stationPhase h st s).pending = s.pending := by
  cases st <;> simp [stationPhase]

/-! ### Turret -/

@[simp] theorem takePosition_frame (b : Bool) (p : Nat) (x : Taker) :
    (takePosition b p s x).tracker = s.tracker ∧ (takePosition b p s x).gasTable = s.gasTable ∧ (takePosition b
    p s x).config = s.config ∧ (takePosition b p s x).sensors = s.sensors ∧ (takePosition b p s x).pending =
    s.pending := by
  cases x with
  | head h =>
    simp only [takePosition]
    split
    · refine ⟨?_, ?_, ?_, ?_, ?_⟩ <;> exact foldl_frame _ _ (by simp) _ s
    · simp
  | verdictUnit => simp [takePosition]

end Sys2Proof.Machine
end

