-- ==== Sys2Proof/Laws/Heads.lean ====
section
/-! SUPPORT. Updates of one head joined into one, and what adding a reason does (spec/02 R42, spec/03 R65). -/

namespace Sys2Proof.Machine

/-- An update that leaves the head as it is leaves the state as it is. -/
theorem State.modHead_id (s : State) (h : Fin 16) (f : Head → Head) (e : f s.heads[h] = s.heads[h]) : s.modHead h f = s := by
  unfold State.modHead
  rw [e]
  have : s.heads.set h s.heads[h] = s.heads := by ext i hi; simp
  rw [this]

/-- Two updates of one head are one. -/
theorem State.modHead_modHead (s : State) (h : Fin 16) (f g : Head → Head) :
    (s.modHead h f).modHead h g = s.modHead h fun x => g (f x) := by
  simp [State.modHead]

/-- Two updates of one cylinder are one. -/
theorem State.modCyl_modCyl (s : State) (c : Fin 4) (f g : Cylinder → Cylinder) :
    (s.modCyl c f).modCyl c g = s.modCyl c fun x => g (f x) := by
  simp [State.modCyl]

/-- A reason for a can whose head is not WAITING is added to its record and does nothing else. -/
theorem addReason_settled (h : Fin 16) (k : Reason) (s : State) (hc : s.heads[h].cycle ≠ .waiting) :
    addReason h k s = s.modHead h fun x => { x with record := x.record.map fun r => r.withReason k } := by
  unfold addReason
  split
  · rename_i hr
    refine (State.modHead_id s h _ ?_).symm
    cases hh : s.heads[h]
    rw [hh] at hr
    simp only at hr
    subst hr
    rfl
  · rename_i r hr
    simp only [if_neg hc]
    simp only [State.modHead, hr, Option.map_some]

/-- A reason for a can whose head is WAITING also withdraws its request, and the head is CHARGED (spec/02 R42). -/
theorem addReason_waiting (h : Fin 16) (k : Reason) (s : State) (r : CanRecord) (hr : s.heads[h].record = some r)
    (hc : s.heads[h].cycle = .waiting) :
    addReason h k s = (withdraw h s).modHead h fun x =>
      { x with record := some (r.withReason k), cycle := .charged, pendingResult := none } := by
  unfold addReason
  rw [hr]
  simp only [if_pos hc]
  simp [State.modHead, withdraw, State.modGrants]

end Sys2Proof.Machine
end

