-- ==== Sys2Proof/Laws/Discharge.lean ====
section
/-! SUPPORT. What adding a reason and ending a discharge do to every head and cylinder, for one and for all of them
(spec/02 R42, spec/05 R95); and what setting a condition does to the twelve states (spec/10 R165). -/

namespace Sys2Proof.Machine

/-- The head once a reason is added to its record. -/
def Head.withReason (k : Reason) (x : Head) : Head :=
  match x.record with
  | none => x
  | some r => if x.cycle = .waiting then { x with record := some (r.withReason k), cycle := .charged, pendingResult := none } else { x with record := some (r.withReason k) }

theorem addReason_heads (h : Fin 16) (k : Reason) (s : State) (j : Fin 16) : (addReason h k s).heads[j] = if h =
    j then Head.withReason k s.heads[j] else s.heads[j] := by
  unfold addReason Head.withReason
  split
  · rename_i hr
    split
    · rename_i e; subst e; rw [hr]
    · rfl
  · rename_i r hr
    simp only []
    split
    · rename_i hw
      by_cases e : h = j
      · subst e
        simp only [if_true, hr, hw]
        simp [State.modHead, withdraw, State.modGrants]
      · simp [e, State.modHead, withdraw, State.modGrants, Fin.val_inj]
    · rename_i hw
      by_cases e : h = j
      · subst e
        simp only [if_true, hr, hw, if_false]
        simp [State.modHead]
      · simp [e, State.modHead, Fin.val_inj]

theorem addReason_queue (h : Fin 16) (k : Reason) (s : State) : (addReason h k s).grantQueue =
    s.grantQueue.filter fun g => !(decide (g = h) && decide (s.heads[h].cycle = .waiting)
    && s.heads[h].record.isSome) := by
  unfold addReason
  split
  · rename_i hr; simp only [hr, Option.isSome_none, Bool.and_false, Bool.not_false]; simp
  · rename_i r hr
    simp only [hr, Option.isSome_some, Bool.and_true]
    split
    · rename_i hw
      simp only [hw, decide_true, Bool.and_true]
      simp [State.modHead, withdraw, State.modGrants]
    · rename_i hw
      simp only [hw, decide_false, Bool.and_false, Bool.not_false]
      simp [State.modHead]

/-- A reason added at each of several heads. -/
theorem addReason_all (k : Reason) (l : List (Fin 16)) (hl : l.Nodup) (s : State) :
   (∀ j : Fin 16, (l.foldl (fun s h => addReason h k s) s).heads[j] = if j ∈ l then Head.withReason k s.heads[j] else s.heads[j]) ∧
   (l.foldl (fun s h => addReason h k s) s).grantQueue = s.grantQueue.filter (fun g => !(decide (g ∈ l) && decide (s.heads[g].cycle = .waiting) && s.heads[g].record.isSome)) := by
  induction l generalizing s with
  | nil => simp
  | cons a l ih =>
    rw [List.nodup_cons] at hl
    obtain ⟨i1, i2⟩ := ih hl.2 (addReason a k s)
    refine ⟨fun j => ?_, ?_⟩
    · rw [List.foldl_cons, i1 j, addReason_heads]
      by_cases e : a = j
      · subst e; simp [hl.1]
      · simp [e, Ne.symm e]
    · rw [List.foldl_cons, i2, addReason_queue, List.filter_filter]
      apply List.filter_congr
      intro g hg
      rw [addReason_heads]
      by_cases e : g = a
      · subst e; simp [hl.1]
      · have e' : ¬ a = g := fun h => e h.symm
        simp [e, e']

/-- The head once its discharge has ended. -/
def Head.discharged (c : Fin 4) (x : Head) : Head := { x with cycle := .charged, pendingResult := some c, paired := none, inlets := x.inlets.set c false, flowTimer := .stopped }

/-- The cylinder once its discharge has ended. -/
def Cylinder.discharged (cfg : MachineConfig) (k : EndCause) (x : Cylinder) : Cylinder :=
  { x.enter .measuring with settleTimer := .running (settleTime cfg), shot := x.shot.map fun y => { y with cause := some k, aborted := k.aborts, backflow := decide (k = .backflow) } }

/-- Each DISCHARGING cylinder has an owner that is paired with it. -/
def Paired (s : State) : Prop := ∀ c : Fin 4, s.cylinders[c].state = .discharging → ∃ h, s.cylinders[c].owner = some h ∧ s.heads[h].paired = some c

theorem endDischarge_cylinders (c : Fin 4) (k : EndCause) (s : State) (j : Fin 4) :
    (endDischarge c k s).cylinders[j] = if c = j ∧ s.cylinders[j].state =
    .discharging then Cylinder.discharged s.config k s.cylinders[j] else s.cylinders[j] := by
  unfold endDischarge
  by_cases hd : s.cylinders[c].state = .discharging
  · rw [if_pos hd]
    simp only []
    have e : ∀ t : State, t.cylinders = s.cylinders.set c (Cylinder.discharged s.config k s.cylinders[c]) → t.cylinders[j] = if c = j ∧ s.cylinders[j].state = .discharging then Cylinder.discharged s.config k s.cylinders[j] else s.cylinders[j] := by
      intro t ht; rw [ht]
      by_cases h : c = j
      · subst h; simp; intro h; exact absurd hd h
      · simp [h, Fin.val_inj]
    split <;> exact e _ rfl
  · rw [if_neg hd]
    by_cases h : c = j
    · subst h; rw [if_neg]; exact fun h => hd h.2
    · rw [if_neg]; exact fun x => h x.1

theorem endDischarge_heads (c : Fin 4) (k : EndCause) (s : State) (j : Fin 16) : (endDischarge c k s).heads[j] =
    if s.cylinders[c].state = .discharging ∧ s.cylinders[c].owner =
    some j then Head.discharged c s.heads[j] else s.heads[j] := by
  unfold endDischarge
  by_cases hd : s.cylinders[c].state = .discharging
  · rw [if_pos hd]
    simp only []
    split
    · rename_i ho; rw [if_neg (by rw [ho]; simp)]; rfl
    · rename_i h ho
      by_cases e : h = j
      · subst e; rw [if_pos ⟨hd, ho⟩]; simp [State.modHead, State.modCyl, Head.discharged]
      · rw [if_neg (by rw [ho]; simp [e])]; simp [State.modHead, State.modCyl, e, Fin.val_inj]
  · rw [if_neg hd, if_neg (fun h => hd h.1)]

theorem endDischarge_paired (c k s) (hp : Paired s) : Paired (endDischarge c k s) := by
  intro j hj
  rw [endDischarge_cylinders] at hj ⊢
  by_cases h : c = j ∧ s.cylinders[j].state = .discharging
  · rw [if_pos h] at hj; simp [Cylinder.discharged, Cylinder.enter] at hj
  · rw [if_neg h] at hj ⊢
    obtain ⟨h', ho, hpr⟩ := hp j hj
    refine ⟨h', ho, ?_⟩
    rw [endDischarge_heads, if_neg]
    · exact hpr
    · rintro ⟨h1, h2⟩
      obtain ⟨h'', ho', hpr'⟩ := hp c h1
      rw [h2] at ho'; cases ho'
      rw [hpr] at hpr'; cases hpr'
      exact h ⟨rfl, hj⟩

theorem endDischarge_config (c k s) : (endDischarge c k s).config = s.config := by simp

/-- The discharges of several cylinders ended. -/
theorem endDischarge_all (k : EndCause) (l : List (Fin 4)) (hl : l.Nodup) (s : State) (hp : Paired s) :
   (∀ j : Fin 4, (l.foldl (fun s c => endDischarge c k s) s).cylinders[j] = if j ∈ l ∧ s.cylinders[j].state = .discharging then Cylinder.discharged s.config k s.cylinders[j] else s.cylinders[j]) ∧
   (∀ j : Fin 16, (l.foldl (fun s c => endDischarge c k s) s).heads[j] = match s.heads[j].paired with
      | some c => if c ∈ l ∧ s.cylinders[c].state = .discharging ∧ s.cylinders[c].owner = some j then Head.discharged c s.heads[j] else s.heads[j]
      | none => s.heads[j]) := by
  induction l generalizing s with
  | nil => refine ⟨fun j => by simp, fun j => ?_⟩; split <;> simp
  | cons a l ih =>
    rw [List.nodup_cons] at hl
    obtain ⟨i1, i2⟩ := ih hl.2 (endDischarge a k s) (endDischarge_paired a k s hp)
    refine ⟨fun j => ?_, fun j => ?_⟩
    · rw [List.foldl_cons, i1 j, endDischarge_cylinders, endDischarge_config]
      by_cases e : a = j
      · subst e; simp [hl.1]
      · simp [e, Ne.symm e]
    · rw [List.foldl_cons, i2 j, endDischarge_heads]
      by_cases hh : s.cylinders[a].state = .discharging ∧ s.cylinders[a].owner = some j
      · obtain ⟨h', ho, hpr⟩ := hp a hh.1
        rw [hh.2] at ho; cases ho
        rw [if_pos hh, hpr]
        simp only [Head.discharged]
        rw [if_pos ⟨by simp, hh⟩]
      · rw [if_neg hh]
        cases hpj : s.heads[j].paired with
        | none => rfl
        | some c =>
          simp only []
          rw [endDischarge_cylinders]
          by_cases e : a = c
          · subst e
            rw [if_neg (fun h => hl.1 h.1), if_neg (fun h => hh h.2)]
          · have e' : ¬ c = a := fun h => e h.symm
            simp [e, e']

theorem setCondition_isSet (k : Condition) (s : State) (i : Fin 12) : (setCondition k s).conds.isSet[i] =
    (s.conds.isSet[i] || i == k.num) := by
  unfold setCondition
  split
  · rename_i h
    by_cases e : i = k.num
    · subst e; simp only [BEq.rfl, Bool.or_true]; exact h
    · simp [e]
  · have a : ∀ t : State, (conditionReport k t).conds = t.conds := by intro t; simp
    have hv : ∀ b : Bool, (conditionReport k (if b = true then updateStop (s.modConds fun c => { c with isSet := c.isSet.set k.num true }) else s.modConds fun c => { c with isSet := c.isSet.set k.num true })).conds.isSet = s.conds.isSet.set k.num true := by intro b; rw [a]; split <;> rfl
    have hv' := hv k.isStop
    have : ∀ w : Vector Bool 12, w = s.conds.isSet.set k.num true → w[i] = (s.conds.isSet[i] || i == k.num) := by
      rintro w rfl
      by_cases e : i = k.num
      · subst e; simp
      · have : ¬ k.num = i := fun h => e h.symm
        simp [Fin.val_inj, this, e]
    exact this _ hv'

end Sys2Proof.Machine
end

