-- ==== Sys2Proof/Laws/Reports.lean ====
section
/-! SUPPORT. What the acts of the blocks do to the message link: they add reports to the tail of the transmit queue, within
report room and while no restart is pending, and touch nothing else of it (spec/11 R179, R180). One lemma per shared
operation, each with the growth so far as its premise, so that a chain of operations is taken apart link by link. -/

namespace Sys2Proof.Machine

/-- The link `l` is the link `l0` with reports added to its transmit queue, as R179 and R180 allow. -/
def Link.Grew (l0 l : Link) : Prop :=
  ∃ rs : List TxFrame, l = { l0 with tx := l0.tx ++ rs } ∧ (∀ r ∈ rs, r.isReport = true) ∧
    (rs = [] ∨ (l0.restartPending = false ∧ l.tx.length ≤ 8 ∧ l.reports ≤ 6))

theorem Link.Grew.refl (l : Link) : Link.Grew l l := ⟨[], by simp, by simp, .inl rfl⟩

theorem Link.Grew.trans {l0 l1 l2 : Link} (h : Link.Grew l0 l1) (k : Link.Grew l1 l2) : Link.Grew l0 l2 := by
  obtain ⟨rs, rfl, h2, h3⟩ := h
  obtain ⟨qs, rfl, k2, k3⟩ := k
  refine ⟨rs ++ qs, by simp, fun r hr => ?_, ?_⟩
  · rcases List.mem_append.mp hr with hr | hr
    · exact h2 r hr
    · exact k2 r hr
  · rcases k3 with rfl | k3
    · rcases h3 with rfl | h3
      · exact .inl rfl
      · exact .inr (by simpa [Link.reports] using h3)
    · exact .inr k3

/-- What growth leaves of the link's own items. -/
theorem Link.Grew.items {l0 l : Link} (h : Link.Grew l0 l) :
    l.rate = l0.rate ∧ l.asm = l0.asm ∧ l.rx = l0.rx ∧ l.restartPending = l0.restartPending ∧ l.lineOut = l0.lineOut ∧
    l0.tx.length ≤ l.tx.length := by
  obtain ⟨rs, rfl, -, -⟩ := h
  simp

/-- A link whose transmit queue is full, or whose restart is pending, does not grow. -/
theorem Link.Grew.eq_of_full {l0 l : Link} (h : Link.Grew l0 l) (hf : l0.tx.length = 8 ∨ l0.restartPending = true) :
    l = l0 := by
  obtain ⟨rs, rfl, -, h3⟩ := h
  rcases h3 with rfl | ⟨h4, h5, -⟩
  · simp
  · rcases hf with hf | hf
    · have : rs = [] := by simpa [hf] using h5
      simp [this]
    · simp [hf] at h4

variable {l0 : Link} {s : State}

theorem report_grew (hg : Link.Grew l0 s.link) (k : ReportKind) (p : List Byte) :
    Link.Grew l0 (report k p s).link := by
  simp only [report]
  split
  · rename_i hc
    simp only [Link.hasReportRoom, Bool.and_eq_true, Bool.not_eq_true', decide_eq_true_eq] at hc
    simp only [reportRoom, transmitRoom] at hc
    refine hg.trans ⟨[⟨true, ⟨k.byte, p⟩⟩], rfl, by simp, .inr ⟨hc.1.2, ?_, ?_⟩⟩
    · have := hc.2.2
      simp; omega
    · have := hc.2.1
      simp only [Link.reports, State.modLink_link, List.countP_append] at this ⊢
      simp; omega
  · exact hg

/-- A fold of operations that each let the link grow lets it grow. -/
theorem foldl_grew {α : Type} (f : State → α → State) (hf : ∀ s x, Link.Grew l0 s.link → Link.Grew l0 (f s x).link) (l : List α)
    (s : State) (h : Link.Grew l0 s.link) : Link.Grew l0 (l.foldl f s).link := by
  induction l generalizing s with
  | nil => exact h
  | cons x l ih => exact ih _ (hf s x h)

/-! ### Ops -/

theorem trackerReport_grew (hg : Link.Grew l0 s.link) :
    Link.Grew l0 (trackerReport s).link := by
  simp only [trackerReport]
  all_goals repeat first
    | with_reducible exact hg | with_reducible apply report_grew | simpa using hg | simp

theorem headReport_grew (hg : Link.Grew l0 s.link) (h : Fin 16) (k : HeadCause) :
    Link.Grew l0 (headReport h k s).link := by
  simp only [headReport]
  all_goals repeat first
    | with_reducible exact hg | with_reducible apply report_grew | simpa using hg | simp

theorem cylinderReport_grew (hg : Link.Grew l0 s.link) (c : Fin 4) (k : CylCause) :
    Link.Grew l0 (cylinderReport c k s).link := by
  simp only [cylinderReport]
  all_goals repeat first
    | with_reducible exact hg | with_reducible apply report_grew | simpa using hg | simp

theorem conditionReport_grew (hg : Link.Grew l0 s.link) (k : Condition) :
    Link.Grew l0 (conditionReport k s).link := by
  simp only [conditionReport]; repeat' split
  all_goals repeat first
    | with_reducible exact hg | with_reducible apply report_grew | simpa using hg | simp

theorem setCondition_grew (hg : Link.Grew l0 s.link) (k : Condition) :
    Link.Grew l0 (setCondition k s).link := by
  simp only [setCondition]; repeat' split
  all_goals repeat first
    | with_reducible exact hg | with_reducible apply conditionReport_grew | simpa using hg | simp

/-! ### Cylinders -/

theorem allOutTest_grew (hg : Link.Grew l0 s.link) :
    Link.Grew l0 (allOutTest s).link := by
  simp only [allOutTest]; repeat' split
  all_goals repeat first
    | with_reducible exact hg | with_reducible apply setCondition_grew | simpa using hg | simp

theorem completeDisable_grew (hg : Link.Grew l0 s.link) (c : Fin 4) :
    Link.Grew l0 (completeDisable c s).link := by
  simp only [completeDisable]
  all_goals repeat first
    | with_reducible exact hg | with_reducible apply cylinderReport_grew | with_reducible apply allOutTest_grew
    | simpa using hg | simp

theorem readyOrDisabled_grew (hg : Link.Grew l0 s.link) (c : Fin 4) :
    Link.Grew l0 (readyOrDisabled c s).link := by
  simp only [readyOrDisabled]; repeat' split
  all_goals repeat first
    | with_reducible exact hg | with_reducible apply completeDisable_grew | simpa using hg | simp

theorem disableCylinder_grew (hg : Link.Grew l0 s.link) (c : Fin 4) :
    Link.Grew l0 (disableCylinder c s).link := by
  simp only [disableCylinder]; repeat' split
  all_goals repeat first
    | with_reducible exact hg | with_reducible apply cylinderReport_grew | with_reducible apply allOutTest_grew
    | simpa using hg | simp

theorem enableCylinder_grew (hg : Link.Grew l0 s.link) (c : Fin 4) :
    Link.Grew l0 (enableCylinder c s).link := by
  simp only [enableCylinder]; repeat' split
  all_goals repeat first
    | with_reducible exact hg | with_reducible apply cylinderReport_grew | with_reducible apply allOutTest_grew
    | simpa using hg | simp

theorem refillTimeoutAct_grew (hg : Link.Grew l0 s.link) (c : Fin 4) :
    Link.Grew l0 (refillTimeoutAct c s).link := by
  simp only [refillTimeoutAct]; repeat' split
  all_goals repeat first
    | with_reducible exact hg | with_reducible apply cylinderReport_grew | with_reducible apply setCondition_grew
    | with_reducible apply allOutTest_grew | simpa using hg | simp

/-! ### Charge -/

theorem raiseDebt_grew (hg : Link.Grew l0 s.link) (n : Nat) :
    Link.Grew l0 (raiseDebt n s).link := by
  simp only [raiseDebt]; repeat' split
  all_goals repeat first
    | with_reducible exact hg | with_reducible apply setCondition_grew | simpa using hg | simp

theorem releaseSettled_grew (hg : Link.Grew l0 s.link) (n : Nat) :
    Link.Grew l0 (releaseSettled n s).link := by
  simp only [releaseSettled]
  all_goals repeat first
    | with_reducible exact hg | with_reducible apply raiseDebt_grew | simpa using hg | simp

theorem departAwaiting_grew (hg : Link.Grew l0 s.link) (h : Fin 16) (q : Nat) :
    Link.Grew l0 (departAwaiting h q s).link := by
  simp only [departAwaiting]; split
  all_goals repeat first
    | with_reducible exact hg | with_reducible apply releaseSettled_grew | simpa using hg | simp

theorem settleUnbound_grew (hg : Link.Grew l0 s.link) (h : Fin 16) (q : Nat) :
    Link.Grew l0 (settleUnbound h q s).link := by
  simp only [settleUnbound]
  all_goals repeat first
    | with_reducible exact hg | with_reducible apply releaseSettled_grew | simpa using hg | simp

theorem chargeDecision_grew (hg : Link.Grew l0 s.link) (h : Fin 16) :
    Link.Grew l0 (chargeDecision h s).link := by
  simp only [chargeDecision]; repeat' split
  all_goals repeat first
    | with_reducible exact hg | with_reducible apply settleUnbound_grew | simpa using hg | simp

theorem enterProbed_grew (hg : Link.Grew l0 s.link) (h : Fin 16) :
    Link.Grew l0 (enterProbed h s).link := by
  simp only [enterProbed]; repeat' split
  all_goals repeat first
    | with_reducible exact hg | with_reducible apply chargeDecision_grew | simpa using hg | simp

theorem afterMeasuring_grew (hg : Link.Grew l0 s.link) (c : Fin 4) :
    Link.Grew l0 (afterMeasuring c s).link := by
  simp only [afterMeasuring]; repeat' split
  all_goals repeat first
    | with_reducible exact hg | with_reducible apply completeDisable_grew | simpa using hg | simp

theorem completeMeasurement_grew (hg : Link.Grew l0 s.link) (c : Fin 4) :
    Link.Grew l0 (completeMeasurement c s).link := by
  simp only [completeMeasurement]; repeat' split
  all_goals repeat first
    | with_reducible exact hg | with_reducible apply afterMeasuring_grew | simpa using hg | simp

theorem closeWindow_grew (hg : Link.Grew l0 s.link) (h : Fin 16) :
    Link.Grew l0 (closeWindow h s).link := by
  simp only [closeWindow]; repeat' split
  all_goals repeat first
    | with_reducible exact hg | with_reducible apply enterProbed_grew | simpa using hg | simp

theorem lateDecision_grew (hg : Link.Grew l0 s.link) (h : Fin 16) :
    Link.Grew l0 (lateDecision h s).link := by
  simp only [lateDecision]; repeat' split
  all_goals repeat first
    | with_reducible exact hg | with_reducible apply chargeDecision_grew | simpa using hg | simp

theorem catchUp_grew (hg : Link.Grew l0 s.link) (h : Fin 16) :
    Link.Grew l0 (catchUp h s).link := by
  simp only [catchUp]; repeat' split
  all_goals repeat first
    | with_reducible exact hg | with_reducible apply closeWindow_grew | with_reducible apply lateDecision_grew
    | simpa using hg | simp

/-! ### Infeed, gas supply, verdicts -/

theorem takeCan_grew (hg : Link.Grew l0 s.link) (h : Fin 16) :
    Link.Grew l0 (takeCan h s).link := by
  simp only [takeCan]; repeat' split
  all_goals repeat first
    | with_reducible exact hg | with_reducible apply headReport_grew | simpa using hg | simp

theorem emptyInfeed_grew (hg : Link.Grew l0 s.link) (h : Fin 16) :
    Link.Grew l0 (emptyInfeed h s).link := by
  simp only [emptyInfeed]; repeat' split
  all_goals repeat first
    | with_reducible exact hg | with_reducible apply headReport_grew | simpa using hg | simp

theorem meetPocket_grew (hg : Link.Grew l0 s.link) (h : Fin 16) :
    Link.Grew l0 (meetPocket h s).link := by
  simp only [meetPocket]; repeat' split
  all_goals repeat first
    | with_reducible exact hg | with_reducible apply takeCan_grew | with_reducible apply emptyInfeed_grew
    | simpa using hg | simp

theorem bufferAct_grew (hg : Link.Grew l0 s.link) (r : Int) :
    Link.Grew l0 (bufferAct r s).link := by
  simp only [bufferAct]; repeat' split
  all_goals repeat first
    | with_reducible exact hg | with_reducible apply setCondition_grew | simpa using hg | simp

theorem reachConfirmEnds_grew (hg : Link.Grew l0 s.link) :
    Link.Grew l0 (reachConfirmEnds s).link := by
  simp only [reachConfirmEnds]; repeat' split
  all_goals repeat first
    | with_reducible exact hg | with_reducible apply setCondition_grew | simpa using hg | simp

theorem verdictPosition_grew (hg : Link.Grew l0 s.link) :
    Link.Grew l0 (verdictPosition s).link := by
  simp only [verdictPosition]
  all_goals repeat first
    | with_reducible exact hg | with_reducible apply reachConfirmEnds_grew | simpa using hg | simp

theorem verdictSlip_grew (hg : Link.Grew l0 s.link) :
    Link.Grew l0 (verdictSlip s).link := by
  simp only [verdictSlip]
  all_goals repeat first
    | with_reducible exact hg | with_reducible apply setCondition_grew | simpa using hg | simp

/-! ### Stations -/

theorem enterOutOfService_grew (hg : Link.Grew l0 s.link) (h : Fin 16) (k : HeadCause) :
    Link.Grew l0 (enterOutOfService h k s).link := by
  simp only [enterOutOfService]
  all_goals repeat first
    | with_reducible exact hg | with_reducible apply headReport_grew | with_reducible apply setCondition_grew
    | simpa using hg | simp

theorem infeedStation_grew (hg : Link.Grew l0 s.link) (h : Fin 16) :
    Link.Grew l0 (infeedStation h s).link := by
  simp only [infeedStation]
  all_goals repeat first
    | with_reducible exact hg | with_reducible apply meetPocket_grew | simpa using hg | simp

theorem probeStation_grew (hg : Link.Grew l0 s.link) (h : Fin 16) :
    Link.Grew l0 (probeStation h s).link := by
  simp only [probeStation]; repeat' split
  all_goals repeat first
    | with_reducible exact hg | with_reducible apply enterProbed_grew | simpa using hg | simp

theorem chargeOpenStation_grew (hg : Link.Grew l0 s.link) (h : Fin 16) :
    Link.Grew l0 (chargeOpenStation h s).link := by
  simp only [chargeOpenStation]; repeat' split
  all_goals repeat first
    | with_reducible exact hg | with_reducible apply chargeDecision_grew | simpa using hg | simp

theorem chargeCloseStation_grew (hg : Link.Grew l0 s.link) (h : Fin 16) :
    Link.Grew l0 (chargeCloseStation h s).link := by
  simp only [chargeCloseStation]
  all_goals repeat first
    | with_reducible exact hg | with_reducible apply closeWindow_grew | with_reducible apply lateDecision_grew
    | simpa using hg | simp

theorem dwellStation_grew (hg : Link.Grew l0 s.link) (h : Fin 16) :
    Link.Grew l0 (dwellStation h s).link := by
  simp only [dwellStation]; repeat' split
  all_goals repeat first
    | with_reducible exact hg | with_reducible apply catchUp_grew | simpa using hg | simp

theorem liftStation_grew (hg : Link.Grew l0 s.link) (h : Fin 16) :
    Link.Grew l0 (liftStation h s).link := by
  simp only [liftStation]; repeat' split
  all_goals repeat first
    | with_reducible exact hg | with_reducible apply catchUp_grew | simpa using hg | simp

theorem handOn_grew (hg : Link.Grew l0 s.link) (h : Fin 16) :
    Link.Grew l0 (handOn h s).link := by
  simp only [handOn]; repeat' split
  all_goals repeat first
    | with_reducible exact hg | with_reducible apply headReport_grew | with_reducible apply departAwaiting_grew
    | simpa using hg | simp

theorem outfeedStation_grew (hg : Link.Grew l0 s.link) (h : Fin 16) :
    Link.Grew l0 (outfeedStation h s).link := by
  simp only [outfeedStation]; repeat' split
  all_goals repeat first
    | with_reducible exact hg | with_reducible apply catchUp_grew | with_reducible apply handOn_grew
    | simpa using hg | simp

theorem goodZero_grew (hg : Link.Grew l0 s.link) (h : Fin 16) (d : Int) :
    Link.Grew l0 (goodZero h d s).link := by
  simp only [goodZero]; repeat' split
  all_goals repeat first
    | with_reducible exact hg | with_reducible apply headReport_grew | simpa using hg | simp

theorem badZero_grew (hg : Link.Grew l0 s.link) (h : Fin 16) :
    Link.Grew l0 (badZero h s).link := by
  simp only [badZero]; repeat' split
  all_goals repeat first
    | with_reducible exact hg | with_reducible apply enterOutOfService_grew | simpa using hg | simp

theorem zeroStation_grew (hg : Link.Grew l0 s.link) (h : Fin 16) :
    Link.Grew l0 (zeroStation h s).link := by
  simp only [zeroStation]; repeat' split
  all_goals repeat first
    | with_reducible exact hg | with_reducible apply goodZero_grew | with_reducible apply badZero_grew
    | simpa using hg | simp

theorem stationPhase_grew (hg : Link.Grew l0 s.link) (h : Fin 16) (st : Station) :
    Link.Grew l0 (stationPhase h st s).link := by
  cases st <;> simp only [stationPhase]
  all_goals repeat first
    | with_reducible exact hg | with_reducible apply infeedStation_grew | with_reducible apply probeStation_grew
    | with_reducible apply chargeOpenStation_grew | with_reducible apply chargeCloseStation_grew
    | with_reducible apply dwellStation_grew | with_reducible apply liftStation_grew
    | with_reducible apply outfeedStation_grew | with_reducible apply zeroStation_grew | simpa using hg | simp

/-! ### Turret -/

theorem takePosition_grew (hg : Link.Grew l0 s.link) (b : Bool) (p : Nat) (x : Taker) :
    Link.Grew l0 (takePosition b p s x).link := by
  cases x with
  | head g =>
    simp only [takePosition]
    split
    · exact foldl_grew _ (fun s st hs => stationPhase_grew hs g st) _ s hg
    · exact hg
  | verdictUnit => exact verdictPosition_grew hg

theorem advance_grew (hg : Link.Grew l0 s.link) (o : List Taker) :
    Link.Grew l0 (advance o s).link := by
  simp only [advance]
  refine foldl_grew _ (fun s x hs => takePosition_grew hs _ _ x) _ _ ?_
  split <;> exact hg

theorem advances_grew (hg : Link.Grew l0 s.link) (o : List Taker) (n : Nat) :
    Link.Grew l0 (advances o n s).link := by
  induction n generalizing s with
  | zero => exact hg
  | succ n ih => exact ih (advance_grew hg o)

theorem moveBy_grew (hg : Link.Grew l0 s.link) (o : List Taker) (d : Int) :
    Link.Grew l0 (moveBy o d s).link := by
  simp only [moveBy]; repeat' split
  all_goals repeat first
    | with_reducible exact hg | with_reducible apply advances_grew | simpa using hg | simp

theorem enterSeeking_grew (hg : Link.Grew l0 s.link) (b : Bool) :
    Link.Grew l0 (enterSeeking b s).link := by
  simp only [enterSeeking]
  all_goals repeat first
    | with_reducible exact hg | with_reducible apply trackerReport_grew | simpa using hg | simp

theorem enterLocked_grew (hg : Link.Grew l0 s.link) :
    Link.Grew l0 (enterLocked s).link := by
  simp only [enterLocked]
  all_goals repeat first
    | with_reducible exact hg | with_reducible apply trackerReport_grew | simpa using hg | simp

theorem enterSlipped_grew (hg : Link.Grew l0 s.link) :
    Link.Grew l0 (enterSlipped s).link := by
  simp only [enterSlipped]
  refine verdictSlip_grew (foldl_grew _ (fun s c hs => ?_) _ _ (foldl_grew _ (fun s g hs => ?_) _ _ ?_))
  · simpa using hs
  · simpa [headSlip] using hs
  · exact setCondition_grew (trackerReport_grew (by simpa using hg)) _

theorem lockedCount_grew (hg : Link.Grew l0 s.link) (o : List Taker) (d : Direction) :
    Link.Grew l0 (lockedCount o d s).link := by
  simp only [lockedCount]; repeat' split
  all_goals repeat first
    | with_reducible exact hg | with_reducible apply advance_grew | with_reducible apply enterSlipped_grew
    | simpa using hg | simp

theorem seekingCount_grew (hg : Link.Grew l0 s.link) (d : Direction) :
    Link.Grew l0 (seekingCount d s).link := by
  simp only [seekingCount]; repeat' split
  all_goals repeat first
    | with_reducible exact hg | simpa using hg | simp

theorem countByState_grew (hg : Link.Grew l0 s.link) (o : List Taker) (d : Direction) :
    Link.Grew l0 (countByState o d s).link := by
  simp only [countByState]; repeat' split
  all_goals repeat first
    | with_reducible exact hg | with_reducible apply enterSeeking_grew | with_reducible apply lockedCount_grew
    | with_reducible apply seekingCount_grew | simpa using hg | simp

theorem lockedIndex_grew (hg : Link.Grew l0 s.link) (o : List Taker) :
    Link.Grew l0 (lockedIndex o s).link := by
  simp only [lockedIndex]; repeat' split
  all_goals repeat first
    | with_reducible exact hg | with_reducible apply moveBy_grew | with_reducible apply enterSlipped_grew
    | simpa using hg | simp

theorem seekingIndex_grew (hg : Link.Grew l0 s.link) :
    Link.Grew l0 (seekingIndex s).link := by
  simp only [seekingIndex]; repeat' split
  all_goals repeat first
    | with_reducible exact hg | with_reducible apply enterLocked_grew | simpa using hg | simp

theorem indexByState_grew (hg : Link.Grew l0 s.link) (o : List Taker) :
    Link.Grew l0 (indexByState o s).link := by
  simp only [indexByState]; repeat' split
  all_goals repeat first
    | with_reducible exact hg | with_reducible apply enterSeeking_grew | with_reducible apply lockedIndex_grew
    | with_reducible apply seekingIndex_grew | simpa using hg | simp

theorem startMotion_grew (hg : Link.Grew l0 s.link) :
    Link.Grew l0 (startMotion s).link := by
  simp only [startMotion]; repeat' split
  all_goals repeat first
    | with_reducible exact hg | with_reducible apply trackerReport_grew | simpa using hg | simp

theorem takeCount_grew (hg : Link.Grew l0 s.link) (d : Direction) (i : Bool) (o : List Taker) :
    Link.Grew l0 (takeCount d i o s).link := by
  simp only [takeCount]; repeat' split
  all_goals repeat first
    | with_reducible exact hg | with_reducible apply countByState_grew | with_reducible apply indexByState_grew
    | with_reducible apply startMotion_grew | simpa using hg | simp

end Sys2Proof.Machine
end

