-- ==== Sys2Proof/Laws/Arbiter.lean ====
section
/-! SUPPORT. What offers, judgements and charge decisions leave as it was: each cylinder that is not READY, and each
head's window, decision and holding (spec/05 R101, spec/07 R123). -/

namespace Sys2Proof.Machine

theorem lowestReady_none (s : State) (h : ∀ c : Fin 4, s.cylinders[c].state ≠ .ready) : lowestReady s = none := by
  unfold lowestReady
  rw [List.find?_eq_none]
  intro c _; simpa using h c

theorem lowestReady_some (s : State) (c : Fin 4) (h : s.cylinders[c].state = .ready) (ho : ∀ d : Fin 4, d < c →
    s.cylinders[d].state ≠ .ready) : lowestReady s = some c := by
  unfold lowestReady
  rw [show allCylinders = [0,1,2,3] from by decide]
  have g : ∀ d : Fin 4, d < c → (s.cylinders[d].state == CylState.ready) = false := by intro d hd; simpa using ho d hd
  have hc : (s.cylinders[c].state == CylState.ready) = true := by simpa using h
  match c, g, hc with
  | 0, g, hc => simp only [List.find?, hc]
  | 1, g, hc => simp only [List.find?, g 0 (by decide), hc]
  | 2, g, hc => simp only [List.find?, g 0 (by decide), g 1 (by decide), hc]
  | 3, g, hc => simp only [List.find?, g 0 (by decide), g 1 (by decide), g 2 (by decide), hc]

/-- A place of a vector after one place is set. -/
theorem getFin_set {α} {n : Nat} (v : Vector α n) (i : Fin n) (a : α) (j : Fin n) : (v.set i a)[j] = if i =
    j then a else v[j] := by
  simp [Vector.getElem_set, Fin.ext_iff]

/-- Cylinders that are not READY, windows, decisions and holdings stand. -/
structure Kept (s t : State) : Prop where
  cyl : ∀ c : Fin 4, s.cylinders[c].state ≠ .ready → t.cylinders[c] = s.cylinders[c]
  win : ∀ h : Fin 16, t.heads[h].window = s.heads[h].window
  dec : ∀ h : Fin 16, t.heads[h].decided = s.heads[h].decided
  rc : ∀ h : Fin 16, t.heads[h].record.isSome = s.heads[h].record.isSome

theorem Kept.refl (s : State) : Kept s s := ⟨fun _ _ => rfl, fun _ => rfl, fun _ => rfl, fun _ => rfl⟩

theorem Kept.trans {s t u : State} (a : Kept s t) (b : Kept t u) : Kept s u :=
  ⟨fun c h => by rw [b.cyl c (by rw [a.cyl c h]; exact h), a.cyl c h], fun h => (b.win h).trans (a.win h),
   fun h => (b.dec h).trans (a.dec h), fun h => (b.rc h).trans (a.rc h)⟩

theorem Kept.of_heads (s : State) (t : State) (hc : t.cylinders = s.cylinders) (h : ∀ g :
    Fin 16, t.heads[g].window = s.heads[g].window ∧ t.heads[g].decided = s.heads[g].decided ∧
    t.heads[g].record.isSome = s.heads[g].record.isSome) : Kept s t :=
  ⟨fun c _ => by rw [hc], fun g => (h g).1, fun g => (h g).2.1, fun g => (h g).2.2⟩

theorem kept_modHead (s : State) (h : Fin 16) (f : Head → Head) (hf : ∀ x, (f x).window = x.window ∧ (f x).decided =
    x.decided ∧ (f x).record.isSome = x.record.isSome) : Kept s (s.modHead h f) := by
  refine Kept.of_heads _ _ rfl fun g => ?_
  have := getFin_set s.heads h (f s.heads[h]) g
  show (s.heads.set h (f s.heads[h]))[g].window = _ ∧ _
  unfold State.modHead; simp only [this]
  by_cases e : h = g
  · subst e; simp only [if_true]; exact hf _
  · simp only [e, if_false]; exact ⟨trivial, trivial, trivial⟩

theorem kept_addReason (h : Fin 16) (k : Reason) (s : State) : Kept s (addReason h k s) := by
  refine Kept.of_heads _ _ (by simp) fun g => ?_
  rw [addReason_heads]
  by_cases e : h = g
  · subst e; simp only [if_true]; unfold Head.withReason; split <;> simp_all <;> split <;> simp_all
  · simp only [e, if_false]; simp

theorem kept_judgeDose (h : Fin 16) (s : State) : Kept s (judgeDose h s) := by
  unfold judgeDose
  split
  · exact .refl _
  · split
    · exact .refl _
    · split
      · exact .refl _
      · split
        · exact kept_addReason _ _ _
        · split
          · exact kept_addReason _ _ _
          · exact .refl _

theorem kept_withdraw (h : Fin 16) (s : State) : Kept s (withdraw h s)
    := ⟨fun _ _ => rfl, fun _ => rfl, fun _ => rfl, fun _ => rfl⟩

theorem kept_grant (h : Fin 16) (c : Fin 4) (i : Fin 2) (t : Int) (s : State) (hc : s.cylinders[c].state = .ready) :
    Kept s (grant h c i t s) := by
  unfold grant
  refine Kept.trans (t := (withdraw h s).modCyl c fun x => { x.enter .discharging with owner := some h, shot := some (newShot s h c i t) }) ⟨fun d hd => ?_, fun _ => rfl, fun _ => rfl, fun _ => rfl⟩ (kept_modHead _ _ _ fun _ => ⟨rfl, rfl, rfl⟩)
  unfold State.modCyl
  show (s.cylinders.set c _)[d] = _
  rw [getFin_set]
  rw [if_neg]
  rintro rfl; exact hd hc

theorem kept_offer (h : Fin 16) (c : Fin 4) (s : State) (hc : s.cylinders[c].state = .ready) : Kept s (offer h c s)
    := by
  unfold offer
  split
  · exact kept_withdraw _ _
  · split
    · exact kept_withdraw _ _
    · split
      · exact kept_grant _ _ _ _ _ hc
      · exact ((kept_withdraw h s).trans (kept_modHead (withdraw h s) h (fun x => { x with cycle := .charged, pendingResult := none }) fun _ => ⟨rfl, rfl, rfl⟩)).trans (kept_judgeDose _ _)

theorem kept_offers (n : Nat) : ∀ s : State, Kept s (offers n s) := by
  induction n with
  | zero => intro s; exact .refl _
  | succ n ih =>
    intro s
    unfold offers
    split
    · rename_i h q c e1 e2
      have : s.cylinders[c].state = .ready := by
        have := List.find?_some e2; simpa using this
      exact (kept_offer _ _ _ this).trans (ih _)
    · exact .refl _

theorem kept_arbitrate (s : State) : Kept s (arbitrate s) := kept_offers _ _

theorem Kept.of_eq (s t : State) (hc : t.cylinders = s.cylinders) (hh : t.heads = s.heads) : Kept s t :=
  Kept.of_heads s t hc (by intro g; rw [hh]; exact ⟨rfl, rfl, rfl⟩)

theorem kept_modRecord (h : Fin 16) (f) (s : State) : Kept s (modRecord h f s)
    := kept_modHead _ _ _ fun x => ⟨rfl, rfl, by cases x.record <;> rfl⟩

theorem kept_writeBasis (h : Fin 16) (x : Settlement) (r : Recipe) (s : State) : Kept s (writeBasis h x r s) := by
  unfold writeBasis
  cases x with
  | mass b m => simp only []; split <;> exact kept_modRecord _ _ _
  | reason k => simp only []; exact (kept_addReason _ _ _).trans (kept_modRecord _ _ _)

theorem kept_settleUnbound (h : Fin 16) (q : Nat) (s : State) : Kept s (settleUnbound h q s)
    := Kept.of_eq _ _ (by simp) (by simp)

theorem kept_requestGas (h : Fin 16) (s : State) : Kept s (requestGas h s) := by
  unfold requestGas
  refine Kept.trans ?_ (kept_arbitrate _)
  unfold joinQueue
  exact Kept.trans (t := s.modGrants fun q => if h ∈ q then q else q ++ [h]) (Kept.of_eq _ _ rfl rfl) (kept_modHead _ _ _ fun _ => ⟨rfl, rfl, rfl⟩)

/-- After a charge decision the head's window and holding stand, and the decision of a held can is taken. -/
theorem chargeDecision_keeps (h : Fin 16) (s : State) : (chargeDecision h s).heads[h].window = s.heads[h].window ∧
    (chargeDecision h s).heads[h].record.isSome = s.heads[h].record.isSome ∧ (s.heads[h].record.isSome →
    (chargeDecision h s).heads[h].decided = true) := by
  unfold chargeDecision
  split
  · rename_i hr; rw [hr]; exact ⟨rfl, rfl, fun x => nomatch x⟩
  · rename_i r hr
    split
    · rename_i hd; exact ⟨rfl, rfl, fun _ => hd⟩
    · simp only []
      have k1 := (kept_settleUnbound h r.seq s).trans (kept_writeBasis h (settlementOf r (slotRecipe s r.slot)) (slotRecipe s r.slot) (settleUnbound h r.seq s))
      generalize writeBasis h (settlementOf r (slotRecipe s r.slot)) (slotRecipe s r.slot) (settleUnbound h r.seq s) = u at k1
      have e2 : (u.modHead h fun x => { x with decided := true }).heads[h] = { u.heads[h] with decided := true } := by simp [State.modHead]
      have k3 : Kept (u.modHead h fun x => { x with decided := true }) (if (u.modHead h fun x => { x with decided := true }).heads[h].marked then (u.modHead h fun x => { x with decided := true }).modHead h fun x => { x with cycle := .charged, pendingResult := none } else requestGas h (u.modHead h fun x => { x with decided := true })) := by
        split
        · exact kept_modHead _ _ _ fun _ => ⟨rfl, rfl, rfl⟩
        · exact kept_requestGas _ _
      refine ⟨?_, ?_, fun _ => ?_⟩
      · rw [k3.win, e2]; exact k1.win h
      · rw [k3.rc, e2]; exact k1.rc h
      · rw [k3.dec, e2]

end Sys2Proof.Machine
end

