-- ==== Sys2Proof/Laws/Codec.lean ====
section
/-! SUPPORT. Little-endian numbers and the values of masked fields: what is written is read back. -/

namespace Sys2Proof

@[simp] theorem leBytes_length (n v : Nat) : (leBytes n v).length = n := by
  induction n generalizing v with
  | zero => rfl
  | succ n ih => simp [leBytes, ih]

/-- The bytes of a number that fits them spell it. -/
theorem leNat_leBytes (n v : Nat) (h : v < 256 ^ n) : leNat (leBytes n v) = v := by
  induction n generalizing v with
  | zero => simp at h; simp [leBytes, leNat, h]
  | succ n ih =>
    rw [Nat.pow_succ] at h
    have hv : v / 256 < 256 ^ n := by
      apply Nat.div_lt_of_lt_mul; rw [Nat.mul_comm]; exact h
    simp only [leBytes, leNat, ih _ hv, BitVec.toNat_ofNat]
    omega

/-- A list of bytes spells a number below 256 to its length. -/
theorem leNat_lt (bs : List Byte) : leNat bs < 256 ^ bs.length := by
  induction bs with
  | nil => simp [leNat]
  | cons b bs ih =>
    simp only [leNat, List.length_cons, Nat.pow_succ]
    have := b.isLt
    omega

/-- Values that fit their fields, written one after another, are parsed back. -/
theorem parseValues_valueBytes (width : Nat → Nat) (fs vs : List Nat) (h : valuesFit width fs vs = true) :
    parseValues width fs (valueBytes width fs vs) = some vs := by
  induction fs generalizing vs with
  | nil =>
    cases vs with
    | nil => rfl
    | cons v vs => simp [valuesFit] at h
  | cons f fs ih =>
    cases vs with
    | nil => simp [valuesFit] at h
    | cons v vs =>
      simp only [valuesFit, Bool.and_eq_true, decide_eq_true_eq] at h
      simp only [valueBytes, parseValues, List.length_append, leBytes_length]
      rw [if_neg (by omega), List.drop_left' (by simp), List.take_left' (by simp), ih vs h.2, leNat_leBytes _ _ h.1]
      rfl

/-- Values that fit their fields are as many as the fields. -/
theorem valuesFit_length (width : Nat → Nat) (fs vs : List Nat) (h : valuesFit width fs vs = true) :
    vs.length = fs.length := by
  induction fs generalizing vs with
  | nil => cases vs <;> simp_all [valuesFit]
  | cons f fs ih =>
    cases vs with
    | nil => simp [valuesFit] at h
    | cons v vs =>
      simp only [valuesFit, Bool.and_eq_true] at h
      simp [ih vs h.2]

/-- Parsed values fit their fields. -/
theorem valuesFit_of_parse (width : Nat → Nat) (fs : List Nat) (bs : List Byte) (vs : List Nat)
    (h : parseValues width fs bs = some vs) : valuesFit width fs vs = true := by
  induction fs generalizing bs vs with
  | nil =>
    cases bs with
    | nil => simp [parseValues] at h; subst h; rfl
    | cons b bs => simp [parseValues] at h
  | cons f fs ih =>
    simp only [parseValues] at h
    split at h
    · cases h
    · rename_i hl
      cases hp : parseValues width fs (bs.drop (width f)) with
      | none => simp [hp] at h
      | some ws =>
        simp [hp] at h; subst h
        simp only [valuesFit, Bool.and_eq_true, decide_eq_true_eq]
        refine ⟨?_, ih _ _ hp⟩
        have := leNat_lt (bs.take (width f))
        rwa [List.length_take, Nat.min_eq_left (by omega)] at this

end Sys2Proof
end

