-- ==== Sys2Proof/Laws/Arrival.lean ====
section
/-! SUPPORT. What the arrival of a good frame does, once for a link that is ready and once for one that is not (spec/11
R175), and which request each request command brings. -/

namespace Sys2Proof.Machine

/-- A frame that arrives at a ready link is taken at once. -/
theorem arrive_ready (f : Frame) (s : State) (h : LinkReady s) : arrive f s = takeRequest f s := by
  obtain ⟨hr, ht, hp⟩ := h
  have h2 : bufferFrame f s = s.modLink fun l => { l with rx := l.rx ++ [f] } := by
    unfold bufferFrame; rw [if_pos (by simp [hr, receiveRoom])]
  have h3 : (s.modLink fun l => { l with rx := l.rx ++ [f] }).modLink (fun l => { l with rx := [] }) = s := by
    obtain ⟨_, _, _, _, _, _, _, _, _, _, _, _, ⟨_, _, _, _, _, _⟩, _, _⟩ := s
    simp only [State.modLink] at hr ⊢
    simp [hr]
  unfold arrive testBuffer
  rw [h2]
  simp only [State.modLink_link, hr, List.nil_append, List.length_singleton, takeRequests]
  rw [if_pos (by simp [mayTake, transmitRoom, ht, hp])]
  simpa [hr] using congrArg (takeRequest f) h3

/-- While no transmit place is free, or a restart is pending, nothing is taken. -/
theorem testBuffer_busy (s : State) (h : s.link.tx.length = 8 ∨ s.link.restartPending = true) : testBuffer s = s := by
  have hm : mayTake s = false := by
    rcases h with h | h <;> simp [mayTake, transmitRoom, h]
  unfold testBuffer
  cases s.link.rx.length with
  | zero => rfl
  | succ n =>
    unfold takeRequests
    split
    · rw [if_neg (by simp [hm])]
    · rfl

/-- A frame that arrives then waits in the receive buffer, or is discarded. -/
theorem arrive_busy (f : Frame) (s : State) (h : s.link.tx.length = 8 ∨ s.link.restartPending = true) :
    arrive f s = bufferFrame f s := by
  refine testBuffer_busy _ ?_
  unfold bufferFrame
  split
  · exact h
  · rw [(setCondition_grew (Link.Grew.refl s.link) .linkFrameError).eq_of_full h]
    exact h

/-- A request command is the arrival of the frame that carries its request; READ_HEAD shows its sensor levels first. -/
theorem exec_request (c : Instr) (r : Request) (s : State) (hc : c.request = some r) :
    exec c s = .next (arrive (encodeRequest r) (match c with | .readHead _ v => s.setSensors v | _ => s)) := by
  cases c <;> simp only [Instr.request, Option.some.injEq, reduceCtorEq] at hc <;> subst hc <;> rfl

end Sys2Proof.Machine
end

