-- ==== Sys2Proof/Laws/Bank.lean ====
section
/-! SUPPORT. The refill of the whole bank as one map over its cylinders (spec/05 R89, R93), the slot references, and the
awaiting list (spec/03 R62). -/

namespace Sys2Proof.Machine

/-- A conditional whose condition holds. -/
theorem ite_of_pos {α : Type} {c : Prop} [Decidable c] {a b x : α} (h : c) (e : a = x) : (if c then a else b) =
    x := (if_pos h).trans e

/-- A conditional whose condition fails. -/
theorem ite_of_neg {α : Type} {c : Prop} [Decidable c] {a b x : α} (h : ¬c) (e : b = x) : (if c then a else b) =
    x := (if_neg h).trans e

/-- One update made at every cylinder in turn. -/
theorem foldl_modCyl_eq (s : State) (f : Cylinder → Cylinder) :
   (allCylinders.foldl (fun s c => s.modCyl c f) s) = { s with cylinders := Vector.ofFn fun c => f s.cylinders[c] } := by
  simp only [allCylinders]
  rw [show List.finRange 4 = [0,1,2,3] from by decide]
  simp only [List.foldl_cons, List.foldl_nil, State.modCyl]
  congr 1
  ext i hi
  have : i = 0 ∨ i = 1 ∨ i = 2 ∨ i = 3 := by omega
  rcases this with rfl | rfl | rfl | rfl <;> simp

/-- One update made at every cylinder in turn is a map. -/
theorem foldl_modCyl (s : State) (f : Cylinder → Cylinder) :
   (allCylinders.foldl (fun s c => s.modCyl c f) s) = { s with cylinders := s.cylinders.map f } := by
  rw [foldl_modCyl_eq]; congr 1; ext i hi; simp

theorem activeFillPressure_some (s : State) (i : Fin 2) (h : activeSlot s = some i) : activeFillPressure s =
    some (fillPressure (slotRecipe s i)) := by
  unfold activeFillPressure; rw [h]; rfl

theorem activeFillPressure_none (s : State) (h : activeSlot s = none) : activeFillPressure s = none := by
  unfold activeFillPressure; rw [h]; rfl

theorem refillCondition_iff (s : State) : refillCondition s = true ↔ (∃ i : Fin 2, s.slots[i].state = .active) ∧
    s.gas.standby = .active := by
  unfold refillCondition activeSlot
  rw [Bool.and_eq_true, beq_iff_eq]
  rw [List.find?_isSome]
  simp [allSlots]

theorem topUp_eq (s : State) (c : Fin 4) (p1 : Nat) (h : activeFillPressure s = some p1) : topUp c s =
   if s.cylinders[c].state = .ready ∧ refillCondition s = true ∧ (s.cylinders[c].pressure : Int) < (p1 : Int) - (topUpBand s.config : Int) then enterRefilling c s else s := by
  unfold topUp; rw [h]

/-- A cylinder after the bank has been tested for refill. -/
def Cylinder.refilledBy (rc : Bool) (p1 : Nat) (cfg : MachineConfig) (x : Cylinder) : Cylinder :=
  if rc ∧ (x.state = .idle ∨ x.state = .ready ∧ (x.pressure : Int) < (p1 : Int) - (topUpBand cfg : Int)) then
    { x.enter .refilling with refillTimer := .running (refillTimeout cfg) } else x

theorem refillIdle_topUp (s : State) (c : Fin 4) (p1 : Nat) (h : activeFillPressure s = some p1) :
    topUp c (refillIdle c s) = s.modCyl c (Cylinder.refilledBy (refillCondition s) p1 s.config) := by
  have hm : s.modCyl c (fun x => x) = s := by
    unfold State.modCyl
    have : s.cylinders.set c s.cylinders[c] = s.cylinders := by
      ext k hk; simp
    rw [this]
  unfold refillIdle
  by_cases h1 : s.cylinders[c].state = .idle ∧ refillCondition s = true
  · rw [if_pos h1]
    have : activeFillPressure (enterRefilling c s) = some p1 := h
    rw [topUp_eq _ c p1 this, if_neg (by simp [enterRefilling, Cylinder.enter])]
    unfold enterRefilling State.modCyl
    congr 2
    unfold Cylinder.refilledBy
    rw [if_pos ⟨h1.2, .inl h1.1⟩]
  · rw [if_neg h1, topUp_eq _ c p1 h]
    by_cases h2 : s.cylinders[c].state = .ready ∧ refillCondition s = true ∧ (s.cylinders[c].pressure : Int) < (p1 : Int) - (topUpBand s.config : Int)
    · rw [if_pos h2]
      unfold enterRefilling State.modCyl
      congr 2
      unfold Cylinder.refilledBy
      rw [if_pos ⟨h2.2.1, .inr ⟨h2.1, h2.2.2⟩⟩]
    · rw [if_neg h2]
      conv_lhs => rw [← hm]
      unfold State.modCyl
      congr 2
      unfold Cylinder.refilledBy
      rw [if_neg]
      rintro ⟨a, b | b⟩
      · exact h1 ⟨b, a⟩
      · exact h2 ⟨b.1, a, b.2⟩

/-- Every cylinder tested for refill under the ACTIVE slot's fill pressure. -/
theorem refillBank_eq (s : State) (p1 : Nat) (h : activeFillPressure s = some p1) : refillBank s =
    { s with cylinders := s.cylinders.map (Cylinder.refilledBy (refillCondition s) p1 s.config) } := by
  unfold refillBank
  rw [← foldl_modCyl]
  have : ∀ (l : List (Fin 4)) (t : State), activeFillPressure t = some p1 → refillCondition t = refillCondition s → t.config = s.config →
      l.foldl (fun s c => topUp c (refillIdle c s)) t = l.foldl (fun u c => u.modCyl c (Cylinder.refilledBy (refillCondition s) p1 s.config)) t := by
    intro l
    induction l with
    | nil => intro t _ _ _; rfl
    | cons c l ih =>
      intro t h1 h2 h3
      simp only [List.foldl_cons]
      rw [refillIdle_topUp t c p1 h1, h2, h3]
      exact ih _ h1 h2 h3
  exact this _ s h rfl rfl

/-- With no slot ACTIVE no cylinder refills. -/
theorem refillBank_none (s : State) (h : activeSlot s = none) : refillBank s = s := by
  have hr : refillCondition s = false := by unfold refillCondition; rw [h]; rfl
  have one : ∀ c, topUp c (refillIdle c s) = s := by
    intro c
    have : refillIdle c s = s := if_neg (by rw [hr]; simp)
    rw [this]
    unfold topUp; rw [activeFillPressure_none s h]
  unfold refillBank
  have : ∀ l : List (Fin 4), l.foldl (fun s c => topUp c (refillIdle c s)) s = s := by
    intro l
    induction l with
    | nil => rfl
    | cons c l ih => rw [List.foldl_cons, one, ih]
  exact this _

/-- The settled cans at the head of the awaiting list, and the rest. -/
theorem dropSettled_eq (l : List AwaitEntry) : dropSettled l =
    (((l.takeWhile AwaitEntry.settled).map AwaitEntry.debt).sum, l.dropWhile AwaitEntry.settled) := by
  induction l with
  | nil => rfl
  | cons e es ih =>
    unfold dropSettled
    by_cases h : e.settled = true
    · rw [if_pos h, ih, List.takeWhile_cons_of_pos h, List.dropWhile_cons_of_pos h]; rfl
    · rw [if_neg h, List.takeWhile_cons_of_neg h, List.dropWhile_cons_of_neg h]; rfl

/-- With the oldest can not settled nothing leaves the list. -/
theorem dropSettled_none (l : List AwaitEntry) (h : ∀ a ∈ l.head?, a.settled = false) : dropSettled l = (0, l) := by
  cases l with
  | nil => rfl
  | cons a l => unfold dropSettled; rw [if_neg (by simp [h a (by simp)])]

/-- With the oldest can not settled, and nothing owed, nothing is released. -/
theorem releaseSettled_none (s : State) (h : ∀ a ∈ s.infeed.awaiting.head?, a.settled = false) (hd : s.infeed.debt ≤ 16) :
    releaseSettled 0 s = s := by
  have e := dropSettled_none s.infeed.awaiting h
  unfold releaseSettled
  rw [e]
  unfold raiseDebt
  have hm : (s.modInfeed fun i => { i with awaiting := (dropSettled i.awaiting).2 }) = s := by
    unfold State.modInfeed; simp only [e]
  rw [hm, if_pos (by simpa [debtLimit] using hd)]
  rfl

/-- A can that does not stand in the awaiting list takes no entry out of it. -/
theorem departAwaiting_none (h : Fin 16) (q : Nat) (s : State)
    (hn : ∀ a ∈ s.infeed.awaiting, ¬(a.head = h ∧ a.seq = q)) : departAwaiting h q s = s := by
  unfold departAwaiting
  rw [if_neg (by simpa using hn)]

/-- The entry of a can that stands behind another one is taken out, and the one before it owes its debt. -/
theorem dropDeparted_owed (h : Fin 16) (q : Nat) : ∀ (before rest : List AwaitEntry) (a e : AwaitEntry),
    (∀ b ∈ before ++ [a], ¬(b.head = h ∧ b.seq = q)) → e.head = h ∧ e.seq = q →
    dropDeparted h q (before ++ a :: e :: rest) = (0, before ++ { a with owed := a.owed + e.debt } :: rest) := by
  intro before
  induction before with
  | nil =>
    intro rest a e hb he
    have ha := hb a (by simp)
    simp only [List.nil_append, dropDeparted, if_neg ha, if_pos he]
  | cons b bs ih =>
    intro rest a e hb he
    have h1 := hb b (by simp)
    simp only [List.cons_append, dropDeparted, if_neg h1]
    rw [ih rest a e (fun c hc => hb c (by simp only [List.cons_append, List.mem_cons]; exact .inr hc)) he]
    rfl

/-- A slot loses a reference (spec/09 R158). -/
theorem dropReference_eq (i : Fin 2) (s : State) : dropReference i s =
   if s.slots[i].state = .retiring ∧ s.slots[i].refs ≤ 1 then { s with
        slots := s.slots.set i { s.slots[i] with state := .free, recipe := none, refs := 0 }
        allowances := s.allowances.set i #v[0, 0, 0, 0] }
      else { s with slots := s.slots.set i { s.slots[i] with refs := s.slots[i].refs - 1 } } := by
  unfold dropReference
  have e : (s.modSlot i fun x => { x with refs := x.refs - 1 }).slots[i] = { s.slots[i] with refs := s.slots[i].refs - 1 } := by simp [State.modSlot]
  simp only [e]
  by_cases h : s.slots[i].state = .retiring ∧ s.slots[i].refs ≤ 1
  · refine (ite_of_pos ⟨h.1, by show s.slots[i].refs - 1 = 0; omega⟩ ?_).trans (if_pos h).symm
    have : s.slots[i].refs - 1 = 0 := by omega
    simp [State.modSlot, State.setSlotAllowances]
    have h2 : s.slots[i.val].refs - 1 = 0 := this
    rw [h2]
    exact ⟨rfl, rfl⟩
  · refine (ite_of_neg ?_ ?_).trans (if_neg h).symm
    · rintro ⟨a, b⟩; exact h ⟨a, by have : s.slots[i].refs - 1 = 0 := b; omega⟩
    · rfl

theorem withoutFired_eq : ∀ (before rest : List RejectEntry) (e : RejectEntry), e.fired = true →
    (∀ d ∈ before, d.fired = false) → withoutFired (before ++ e :: rest) = before ++ rest := by
  intro before
  induction before with
  | nil => intro rest e h _; simp [withoutFired, h]
  | cons b bs ih =>
    intro rest e h hb
    have := hb b (by simp)
    simp only [List.cons_append, withoutFired, this]
    rw [ih rest e h (fun d hd => hb d (by simp [hd]))]
    simp

end Sys2Proof.Machine
end

