-- ==== Sys2Proof/Laws/Density.lean ====
section
/-! SUPPORT. The density at a pressure and the cut-off pressure of a shot, for a gas table that may be in force
(spec/06 R109, R110, R115). -/

namespace Sys2Proof.Machine

/-- A point of the gas table. -/
theorem tablePoint_eq (t : GasTable) (i : Nat) (hi : i < 17) : tablePoint t i = (t.points[i]'hi : Nat) := by
  unfold tablePoint
  congr 1
  rw [List.getD_eq_getElem _ _ (by simpa using hi)]
  simp

/-- Each point of the table lies above the one before it. -/
theorem tablePoint_rises (t : GasTable) (ht : GasTableSafe t) (i : Nat) (hi : i < 16) :
    tablePoint t i + 1 ≤ tablePoint t (i + 1) := by
  rw [tablePoint_eq t i (by omega), tablePoint_eq t (i+1) (by omega)]
  have := ht.2 ⟨i, hi⟩
  simp only at this
  omega

/-- The density between two points of the table (spec/06 R110). -/
theorem density_segment (t : GasTable) (ht : GasTableSafe t) (i k : Nat) (hi : i < 16) (hk : k < 250) :
    density t (250 * i + k) = tablePoint t i + (tablePoint t (i+1) - tablePoint t i) * k / 250 := by
  unfold density
  rw [if_neg (by omega), show (250 * i + k) / 250 = i by omega, show (250 * i + k) % 250 = k by omega]
  have := tablePoint_rises t ht i hi
  rw [Int.tdiv_eq_ediv_of_nonneg (Int.mul_nonneg (by omega) (by omega))]

/-- The density at and above 4000 kPa. -/
theorem density_top (t : GasTable) (p : Nat) (h : 4000 ≤ p) : density t p = tablePoint t 16 := if_pos h

/-- Between two points the density stays at or above the lower and below the upper. -/
theorem density_segment_bounds (t : GasTable) (ht : GasTableSafe t) (i k : Nat) (hi : i < 16) (hk : k < 250) :
    tablePoint t i ≤ density t (250 * i + k) ∧ density t (250 * i + k) < tablePoint t (i + 1) := by
  rw [density_segment t ht i k hi hk]
  have h1 := tablePoint_rises t ht i hi
  have h2 : 0 ≤ (tablePoint t (i+1) - tablePoint t i) * (k : Int) := Int.mul_nonneg (by omega) (by omega)
  have h3 : (tablePoint t (i+1) - tablePoint t i) * (k : Int) ≤ (tablePoint t (i+1) - tablePoint t i) * 249 := Int.mul_le_mul_of_nonneg_left (by omega) (by omega)
  generalize (tablePoint t (i+1) - tablePoint t i) * (k : Int) = x at *
  omega

/-- One kPa more never lowers the density. -/
theorem density_step (t : GasTable) (ht : GasTableSafe t) (p : Nat) : density t p ≤ density t (p + 1) := by
  by_cases h : 4000 ≤ p
  · rw [density_top t p h, density_top t (p+1) (by omega)]
  · by_cases h2 : p = 3999
    · subst h2
      rw [density_top t (3999 + 1) (by omega)]
      have := (density_segment_bounds t ht 15 249 (by omega) (by omega)).2
      exact Int.le_of_lt this
    · have hp : p = 250 * (p / 250) + p % 250 := by omega
      have hi : p / 250 < 16 := by omega
      by_cases h3 : p % 250 = 249
      · have e : p + 1 = 250 * (p / 250 + 1) + 0 := by omega
        have a := (density_segment_bounds t ht (p / 250) (p % 250) hi (by omega)).2
        have b := (density_segment_bounds t ht (p / 250 + 1) 0 (by omega) (by omega)).1
        rw [← hp] at a; rw [← e] at b; omega
      · have e : p + 1 = 250 * (p / 250) + (p % 250 + 1) := by omega
        rw [e, density_segment t ht _ _ hi (by omega)]
        conv_lhs => rw [hp, density_segment t ht _ _ hi (by omega)]
        have h1 := tablePoint_rises t ht _ hi
        have : (tablePoint t (p/250+1) - tablePoint t (p/250)) * ((p % 250 : Nat) : Int) ≤ (tablePoint t (p/250+1) - tablePoint t (p/250)) * ((p % 250 + 1 : Nat) : Int) := Int.mul_le_mul_of_nonneg_left (by omega) (by omega)
        have := Int.ediv_le_ediv (c := 250) (by omega) this
        omega

/-- The density does not fall as the pressure rises. -/
theorem density_mono (t : GasTable) (ht : GasTableSafe t) (p q : Nat) (h : p ≤ q) : density t p ≤ density t q := by
  induction q with
  | zero => have : p = 0 := by omega
            subst this; exact Int.le_refl _
  | succ q ih =>
    by_cases e : p = q + 1
    · subst e; exact Int.le_refl _
    · exact Int.le_trans (ih (by omega)) (density_step t ht q)

/-- The fold of segmentOf keeps the highest point met that is not above the density. -/
theorem segment_fold (t : GasTable) (rho : Int) : ∀ n best, best ≤ 15 → tablePoint t best ≤ rho → n ≤ 16 →
    let f := (List.range n).foldl (fun best i => if tablePoint t i ≤ rho then i else best) best
    f ≤ 15 ∧ tablePoint t f ≤ rho ∧ ∀ i, i < n → tablePoint t i ≤ rho → i ≤ f := by
  intro n
  induction n with
  | zero => intro best h1 h2 _; exact ⟨h1, h2, fun i hi => by omega⟩
  | succ n ih =>
    intro best h1 h2 hn
    have := ih best h1 h2 (by omega)
    simp only [List.range_succ, List.foldl_append, List.foldl_cons, List.foldl_nil] at this ⊢
    obtain ⟨a, b, c⟩ := this
    by_cases e : tablePoint t n ≤ rho
    · rw [if_pos e]; exact ⟨by omega, e, fun i hi _ => by omega⟩
    · rw [if_neg e]
      refine ⟨a, b, fun i hi hr => ?_⟩
      by_cases e2 : i = n
      · subst e2; exact absurd hr e
      · exact c i (by omega) hr

/-- The segment of a density: the highest point at or below it. -/
theorem segmentOf_spec (t : GasTable) (rho : Int) (h0 : tablePoint t 0 ≤ rho) : segmentOf t rho ≤ 15 ∧
    tablePoint t (segmentOf t rho) ≤ rho ∧ ∀ i, i < 16 → tablePoint t i ≤ rho → i ≤ segmentOf t rho := by
  obtain ⟨a, b, c⟩ := segment_fold t rho 16 0 (by omega) h0 (by omega)
  exact ⟨a, b, c⟩

/-- The cut-off pressure is the lowest pressure whose density is at or above the cut-off density (spec/06 R115). -/
theorem cutoffOf_spec (t : GasTable) (ht : GasTableSafe t) (floor : Nat) (rho : Int) (h1 : density t floor ≤ rho)
    (h2 : rho ≤ tablePoint t 16) :
   (cutoffOf t floor rho).2 = false ∧ rho ≤ density t (cutoffOf t floor rho).1 ∧ ∀ q : Nat, q < (cutoffOf t floor rho).1 → density t q < rho := by
  have h0 : tablePoint t 0 ≤ rho := by
    have a := density_mono t ht 0 floor (by omega)
    have b := (density_segment_bounds t ht 0 0 (by omega) (by omega)).1
    have : density t (250 * 0 + 0) = density t 0 := rfl
    omega
  obtain ⟨s1, s2, s3⟩ := segmentOf_spec t rho h0
  unfold cutoffOf
  rw [if_neg (by omega)]
  simp only []
  generalize segmentOf t rho = i at *
  have hΔ := tablePoint_rises t ht i (by omega)
  have hup : rho ≤ tablePoint t (i + 1) := by
    by_cases e : i = 15
    · subst e; exact h2
    · by_contra hc
      have := s3 (i+1) (by omega) (by omega)
      omega
  have hlt : i < 15 → rho < tablePoint t (i + 1) := by
    intro e
    by_contra hc
    have := s3 (i+1) (by omega) (by omega)
    omega
  set D := tablePoint t (i + 1) - tablePoint t i with hD
  set X := (rho - tablePoint t i) * 250 with hX
  have hDpos : 0 < D := by omega
  have hX0 : 0 ≤ X := by omega
  have hXD : X ≤ D * 250 := by
    have : rho - tablePoint t i ≤ D := by omega
    calc X = (rho - tablePoint t i) * 250 := rfl
      _ ≤ D * 250 := by omega
  let k := ceilDiv X D
  have hk1 : X ≤ k * D := by
    show X ≤ -(-X / D) * D
    have h3 : -X / D * D ≤ -X := Int.ediv_mul_le (-X) (by omega)
    have e : -(-X / D) * D = -(-X / D * D) := Int.neg_mul ..
    omega
  have hk2 : (k - 1) * D < X := by
    show (-(-X / D) - 1) * D < X
    have h3 : -X < (-X / D + 1) * D := Int.lt_ediv_add_one_mul_self (-X) hDpos
    have e : (-(-X / D) - 1) * D = -((-X / D + 1) * D) := by ring
    omega
  have hk0 : 0 ≤ k := by
    by_contra hc
    have : k * D < 0 := Int.mul_neg_of_neg_of_pos (by omega) hDpos
    omega
  have hk250 : k ≤ 250 := by
    by_contra hc
    have : 250 * D ≤ (k - 1) * D := Int.mul_le_mul_of_nonneg_right (by omega) (by omega)
    omega
  have hkn : ((ceilDiv X D).toNat : Int) = k := Int.toNat_of_nonneg hk0
  generalize hn : (ceilDiv X D).toNat = n at *
  have hn250 : n ≤ 250 := by omega
  refine ⟨by trivial, ?_, ?_⟩
  · by_cases e : n = 250
    · subst e
      by_cases e2 : i = 15
      · subst e2; rw [density_top _ _ (by omega)]; exact h2
      · have : 250 * i + 250 = 250 * (i + 1) + 0 := by omega
        rw [this]
        have := (density_segment_bounds t ht (i+1) 0 (by omega) (by omega)).1
        omega
    · rw [density_segment t ht i n (by omega) (by omega)]
      have : X ≤ D * (n : Int) := by rw [hkn, Int.mul_comm]; exact hk1
      have := Int.ediv_le_ediv (c := 250) (by omega) this
      rw [← hD]
      have e3 : X / 250 = rho - tablePoint t i := by omega
      omega
  · intro q hq
    by_cases e : n = 0
    · subst e
      -- q < 250 * i
      by_cases ei : i = 0
      · omega
      · have hq' : q ≤ 250 * (i - 1) + 249 := by omega
        have := density_mono t ht _ _ hq'
        have := (density_segment_bounds t ht (i-1) 249 (by omega) (by omega)).2
        rw [show i - 1 + 1 = i by omega] at this
        omega
    · have hq' : q ≤ 250 * i + (n - 1) := by omega
      have a := density_mono t ht _ _ hq'
      rw [density_segment t ht i (n-1) (by omega) (by omega)] at a
      have : D * ((n - 1 : Nat) : Int) < X := by
        have e : ((n - 1 : Nat) : Int) = k - 1 := by omega
        rw [e, Int.mul_comm]; exact hk2
      have hdv : D * ((n - 1 : Nat) : Int) / 250 < rho - tablePoint t i := by
        generalize D * ((n - 1 : Nat) : Int) = z at *
        omega
      rw [← hD] at a
      omega

end Sys2Proof.Machine
end

