-- ==== Sys2Proof/Laws/Fields.lean ====
section
/-! SUPPORT. Writing named fields and checking them: what `writeFields`, `maskFields`, `firstFailure`, `rangeChecks` and
`maskCheck` give (spec/09 R154 to R156, R161). -/

namespace Sys2Proof.Machine

/-- The fields a mask names stand in ascending order, so none stands twice. -/
theorem maskFields_nodup {w : Nat} (n : Nat) (mask : BitVec w) : (maskFields n mask).Nodup :=
  List.Nodup.filter _ List.nodup_range

theorem mem_maskFields {w : Nat} (n : Nat) (mask : BitVec w) (f : Nat) :
    f ∈ maskFields n mask ↔ f < n ∧ mask.getLsbD f = true := by
  simp [maskFields]

/-- A field that is not named keeps its value. -/
theorem writeFields_other {n : Nat} (fs vs : List Nat) (x : Vector Nat n) (f : Nat) (h : f ∉ fs) :
    (writeFields fs vs x).toList[f]? = x.toList[f]? := by
  induction fs generalizing vs x with
  | nil => rfl
  | cons g fs ih =>
    cases vs with
    | nil => rfl
    | cons v vs =>
      simp only [List.mem_cons, not_or] at h
      simp only [writeFields]
      rw [ih vs _ h.2]
      split
      · simp only [Vector.toList_set]
        rw [List.getElem?_set_ne (Ne.symm h.1)]
      · rfl

/-- A named field takes its value. -/
theorem writeFields_named {n : Nat} (fs vs : List Nat) (x : Vector Nat n) (hd : fs.Nodup) (k f v : Nat) (hf : fs[k]? = some f)
    (hv : vs[k]? = some v) (hn : f < n) : (writeFields fs vs x).toList[f]? = some v := by
  induction fs generalizing vs x k with
  | nil => simp at hf
  | cons g fs ih =>
    cases vs with
    | nil => simp at hv
    | cons w vs =>
      simp only [List.nodup_cons] at hd
      simp only [writeFields]
      cases k with
      | zero =>
        simp only [List.getElem?_cons_zero, Option.some.injEq] at hf hv
        subst hf; subst hv
        rw [writeFields_other _ _ _ _ hd.1, dif_pos hn]
        simp [Vector.toList_set, hn]
      | succ k => exact ih vs _ hd.2 k (by simpa using hf) (by simpa using hv)

/-- The checks of two lists: the first list decides where it fails. -/
theorem firstFailure_append (a b : List Check) :
    firstFailure (a ++ b) = match firstFailure a with | some r => some r | none => firstFailure b := by
  induction a with
  | nil => rfl
  | cons c a ih => cases c <;> simp [firstFailure, ih]

/-- Nothing fails exactly when every check passes. -/
theorem firstFailure_none (cs : List Check) : firstFailure cs = none ↔ ∀ c ∈ cs, c = none := by
  induction cs with
  | nil => simp [firstFailure]
  | cons c cs ih => cases c <;> simp [firstFailure, ih]

/-- The n-th check decides when it fails and those before it pass. -/
theorem firstFailure_at (cs : List Check) (n : Nat) (r : RefusalCode × Nat) (hn : cs[n]? = some (some r))
    (hb : ∀ (m : Nat) (c : Check), m < n → cs[m]? = some c → c = none) : firstFailure cs = some r := by
  induction cs generalizing n with
  | nil => simp at hn
  | cons c cs ih =>
    cases n with
    | zero => simp only [List.getElem?_cons_zero, Option.some.injEq] at hn; subst hn; rfl
    | succ n =>
      have h0 : c = none := hb 0 c (by omega) rfl
      subst h0
      exact ih n (by simpa using hn) fun m d hm hd => hb (m + 1) d (by omega) (by simpa using hd)

/-- The n-th range check is that of the n-th named field and value. -/
theorem rangeChecks_get {w : Nat} (ranges : Vector (Nat × Nat) w) (fs vs : List Nat) (n : Nat) (c : Check)
    (h : (rangeChecks ranges fs vs)[n]? = some c) :
    ∃ f v, fs[n]? = some f ∧ vs[n]? = some v ∧
      c = match ranges.toList[f]? with
        | some r => require (decide (r.1 ≤ v) && decide (v ≤ r.2)) .outOfRange f
        | none => none := by
  induction fs generalizing vs n with
  | nil => simp [rangeChecks] at h
  | cons f fs ih =>
    cases vs with
    | nil => simp [rangeChecks] at h
    | cons v vs =>
      cases n with
      | zero => simp only [rangeChecks, List.getElem?_cons_zero, Option.some.injEq] at h; exact ⟨f, v, rfl, rfl, h.symm⟩
      | succ n => simpa using ih vs n (by simpa [rangeChecks] using h)

/-- There is a range check for each named field with its value. -/
theorem rangeChecks_at {w : Nat} (ranges : Vector (Nat × Nat) w) (fs vs : List Nat) (n f v : Nat) (hf : fs[n]? = some f)
    (hv : vs[n]? = some v) : (rangeChecks ranges fs vs)[n]? = some (match ranges.toList[f]? with
        | some r => require (decide (r.1 ≤ v) && decide (v ≤ r.2)) .outOfRange f
        | none => none) := by
  induction fs generalizing vs n with
  | nil => simp at hf
  | cons g fs ih =>
    cases vs with
    | nil => simp at hv
    | cons u vs =>
      cases n with
      | zero =>
        simp only [List.getElem?_cons_zero, Option.some.injEq] at hf hv; subst hf; subst hv; rfl
      | succ n => simpa [rangeChecks] using ih vs n (by simpa using hf) (by simpa using hv)

/-- All range checks pass exactly when every named value lies within the range of its field. -/
theorem rangeChecks_none {w : Nat} (ranges : Vector (Nat × Nat) w) (fs vs : List Nat) :
    firstFailure (rangeChecks ranges fs vs) = none ↔
      ∀ n f v : Nat, fs[n]? = some f → vs[n]? = some v → ∀ r : Nat × Nat, ranges.toList[f]? = some r → r.1 ≤ v ∧ v ≤ r.2 := by
  rw [firstFailure_none]
  constructor
  · intro h n f v hf hv r hr
    have := h _ (List.mem_of_getElem? (rangeChecks_at ranges fs vs n f v hf hv))
    simpa [hr, require] using this
  · intro h c hc
    obtain ⟨n, hn⟩ := List.getElem?_of_mem hc
    obtain ⟨f, v, hf, hv, rfl⟩ := rangeChecks_get ranges fs vs n c hn
    split
    · rename_i r hr; simpa [require] using h n f v hf hv r hr
    · rfl

/-- The first value out of its range decides. -/
theorem rangeChecks_fail {w : Nat} (ranges : Vector (Nat × Nat) w) (fs vs : List Nat) (n f v : Nat) (hf : fs[n]? = some f)
    (hv : vs[n]? = some v) (hb : ¬∀ r : Nat × Nat, ranges.toList[f]? = some r → r.1 ≤ v ∧ v ≤ r.2)
    (ho : ∀ m g u : Nat, m < n → fs[m]? = some g → vs[m]? = some u → ∀ r : Nat × Nat, ranges.toList[g]? = some r → r.1 ≤ u ∧ u ≤ r.2) :
    firstFailure (rangeChecks ranges fs vs) = some (.outOfRange, f) := by
  refine firstFailure_at _ n _ ?_ fun m c hm hc => ?_
  · rw [rangeChecks_at ranges fs vs n f v hf hv]
    split
    · rename_i r hr
      rw [hr] at hb
      have : (decide (r.1 ≤ v) && decide (v ≤ r.2)) = false := by
        cases hd : (decide (r.1 ≤ v) && decide (v ≤ r.2)) with
        | false => rfl
        | true =>
          exfalso; apply hb
          intro q hq
          simp only [Option.some.injEq] at hq; subst hq
          simpa using hd
      simp [require, this]
    · rename_i hr; exact absurd (fun r h => by rw [hr] at h; cases h) hb
  · obtain ⟨g, u, hg, hu, rfl⟩ := rangeChecks_get ranges fs vs m c hc
    split
    · rename_i r hr; simpa [require] using ho m g u hm hg hu r hr
    · rfl

/-- A mask that names no field from `n` on passes. -/
theorem maskCheck_none {w : Nat} (n : Nat) (mask : BitVec w) :
    maskCheck n mask = none ↔ ∀ f : Nat, n ≤ f → mask.getLsbD f = false := by
  unfold maskCheck
  rw [Option.map_eq_none_iff, List.find?_eq_none]
  constructor
  · intro h f hf
    by_cases hw : f < w
    · simpa [hf] using h f (by simpa using hw)
    · simp [BitVec.getLsbD_of_ge _ _ (Nat.le_of_not_lt hw)]
  · intro h f hf
    simp only [Bool.and_eq_true, decide_eq_true_eq, not_and]
    intro hn; simp [h f hn]

/-- The lowest bit that names no field decides. -/
theorem maskCheck_some {w : Nat} (n : Nat) (mask : BitVec w) (f : Nat) (hn : n ≤ f) (hf : mask.getLsbD f = true)
    (ho : ∀ g : Nat, n ≤ g → g < f → mask.getLsbD g = false) : maskCheck n mask = some (.badField, f) := by
  have hw : f < w := by
    by_contra hw
    simp [BitVec.getLsbD_of_ge _ _ (Nat.le_of_not_lt hw)] at hf
  have : (List.range w).find? (fun g => decide (n ≤ g) && mask.getLsbD g) = some f := by
    rw [List.find?_range_eq_some]
    refine ⟨by simp [hn, hf], by simpa using hw, fun j hj => ?_⟩
    by_cases hnj : n ≤ j
    · simp [ho j hnj hj]
    · simp [hnj]
  unfold maskCheck; rw [this]; rfl

end Sys2Proof.Machine
end

