-- ==== Sys2Proof/Laws/Replies.lean ====
section
/-! SUPPORT. Acts that answer and report (spec/11 R176): the ACCEPT keeps the place it took before the act, so filling its
data afterwards gives the same queue as an act with the whole reply queued first. -/

namespace Sys2Proof.Machine

/-- The reply at place `n` of the transmit queue takes its final frame. -/
def fillReply (n : Nat) (g : Frame) (s : State) : State := s.modLink fun l => { l with tx := l.tx.set n ⟨false, g⟩ }

/-- Place `n` of the transmit queue holds a reply. -/
def ReplyAt (n : Nat) (s : State) : Prop := ∃ f : Frame, s.link.tx[n]? = some ⟨false, f⟩

/-- A reply keeps its place while reports join the queue. -/
theorem ReplyAt.grew {n : Nat} {s t : State} (h : ReplyAt n s) (g : Link.Grew s.link t.link) : ReplyAt n t := by
  obtain ⟨f, hf⟩ := h
  obtain ⟨rs, e, -, -⟩ := g
  refine ⟨f, ?_⟩
  rw [e]
  simp only
  rw [List.getElem?_append_left (List.getElem?_eq_some_iff.mp hf).1, hf]

theorem countP_set_reply (l : List TxFrame) (n : Nat) (f g : Frame) (h : l[n]? = some ⟨false, f⟩) :
    (l.set n ⟨false, g⟩).countP TxFrame.isReport = l.countP TxFrame.isReport := by
  induction l generalizing n with
  | nil => rfl
  | cons x l ih =>
    cases n with
    | zero =>
      simp only [List.getElem?_cons_zero, Option.some.injEq] at h
      subst h
      simp [List.set]
    | succ n => simp [List.countP_cons, ih n (by simpa using h)]

/-- Reports do not depend on what a reply in the queue says. -/
theorem report_fill (k : ReportKind) (p : List Byte) (n : Nat) (g : Frame) (s : State) (h : ReplyAt n s) :
    report k p (fillReply n g s) = fillReply n g (report k p s) := by
  obtain ⟨f, hf⟩ := h
  have hc := countP_set_reply s.link.tx n f g hf
  have hn := (List.getElem?_eq_some_iff.mp hf).1
  have hr : (fillReply n g s).link.hasReportRoom = s.link.hasReportRoom := by
    have e1 : (fillReply n g s).link.reports = s.link.reports := hc
    have e2 : (fillReply n g s).link.tx.length = s.link.tx.length := by simp [fillReply]
    unfold Link.hasReportRoom
    rw [e1, e2]
  unfold report
  rw [hr, show (fillReply n g s).conds = s.conds from rfl,
    show (fillReply n g s).link.restartPending = s.link.restartPending from rfl]
  split
  · simp [fillReply, State.modLink, hn]
  · rfl

/-- The same of a CONDITION report. -/
theorem conditionReport_fill (k : Condition) (n : Nat) (g : Frame) (s : State) (h : ReplyAt n s) :
    conditionReport k (fillReply n g s) = fillReply n g (conditionReport k s) := by
  unfold conditionReport
  rw [show (fillReply n g s).conds = s.conds from rfl, show causePresent (fillReply n g s) k = causePresent s k by cases k <;> rfl]
  split
  · exact report_fill _ _ n g s h
  · rfl

/-- The same of a condition set. -/
theorem setCondition_fill (k : Condition) (n : Nat) (g : Frame) (s : State) (h : ReplyAt n s) :
    setCondition k (fillReply n g s) = fillReply n g (setCondition k s) := by
  unfold setCondition
  rw [show (fillReply n g s).conds = s.conds from rfl]
  split
  · rfl
  · simp only
    split
    · exact conditionReport_fill k n g (updateStop (s.modConds fun c => { c with isSet := c.isSet.set k.num true })) h
    · exact conditionReport_fill k n g (s.modConds fun c => { c with isSet := c.isSet.set k.num true }) h

/-- The same of the all-out test. -/
theorem allOutTest_fill (n : Nat) (g : Frame) (s : State) (h : ReplyAt n s) :
    allOutTest (fillReply n g s) = fillReply n g (allOutTest s) := by
  unfold allOutTest
  rw [show allOut (fillReply n g s) = allOut s from rfl]
  split
  · exact setCondition_fill _ n g (s.modWithhold fun w => { w with noCylinder := true }) h
  · rfl

/-- A reply just queued stands at the place after those before it, and is filled there. -/
theorem replyAt_withReply (u : State) (f : Frame) : ReplyAt u.link.tx.length (u.withReply f) := ⟨f, by simp [State.withReply]⟩

theorem fillReply_withReply (u : State) (f g : Frame) : fillReply u.link.tx.length g (u.withReply f) = u.withReply g := by
  simp [State.withReply, fillReply, State.modLink]

/-- An accepted act that gives no report. -/
theorem acceptAround_plain (k : Byte) (op : State → State) (d : State → List Byte) (s u : State)
    (h : op (s.withReply ⟨0x80, [k]⟩) = u.withReply ⟨0x80, [k]⟩) (hu : u.link = s.link)
    (hd : d (u.withReply ⟨0x80, [k]⟩) = d u) :
    acceptAround k (fun s => (op s, d (op s))) s = u.withReply ⟨0x80, k :: d u⟩ := by
  unfold acceptAround
  rw [show accept k [] s = s.withReply ⟨0x80, [k]⟩ from rfl]
  simp only [h, hd, ← hu]
  exact fillReply_withReply u _ _

/-- An accepted act that gives one report. -/
theorem acceptAround_report (k : Byte) (op : State → State) (d : State → List Byte) (s u : State) (r : ReportKind)
    (p : List Byte) (h : op (s.withReply ⟨0x80, [k]⟩) = report r p (u.withReply ⟨0x80, [k]⟩)) (hu : u.link = s.link)
    (hd : d (report r p (u.withReply ⟨0x80, [k]⟩)) = d u) :
    acceptAround k (fun s => (op s, d (op s))) s = report r p (u.withReply ⟨0x80, k :: d u⟩) := by
  unfold acceptAround
  rw [show accept k [] s = s.withReply ⟨0x80, [k]⟩ from rfl]
  simp only [h, hd, ← hu]
  exact (report_fill r p _ _ _ (replyAt_withReply u _)).symm.trans (congrArg (report r p) (fillReply_withReply u _ _))

/-- The data of a reply to HEAD are the head's own items. -/
theorem headReplyItems_congr (s t : State) (h : Fin 16) (e : s.heads = t.heads) : headReplyItems s h = headReplyItems t h := by
  simp only [headReplyItems, e]

/-- The data of a reply to CYLINDER are the cylinder's own items. -/
theorem cylinderReplyItems_congr (s t : State) (c : Fin 4) (e : s.cylinders = t.cylinders) :
    cylinderReplyItems s c = cylinderReplyItems t c := by
  simp only [cylinderReplyItems, e]

/-- A HEAD request whose act gives no report. -/
theorem acceptHead_plain (op : State → State) (h : Fin 16) (s u : State)
    (e : op (s.withReply ⟨0x80, [0x0A]⟩) = u.withReply ⟨0x80, [0x0A]⟩) (hu : u.link = s.link) :
    acceptAround 0x0A (fun s => (op s, headReplyItems (op s) h)) s = u.withReply ⟨0x80, 0x0A :: headReplyItems u h⟩ :=
  acceptAround_plain 0x0A op (headReplyItems · h) s u e hu (headReplyItems_congr _ _ h rfl)

/-- A HEAD request whose act gives a HEAD report. -/
theorem acceptHead_report (op : State → State) (h : Fin 16) (cause : HeadCause) (s u : State)
    (e : op (s.withReply ⟨0x80, [0x0A]⟩) = headReport h cause (u.withReply ⟨0x80, [0x0A]⟩)) (hu : u.link = s.link) :
    acceptAround 0x0A (fun s => (op s, headReplyItems (op s) h)) s =
      headReport h cause (u.withReply ⟨0x80, 0x0A :: headReplyItems u h⟩) :=
  acceptAround_report 0x0A op (headReplyItems · h) s u _ _ e hu (headReplyItems_congr _ _ h (by simp; rfl))

/-- A CYLINDER request whose act gives no report. -/
theorem acceptCylinder_plain (op : State → State) (c : Fin 4) (s u : State)
    (e : op (s.withReply ⟨0x80, [0x0B]⟩) = u.withReply ⟨0x80, [0x0B]⟩) (hu : u.link = s.link) :
    acceptAround 0x0B (fun s => (op s, cylinderReplyItems (op s) c)) s = u.withReply ⟨0x80, 0x0B :: cylinderReplyItems u c⟩ :=
  acceptAround_plain 0x0B op (cylinderReplyItems · c) s u e hu (cylinderReplyItems_congr _ _ c rfl)

/-- A CYLINDER request whose act gives a CYLINDER report. -/
theorem acceptCylinder_report (op : State → State) (c : Fin 4) (cause : CylCause) (s u : State)
    (e : op (s.withReply ⟨0x80, [0x0B]⟩) = cylinderReport c cause (u.withReply ⟨0x80, [0x0B]⟩)) (hu : u.link = s.link) :
    acceptAround 0x0B (fun s => (op s, cylinderReplyItems (op s) c)) s =
      cylinderReport c cause (u.withReply ⟨0x80, 0x0B :: cylinderReplyItems u c⟩) :=
  acceptAround_report 0x0B op (cylinderReplyItems · c) s u _ _ e hu (cylinderReplyItems_congr _ _ c (by simp; rfl))


/-- A CYLINDER request whose act gives a CYLINDER report and then makes the all-out test. -/
theorem acceptCylinder_tested (op : State → State) (c : Fin 4) (cause : CylCause) (s u : State)
    (e : op (s.withReply ⟨0x80, [0x0B]⟩) = allOutTest (cylinderReport c cause (u.withReply ⟨0x80, [0x0B]⟩)))
    (hu : u.link = s.link) :
    acceptAround 0x0B (fun s => (op s, cylinderReplyItems (op s) c)) s =
      allOutTest (cylinderReport c cause (u.withReply ⟨0x80, 0x0B :: cylinderReplyItems u c⟩)) := by
  unfold acceptAround
  rw [show accept 0x0B [] s = s.withReply ⟨0x80, [0x0B]⟩ from rfl]
  simp only [e, ← hu]
  rw [cylinderReplyItems_congr _ u c (by simp; rfl)]
  have h0 := replyAt_withReply u ⟨0x80, [0x0B]⟩
  have h1 : ReplyAt u.link.tx.length (cylinderReport c cause (u.withReply ⟨0x80, [0x0B]⟩)) :=
    h0.grew (cylinderReport_grew (Link.Grew.refl _) c cause)
  refine (allOutTest_fill _ _ _ h1).symm.trans (congrArg allOutTest ?_)
  refine (report_fill _ _ _ _ _ h0).symm.trans ?_
  rw [fillReply_withReply]
  rfl

end Sys2Proof.Machine
end

