-- ==== Sys2Proof/Laws/Requests.lean ====
section
/-! SUPPORT. What the taking of a request does to the message link, once for every request: its one reply joins the tail of the
transmit queue, reports of its act may follow, and the receive buffer and the assembler stand (spec/11 R176, R179, R180). -/

namespace Sys2Proof.Machine

/-- The link `l` is the link `l0` with one reply at its tail, the reports an act adds after it within their room, and a
restart pending perhaps asked for. -/
def Link.Served (l0 l : Link) : Prop :=
  ∃ (f : Frame) (rs : List TxFrame) (p : Bool),
    l = { l0 with tx := l0.tx ++ ⟨false, f⟩ :: rs, restartPending := p } ∧
    (p = l0.restartPending ∨ p = true) ∧ (∀ r ∈ rs, r.isReport = true) ∧
    (rs = [] ∨ (l0.restartPending = false ∧ l.tx.length ≤ 8 ∧ l.reports ≤ 6))

/-- What service leaves of the link's own items. -/
theorem Link.Served.items {l0 l : Link} (h : Link.Served l0 l) :
    l.rate = l0.rate ∧ l.asm = l0.asm ∧ l.rx = l0.rx ∧ l.lineOut = l0.lineOut := by
  obtain ⟨f, rs, p, rfl, -⟩ := h
  exact ⟨rfl, rfl, rfl, rfl⟩

/-- A reply, and then an act that reports. -/
theorem served_then (f : Frame) (s t : State) (g : Link.Grew (pushReply f s).link t.link) : Link.Served s.link t.link := by
  obtain ⟨rs, h1, h2, h3⟩ := g
  refine ⟨f, rs, s.link.restartPending, ?_, .inl rfl, h2, ?_⟩
  · rw [h1]; simp [pushReply, State.modLink]
  · exact h3.imp_right fun x => ⟨by simpa [pushReply, State.modLink] using x.1, x.2⟩

theorem served_push (f : Frame) (s t : State) (e : t.link = s.link) : Link.Served s.link (pushReply f t).link := by
  rw [← e]; exact served_then f t _ (Link.Grew.refl _)

theorem served_accept (k : Byte) (d : List Byte) (s t : State) (e : t.link = s.link) :
    Link.Served s.link (accept k d t).link := served_push _ _ _ e

theorem served_refuse (k : Byte) (c : RefusalCode) (n : Nat) (s : State) : Link.Served s.link (refuse k c n s).link :=
  served_push _ _ _ rfl

/-- The ACCEPT that is queued before its act and filled in after it. -/
theorem served_around (k : Byte) (act : State → State × List Byte) (s : State)
    (g : ∀ t : State, Link.Grew t.link (act t).1.link) : Link.Served s.link (acceptAround k act s).link := by
  obtain ⟨rs, h1, h2, h3⟩ := g (accept k [] s)
  refine ⟨acceptFrame k (act (accept k [] s)).2, rs, s.link.restartPending, ?_, .inl rfl, h2, ?_⟩
  · unfold acceptAround
    simp only [State.modLink_link, h1]
    simp [accept, pushReply, State.modLink, List.append_assoc]
  · refine h3.imp_right fun ⟨a, b, c⟩ => ⟨by simpa [accept, pushReply, State.modLink] using a, ?_, ?_⟩
    · simpa [acceptAround] using b
    · unfold acceptAround Link.reports at *
      simp only [State.modLink_link]
      rw [countP_set_reply _ _ (acceptFrame k []) _ (by rw [h1]; simp [accept, pushReply, State.modLink])]
      exact c

theorem applyEntry_grew (l0 : Link) (x : State × FillTally) (e : FillEntry) (hg : Link.Grew l0 x.1.link) :
    Link.Grew l0 (applyEntry x e).1.link := by
  unfold applyEntry
  simp only []
  split
  · simp only []; split
    · exact setCondition_grew (by simpa using hg) _
    · simpa using hg
  · split
    · exact releaseSettled_grew (by simpa using hg) _
    · simpa using hg

theorem applyEntries_grew (l0 : Link) (es : List FillEntry) (x : State × FillTally) (hg : Link.Grew l0 x.1.link) :
    Link.Grew l0 (es.foldl applyEntry x).1.link := by
  induction es generalizing x with
  | nil => exact hg
  | cons e es ih => exact ih _ (applyEntry_grew l0 x e hg)

theorem enableHead_grew {l0 : Link} {s : State} (hg : Link.Grew l0 s.link) (h : Fin 16) :
    Link.Grew l0 (enableHead h s).link := by
  simp only [enableHead]; split
  all_goals first
    | exact hg | exact headReport_grew (by simpa using hg) _ _

theorem disableHead_grew {l0 : Link} {s : State} (hg : Link.Grew l0 s.link) (h : Fin 16) :
    Link.Grew l0 (disableHead h s).link := by
  simp only [disableHead, disableFrom]; split <;> try split
  all_goals first
    | exact hg | exact headReport_grew (by simpa using hg) _ _

theorem resetHead_grew {l0 : Link} {s : State} (hg : Link.Grew l0 s.link) (h : Fin 16) :
    Link.Grew l0 (resetHead h s).link := by
  have h1 : Link.Grew l0 (resetPairing h s).link := by
    unfold resetPairing; split
    · simpa using hg
    · exact hg
  simp only [resetHead]
  refine headReport_grew ?_ _ _
  repeat' split
  all_goals first
    | exact enterProbed_grew (by simpa using h1) _ | simpa using h1

theorem loseRight_link (p : Shot → Bool) (s : State) : (loseRight p s).link = s.link := by
  unfold loseRight
  apply foldl_frame State.link
  intro _ _; rfl

theorem activate_link (i : Fin 2) (s : State) : (activate i s).link = s.link := by
  unfold activate
  rw [(refillBank_frame _).2.2.2.2.2.2.2.2.2.2.2.1, State.modWithhold_link, loseRight_link, State.setSlotAllowances_link,
    State.modSlot_link]
  unfold retireSlot
  repeat' split
  all_goals rfl

theorem read_served (code index : Nat) (s : State) : Link.Served s.link (handleRead code index s).link := by
  unfold handleRead
  split
  · exact served_accept _ _ _ _ rfl
  · unfold handleReadHead; split <;> first | exact served_accept _ _ _ _ rfl | exact served_refuse _ _ _ _
  · unfold handleReadCylinder; split <;> first | exact served_accept _ _ _ _ rfl | exact served_refuse _ _ _ _
  · unfold handleReadQueues; split <;> first | exact served_accept _ _ _ _ rfl | exact served_refuse _ _ _ _
  · unfold handleReadRecipe; split <;> first | exact served_accept _ _ _ _ rfl | exact served_refuse _ _ _ _
  · exact served_accept _ _ _ _ rfl
  · exact served_accept _ _ _ _ rfl
  · exact served_accept _ _ _ _ rfl
  · exact served_refuse _ _ _ _

theorem fill_served (tag mass : Nat) (s : State) : Link.Served s.link (handleFill tag mass s).link := by
  unfold handleFill
  simp only []
  repeat' split
  · exact served_refuse _ _ _ _
  · exact served_then _ _ _ (setCondition_grew (Link.Grew.refl _) _)
  · exact served_around _ _ _ fun t => applyEntries_grew _ _ _ (Link.Grew.refl _)
  · exact served_then _ _ _ (setCondition_grew (Link.Grew.refl _) _)

theorem head_served (h a : Nat) (s : State) : Link.Served s.link (handleHead h a s).link := by
  unfold handleHead
  split
  · split
    · exact served_around _ _ _ fun t => enableHead_grew (Link.Grew.refl _) _
    · exact served_around _ _ _ fun t => disableHead_grew (Link.Grew.refl _) _
    · exact served_around _ _ _ fun t => resetHead_grew (Link.Grew.refl _) _
    · exact served_refuse _ _ _ _
  · exact served_refuse _ _ _ _

theorem cylinder_served (c a : Nat) (s : State) : Link.Served s.link (handleCylinder c a s).link := by
  unfold handleCylinder
  split
  · split
    · exact served_around _ _ _ fun t => enableCylinder_grew (Link.Grew.refl _) _
    · exact served_around _ _ _ fun t => disableCylinder_grew (Link.Grew.refl _) _
    · exact served_refuse _ _ _ _
  · exact served_refuse _ _ _ _

theorem selectSource_grew {l0 : Link} {s : State} (hg : Link.Grew l0 s.link) (x : Source) :
    Link.Grew l0 (selectSource x s).link := by
  unfold selectSource
  refine enterSeeking_grew ?_ _
  simp only [State.modWithhold_link, State.modTracker_link]
  split
  · simpa using hg
  · exact hg

theorem selectSource_served (c : Nat) (s : State) : Link.Served s.link (handleSelectSource c s).link := by
  unfold handleSelectSource
  split
  · exact served_refuse _ _ _ _
  · split
    · exact served_refuse _ _ _ _
    · exact served_around _ _ _ fun t => selectSource_grew (Link.Grew.refl _) _

theorem relock_served (s : State) : Link.Served s.link (handleRelock s).link := by
  unfold handleRelock
  split
  · exact served_around _ _ _ fun t => enterSeeking_grew (Link.Grew.refl _) _
  · exact served_refuse _ _ _ _

theorem recipe_served (values : List Nat) (s : State) : Link.Served s.link (handleLoadRecipe values s).link := by
  unfold handleLoadRecipe
  repeat' split
  all_goals first | exact served_refuse _ _ _ _ | exact served_accept _ _ _ _ rfl

theorem amend_served (mask : BitVec 32) (values : List Nat) (s : State) :
    Link.Served s.link (handleAmendRecipe mask values s).link := by
  unfold handleAmendRecipe
  repeat' split
  all_goals try simp only []
  all_goals repeat' split
  all_goals first | exact served_refuse _ _ _ _ | exact served_accept _ _ _ _ rfl

theorem activate_served (id : Nat) (s : State) : Link.Served s.link (handleActivateRecipe id s).link := by
  unfold handleActivateRecipe
  split
  · exact served_refuse _ _ _ _
  · split
    · exact served_refuse _ _ _ _
    · exact served_accept _ _ _ _ (activate_link _ _)

theorem configure_served (mask : BitVec 48) (values : List Nat) (s : State) :
    Link.Served s.link (handleConfigure mask values s).link := by
  unfold handleConfigure
  split
  · exact served_refuse _ _ _ _
  · exact served_accept _ _ s _ rfl

theorem gasTable_served (points : List Nat) (s : State) : Link.Served s.link (handleLoadGasTable points s).link := by
  unfold handleLoadGasTable
  split
  · exact served_refuse _ _ _ _
  · split
    · exact served_refuse _ _ _ _
    · exact served_accept _ _ _ _ (loseRight_link _ _)

theorem discard_served (s : State) : Link.Served s.link (handleDiscardRecipe s).link := by
  unfold handleDiscardRecipe
  split
  · exact served_refuse _ _ _ _
  · exact served_accept _ _ _ _ rfl

theorem verdicts_served (n : Nat) (s : State) : Link.Served s.link (handleTakeVerdicts n s).link := by
  unfold handleTakeVerdicts
  split
  · exact served_accept _ _ _ _ rfl
  · exact served_refuse _ _ _ _

theorem conditions_served (mask : BitVec 16) (s : State) : Link.Served s.link (handleClearConditions mask s).link := by
  unfold handleClearConditions
  split
  · exact served_refuse _ _ _ _
  · exact served_accept _ _ _ _ (by simp [clearNamed])

/-- Whatever the request, its handling serves the link. -/
theorem handle_served (r : Request) (s : State) : Link.Served s.link (handle r s).link := by
  cases r with
  | read code index => exact read_served code index s
  | configure mask values => exact configure_served mask values s
  | loadGasTable points => exact gasTable_served points s
  | loadRecipe fields => exact recipe_served fields s
  | amendRecipe mask values => exact amend_served mask values s
  | activateRecipe id => exact activate_served id s
  | discardRecipe => exact discard_served s
  | fill tag mass => exact fill_served tag mass s
  | resyncFill =>
    exact served_accept 0x09 _ s (s.modInfeed fun i => { i with fillQueue := [], debt := 0, expectedTag := none }) rfl
  | head h a => exact head_served h a s
  | cylinder c a => exact cylinder_served c a s
  | infeedHold => exact served_accept 0x0C _ s (s.modWithhold fun w => { w with holdRequest := true }) rfl
  | infeedRelease => exact served_accept 0x0D _ s (s.modWithhold fun w => { w with holdRequest := false }) rfl
  | takeVerdicts n => exact verdicts_served n s
  | clearConditions mask => exact conditions_served mask s
  | setReports mask => exact served_accept 0x10 [] s (s.modConds fun c => { c with mask := mask }) rfl
  | selectSource c => exact selectSource_served c s
  | relock => exact relock_served s
  | restart =>
    exact ⟨acceptFrame 0x13 [], [], true, by simp [handle, handleRestart, accept, pushReply, State.modLink], .inr rfl, by simp,
      .inl rfl⟩

/-- A frame taken as a request serves the link. -/
theorem takeRequest_served (f : Frame) (s : State) : Link.Served s.link (takeRequest f s).link := by
  unfold takeRequest
  split
  · exact handle_served _ _
  · exact served_refuse _ _ _ _

end Sys2Proof.Machine
end

