-- ==== Sys2Proof/Laws/Stations.lean ====
section
/-! SUPPORT. The turret positions of a head's stations are thirteen different ones (spec/01 R14, R16). -/

namespace Sys2Proof.Machine

/-- The configuration field of a station's angle. -/
def stationNumber : Station → Fin 13
  | .infeed => 0 | .seat => 1 | .crimp => 2 | .crimpRead => 3 | .probe => 4 | .chargeOpen => 5 | .chargeClose => 6 | .dwell => 7 | .lift => 8 | .outfeed => 9 | .vent => 10 | .zero => 11 | .gate => 12

/-- Where a station falls, by its field. -/
theorem stationPosition_eq (c : MachineConfig) (h : Fin 16) (st : Station) : stationPosition c h st =
    (c.fields[(stationNumber st).val] + 256 * h.val) % 4096 := by
  cases st <;> rfl

/-- The station angles rise. -/
theorem angle_mono (c : MachineConfig) (hc : ConfigSafe c) : ∀ (j i : Nat) (hj : j < 13) (hi :
    i < j), c.fields[i]'(by omega) < c.fields[j]'(by omega) := by
  intro j
  induction j with
  | zero => intro i _ h; omega
  | succ j ih =>
    intro i hj h
    have a := hc.2.1 ⟨j, by omega⟩
    by_cases e : i = j
    · subst e; exact a
    · have b := ih i (by omega) (by omega)
      simp only at a; omega

/-- No two stations of one head fall at one position. -/
theorem stationPosition_inj (c : MachineConfig) (hc : ConfigSafe c) (h : Fin 16) (a b : Station) (e :
    stationPosition c h a = stationPosition c h b) : a = b := by
  have inj : ∀ a b : Station, stationNumber a = stationNumber b → a = b := by
    intro a b; cases a <;> cases b <;> first | (intro _; rfl) | (intro h; exact absurd h (by decide))
  apply inj
  rw [stationPosition_eq, stationPosition_eq] at e
  have h41 : ∀ f : Fin 13, c.fields[f.val] ≤ 4095 := by
    intro f
    have := (hc.1 ⟨f.val, by omega⟩).2
    have h2 : (configRanges[(⟨f.val, by omega⟩ : Fin 41)]).2 = 4095 := by
      obtain ⟨f, hf⟩ := f
      have : f = 0 ∨ f = 1 ∨ f = 2 ∨ f = 3 ∨ f = 4 ∨ f = 5 ∨ f = 6 ∨ f = 7 ∨ f = 8 ∨ f = 9 ∨ f = 10 ∨ f = 11 ∨ f = 12 := by omega
      rcases this with rfl | rfl | rfl | rfl | rfl | rfl | rfl | rfl | rfl | rfl | rfl | rfl | rfl <;> rfl
    rw [h2] at this; exact this
  have ea := h41 (stationNumber a); have eb := h41 (stationNumber b)
  have heq : c.fields[(stationNumber a).val] = c.fields[(stationNumber b).val] := by omega
  apply Fin.ext
  by_contra hne
  rcases Nat.lt_or_gt_of_ne hne with hlt | hlt
  · have := angle_mono c hc _ _ (stationNumber b).isLt hlt; omega
  · have := angle_mono c hc _ _ (stationNumber a).isLt hlt; omega

theorem stations_nodup : stations.Nodup := by decide

theorem mem_stations (st : Station) : st ∈ stations := by cases st <;> decide

end Sys2Proof.Machine
end

