-- ==== Sys2Proof/Tests/Slice0.lean ====
section
/-! SUPPORT. Small tests of the model against figures the spec writes out, ill-formed commands that WellFormed refuses, and,
for each statement of the obligations with hypotheses, a state and operands that meet them. -/

namespace Sys2Proof.Tests

open Sys2Proof Sys2Proof.Machine

-- Each `decide +kernel` waits for the kernel; one after the other, they do not hold a thread each.
set_option Elab.async false

/-! ## Helpers -/

/-- The state a command leaves; every command answers a next state. -/
def after (c : Instr) (s : State) : State := match exec c s with
  | .next t => t
  | .fault _ => s
  | .refused _ => s

/-- The recipe of worked cases 1 and 2 of spec/06, with the crimp fields of spec/04's crimp read examples and the probe fields
of its worked sequence of three probes; the rest legal figures. -/
def recipe : Recipe :=
  ⟨#v[101, 2480, 2300, 2700, 0, 320, 500, 20000, 400, 400, 2800, 3200, 4500, 2540, 2580, 400, 380, 150, 8, 300, 20, 3800,
      1600, 250, 3]⟩

/-- A can of that recipe, in slot 0 at head 3, as it is created. -/
def can : CanRecord :=
  { seq := 1203, head := 3, slot := 0, recipeId := 101, tag := none, fillMass := none, boundLost := false, basis := none
    target := none, shots := [], total := 0, depth := none, diameter := none, probeDecay := none, dwellDecay := none
    reasons := [], more := false, verdict := none }

/-- Slot 0 ACTIVE with the recipe and one can; the tracker LOCKED on PRIMARY; nothing withheld; the host's defaults. -/
def running : State := { State.reset with
  slots := #v[{ state := .active, recipe := some recipe, refs := 1 }, .atReset]
  allowances := #v[#v[250, 300, 250, 250], #v[0, 0, 0, 0]]
  tracker := { Tracker.atReset with state := .locked, motion := .running, stopDetect := .running 200 }
  infeed := { Infeed.atReset with withhold := { Infeed.atReset.withhold with noRecipe := false, position := false } } }

/-- `running` with head 3 changed. -/
def atHead (f : Head → Head) (s : State := running) : State := s.modHead 3 f

/-- A head that holds the can, at a cycle state. -/
def holding (c : Cycle) (r : CanRecord := can) (x : Head) : Head := { x with service := .enabled, cycle := c, record := some r }

/-- Head 3 CHARGING from cylinder 1 at 3800 kPa, as worked case 1 of spec/06 has it. -/
def charging : State :=
  let s := atHead fun x => { holding .waiting { can with target := some 8000, basis := some .weighed } x with
    window := .isOpen, decided := true }
  arbitrate ({ s with grantQueue := [3] }.modCyl 1 fun y => { y with state := .ready, pressure := 3800 })

/-- A measuring cylinder 1 whose shot is that one, at 1862 kPa. -/
def measuring : State := after (.cylinderPressureReading 1 1862) (after (.cylinderPressureReading 1 1887) charging)

/-! ## WellFormed refuses each ill-formed term -/

theorem test_wf_readBadItem_good_item : (Instr.readBadItem 7 0).wf = false := by decide
theorem test_wf_readBadItem_wide_item : (Instr.readBadItem 256 0).wf = false := by decide
theorem test_wf_read_wide_index : (Instr.readCylinder 256).wf = false := by decide
theorem test_wf_configure_value_missing : (Instr.configure 0x3 [0]).wf = false := by decide
theorem test_wf_configure_value_too_many : (Instr.configure 0x1 [0, 1]).wf = false := by decide
theorem test_wf_configure_value_wide : (Instr.configure 0x1 [65536]).wf = false := by decide
theorem test_wf_configure_idle_delay_wide : (Instr.configure 0x100000000 [65536]).wf = true ∧
    (Instr.configure 0x100000000 [4294967296]).wf = false := by decide
theorem test_wf_gas_table_short : (Instr.loadGasTable (List.replicate 16 0)).wf = false := by decide
theorem test_wf_gas_table_wide : (Instr.loadGasTable (List.replicate 17 65536)).wf = false := by decide
theorem test_wf_recipe_short : (Instr.loadRecipe (List.replicate 24 0)).wf = false := by decide
theorem test_wf_recipe_wide : (Instr.loadRecipe (List.replicate 25 65536)).wf = false := by decide
theorem test_wf_amend_value_missing : (Instr.amendRecipe 0x1 []).wf = false := by decide
theorem test_wf_amend_value_wide : (Instr.amendRecipe 0x1 [65536]).wf = false := by decide
theorem test_wf_activate_wide : (Instr.activateRecipe 65536).wf = false := by decide
theorem test_wf_fill_tag_wide : (Instr.fill 65536 0).wf = false := by decide
theorem test_wf_fill_mass_wide : (Instr.fill 0 65536).wf = false := by decide
theorem test_wf_head_wide : (Instr.headEnable 256).wf = false := by decide
theorem test_wf_head_bad_action_good : (Instr.headBadAction 0 2).wf = false := by decide
theorem test_wf_head_bad_action_wide : (Instr.headBadAction 0 256).wf = false := by decide
theorem test_wf_cylinder_wide : (Instr.cylinderDisable 256).wf = false := by decide
theorem test_wf_cylinder_bad_action_good : (Instr.cylinderBadAction 0 1).wf = false := by decide
theorem test_wf_cylinder_bad_action_wide : (Instr.cylinderBadAction 0 256).wf = false := by decide
theorem test_wf_take_verdicts_wide : (Instr.takeVerdicts 256).wf = false := by decide
theorem test_wf_select_source_wide : (Instr.selectSource 256).wf = false := by decide
theorem test_wf_unknown_request_known_kind : (Instr.unknownRequest 0x13 []).wf = false := by decide
theorem test_wf_unknown_request_long : (Instr.unknownRequest 0x14 (List.replicate 121 0)).wf = false := by
  simp [Instr.wf, Instr.request]
theorem test_wf_order_repeats : (Instr.simulatedCount quietSensors [.verdictUnit, .verdictUnit]).wf = false := by
  simp [Instr.wf, Instr.request]

/-! ## Frames (spec/11 R174, R186) -/

/-- R174's own check value. -/
theorem test_crc_of_nine_digits :
    crc [0x31#8, 0x32#8, 0x33#8, 0x34#8, 0x35#8, 0x36#8, 0x37#8, 0x38#8, 0x39#8] = 0x29B1#16 := by decide +kernel

/-- R186's payload of tag 503, 2475 dg: F7 01 AB 09, under length 04h and kind 08h. -/
theorem test_fill_frame : (encodeRequest (.fill 503 2475)).lineBytes.take 7 =
    [0xC3#8, 0x04#8, 0x08#8, 0xF7#8, 0x01#8, 0xAB#8, 0x09#8] := by decide

/-- The payload of CONFIGURE (R185): a 6-byte mask and the named values, field 32 in 4 bytes. -/
theorem test_configure_payload : decodePayload 0x02 [0x01#8, 0, 0, 0, 0x01#8, 0, 0x05#8, 0x01#8, 0x30#8, 0x75#8, 0, 0] =
    some (.configure 0x100000001 [261, 30000]) := by decide

theorem test_no_table_word : decodeTableWord 8 0 = none := by decide

/-! ## Dose arithmetic: the worked figures of spec/06 -/

theorem test_densities : [1580, 1600, 1862, 2336, 3790, 3800, 4000].map (density ⟨gasTableDefaults⟩) =
    [3166, 3211, 3805, 4941, 8963, 8995, 9627] := by decide

/-- R111's table: mass, gas ratio, target dose. -/
theorem test_target_doses :
    ([(2500, 320), (2487, 315), (2491, 350), (4800, 320), (9999, 600), (120, 300)].map fun (x : Nat × Nat) =>
      targetDose ⟨recipe.fields.set 5 x.2⟩ x.1) = [8000, 7834, 8719, 15360, 20000, 500] := by decide

/-- The cut-offs of worked cases 1 and 2. -/
theorem test_cutoffs :
    shotCutoff ⟨gasTableDefaults⟩ 1600 3800 7700 200 1500 = (1887, false) ∧
    shotCutoff ⟨gasTableDefaults⟩ 1600 3800 15110 120 1500 = (1600, true) ∧
    shotCutoff ⟨gasTableDefaults⟩ 1600 3790 6121 120 1500 = (2358, false) ∧
    shotCutoff ⟨gasTableDefaults⟩ 1600 3805 6121 120 1500 = (2377, false) := by decide

/-- The delivered masses of worked cases 1 and 2. -/
theorem test_delivered :
    deliveredMass false 8995 3805 200 1500 = 7785 ∧ deliveredMass false 8995 3166 120 1500 = 8989 ∧
    deliveredMass false 8963 4941 120 1500 = 6202 ∧ deliveredMass false 8963 6343 120 1500 = 4040 := by decide

/-- R119's table of adaptation. -/
theorem test_allowances : adaptedAllowance 300 (-215) = 247 ∧ adaptedAllowance 250 (-169) = 208 ∧
    adaptedAllowance 40 (-300) = 0 ∧ adaptedAllowance 1980 130 = 2000 := by decide

/-! ## The link's own commands and the resets -/

/-- R172's straps: both high gives 57,600, A alone high 115,200, B alone high 230,400. -/
theorem test_power_on_straps : (after (.powerOnReset true true) running).link.rate = .baud57600 ∧
    (after (.powerOnReset true false) running).link.rate = .baud115200 ∧
    (after (.powerOnReset false true) running).link.rate = .baud230400 := by decide +kernel

/-- R173: a length byte above 120 is discarded with LINK_FRAME_ERROR. -/
theorem test_byte_bad_length :
    let s := { running with link := { running.link with asm := { Assembler.hunting with state := .length, gapTimer := .running 5 } } }
    (after (.byteReceived (.data 121) quietSensors) s).conds.has .linkFrameError = true ∧
    (after (.byteReceived (.data 120) quietSensors) s).link.asm.state = .kind := by decide +kernel

/-- R174: a gap discards the frame in assembly. -/
theorem test_gap_timer :
    let s := { running with link := { running.link with asm := { Assembler.hunting with state := .kind, gapTimer := .running 5 } } }
    (after .gapTimerExpiry s).link.asm.state = .hunt := by decide +kernel

/-- R180, R175: a frame sent frees its place, and the waiting request is taken. -/
theorem test_frame_sent :
    let s := { running with link := { running.link with
      tx := List.replicate 8 { isReport := false, frame := ⟨0x80, [0x0C]⟩ }, rx := [encodeRequest .infeedHold] } }
    (after (.frameSent quietSensors) s).link.rx = [] ∧
    (after (.frameSent quietSensors) s).infeed.withhold.holdRequest = true ∧
    (after (.frameSent quietSensors) s).link.tx.length = 8 := by decide +kernel

/-- R181: the restart is performed once its ACCEPT has been sent. -/
theorem test_restart :
    let s := after .restart running
    (after .restartPerform s).tracker.state = .locked ∧
    (after .restartPerform (after (.frameSent quietSensors) s)).tracker.state = .unlocked ∧
    (after .restartPerform (after (.frameSent quietSensors) s)).cylinders[0].state = .refilling := by decide +kernel

/-! ## Requests: each answers one reply (R177 codes: 1 UNKNOWN_KIND, 3 BAD_FIELD, 4 OUT_OF_RANGE, 5 WRONG_STATE) -/

theorem test_unknown_request : (after (.unknownRequest 0x14 []) running).link.tx.map TxFrame.frame = [⟨0x81, [0x14, 1, 255]⟩] := by
  decide +kernel
theorem test_read_bad_item : (after (.readBadItem 8 0) running).link.tx.map TxFrame.frame = [⟨0x81, [0x01, 3, 0]⟩] := by
  decide +kernel
theorem test_head_bad_action : (after (.headBadAction 3 3) running).link.tx.map TxFrame.frame = [⟨0x81, [0x0A, 3, 1]⟩] := by
  decide +kernel
theorem test_cylinder_bad_action : (after (.cylinderBadAction 3 2) running).link.tx.map TxFrame.frame = [⟨0x81, [0x0B, 3, 1]⟩] := by
  decide +kernel

/-- The lengths of the replies of R188: head, gas table, recipe, configuration (payload with kind, item and index). -/
theorem test_read_lengths :
    (after (.readGasTable 0) running).link.tx.map (fun f => f.frame.payload.length) = [37] ∧
    (after (.readConfig 0) running).link.tx.map (fun f => f.frame.payload.length) = [87] ∧
    (after (.readRecipe 0) running).link.tx.map (fun f => f.frame.payload.length) = [55] := by decide +kernel

/-- No reply passes the payload limit of R183. -/
theorem test_read_limits :
    ([Instr.readStatus 0, .readHead 3 quietSensors, .readCylinder 1, .readQueues 0, .readQueues 1, .readQueues 2, .readAllowances 0].all
      fun c => (after c charging).link.tx.all fun f => decide (f.frame.payload.length ≤ 120) && f.frame.kind == 0x80) = true := by
  decide +kernel

/-- R161: CONFIGURE waits for the machine to be empty. -/
theorem test_configure : (after (.configure 0x2000 [3]) running).config.fields[13] = 3 ∧
    (after (.configure 0x2000 [17]) running).link.tx.map TxFrame.frame = [⟨0x81, [0x02, 4, 13]⟩] ∧
    (after (.configure 0x2000 [3]) charging).link.tx.map TxFrame.frame = [⟨0x81, [0x02, 5, 255]⟩] := by decide +kernel

/-- R109: a gas table whose points do not rise is refused at the first that does not. -/
theorem test_gas_table : (after (.loadGasTable ((List.range 17).map (· * 500))) running).gasTable.points[16] = 8000 ∧
    (after (.loadGasTable (List.replicate 17 5)) running).link.tx.map TxFrame.frame = [⟨0x81, [0x03, 3, 1]⟩] := by decide +kernel

/-- spec/09's worked changeover: slot 1 FREE takes the record and is PENDING; its activation retires slot 0, which holds cans,
and gives slot 1 its initial allowance; a discard frees it. -/
theorem test_recipe_changeover :
    let r : Recipe := ⟨((((recipe.fields.set 0 102).set 21 3600).set 22 1500).set 23 300)⟩
    let s := after (.loadRecipe r.fields.toList) running
    (s.slots[1].state = .pending ∧ s.slots[0].state = .active) ∧
    ((after (.activateRecipe 102) s).slots[0].state = .retiring ∧ (after (.activateRecipe 102) s).slots[1].state = .active ∧
      (after (.activateRecipe 102) s).allowances[1] = #v[300, 300, 300, 300]) ∧
    (after (.amendRecipe 0x400000 [1400]) s).slots[1].recipe.map floorPressure = some 1400 ∧
    (after .discardRecipe s).slots[1].state = .free := by decide +kernel

/-- spec/03's worked sequence: FILL 503 at expected tag 502 binds a placeholder to 1203 and 503 to 1204. -/
theorem test_fill_skips_a_tag :
    let s := { running with
      infeed := { running.infeed with
        expectedTag := some 502
        awaiting := [⟨4, 1203, false, 0⟩, ⟨5, 1204, false, 0⟩, ⟨6, 1205, false, 0⟩, ⟨7, 1206, false, 0⟩] }
      heads := (running.heads.set 4 (holding .seated { can with head := 4 } running.heads[4])).set 5
        (holding .seated { can with head := 5, seq := 1204 } running.heads[5]) }
    let t := after (.fill 503 2475) s
    t.infeed.expectedTag = some 504 ∧ t.infeed.awaiting.map AwaitEntry.seq = [1205, 1206] ∧
    t.heads[4].record.map CanRecord.boundLost = some true ∧ t.heads[5].record.bind CanRecord.fillMass = some 2475 := by
  decide +kernel

/-- The same sequence: FILL 502 after it, and FILL 504 against a debt of 1. -/
theorem test_fill_late :
    let s := { running with infeed := { running.infeed with expectedTag := some 504, debt := 1 } }
    (after (.fill 502 2490) s).conds.has .fillSequence = true ∧ (after (.fill 502 2490) s).infeed.expectedTag = some 504 ∧
    (after (.fill 504 2505) s).conds.has .lateFill = true ∧ (after (.fill 504 2505) s).infeed.debt = 0 := by decide +kernel

theorem test_resync_fill : (after .resyncFill { running with infeed := { running.infeed with debt := 5 } }).infeed.debt = 0 := by
  decide +kernel

/-- spec/04's sticking vent: HEAD ENABLE of a head OUT_OF_SERVICE leaves its offset and clears its counter. -/
theorem test_head_enable :
    let s := atHead fun x => { x with service := .outOfService, zeroCount := 3, zeroOffset := 1 }
    (after (.headEnable 3) s).heads[3].service = .zeroing ∧ (after (.headEnable 3) s).heads[3].zeroOffset = 1 ∧
    (after (.headEnable 3) s).heads[3].zeroCount = 0 := by decide +kernel

theorem test_head_disable : (after (.headDisable 3) charging).heads[3].service = .disabling ∧
    (after (.headDisable 4) charging).heads[4].service = .disabled := by decide +kernel

/-- R95, R29: HEAD RESET ends the discharge, and its cylinder measures. -/
theorem test_head_reset : (after (.headReset 3) charging).heads[3].cycle = .charged ∧
    (after (.headReset 3) charging).heads[3].pendingResult = some 1 ∧
    (after (.headReset 3) charging).cylinders[1].state = .measuring := by decide +kernel

/-- R97: a cylinder that is DISCHARGING keeps its disable pending; one out of service returns by IDLE. -/
theorem test_cylinder_disable : (after (.cylinderDisable 1) charging).cylinders[1].disablePending = true ∧
    (after (.cylinderDisable 0) charging).cylinders[0].state = .disabled := by decide +kernel
theorem test_cylinder_enable :
    let s := running.modCyl 2 fun y => { y with state := .outOfService, failures := 3 }
    (after (.cylinderEnable 2) s).cylinders[2].state = .refilling ∧ (after (.cylinderEnable 2) s).cylinders[2].failures = 0 := by
  decide +kernel

theorem test_infeed_hold : (after .infeedHold running).infeed.withhold.holdRequest = true ∧
    (after .infeedRelease (after .infeedHold running)).infeed.withhold.holdRequest = false := by decide +kernel

theorem test_take_verdicts :
    let s := { running with verdicts := { running.verdicts with log := [can, can, can] } }
    (after (.takeVerdicts 2) s).verdicts.log.length = 1 ∧
    (after (.takeVerdicts 2) s).link.tx.map (fun f => f.frame.payload.length) = [119] := by decide +kernel

/-- spec/10's worked sequence: a slip sets both STOP conditions; an early clear takes REJECT_LOST alone. -/
theorem test_clear_conditions :
    let s := enterSlipped { running with verdicts := { running.verdicts with rejects := [⟨7, 9, false, none⟩] } }
    (s.conds.has .positionSlip = true ∧ s.conds.has .rejectLost = true ∧ s.conds.stopLine = true) ∧
    s.link.tx.map (fun f => f.frame.kind) = [0x93, 0x90, 0x90] ∧
    ((after (.clearConditions 0x5) s).conds.has .positionSlip = true ∧ (after (.clearConditions 0x5) s).conds.has .rejectLost = false ∧
      (after (.clearConditions 0x5) s).infeed.withhold.stop = true) := by decide +kernel

theorem test_set_reports : (after (.setReports 0x1234) running).conds.mask = 0x1234#16 := by decide +kernel

theorem test_select_source : (after (.selectSource 2) running).tracker.state = .seeking ∧
    (after (.selectSource 2) running).infeed.withhold.simulated = true ∧
    (after (.selectSource 2) running).infeed.withhold.position = true := by decide +kernel

theorem test_relock : (after .relock (enterSlipped running)).tracker.state = .seeking ∧
    (after .relock running).link.tx.map TxFrame.frame = [⟨0x81, [0x12, 5, 255]⟩] := by decide +kernel

/-! ## Counts: spec/01's worked sequence -/

/-- The turret of the worked sequence at absolute position 1000 × 4096 + 4094, with no can. -/
def turning (position : Nat) (interval : Int) : State := { running with tracker := { running.tracker with
  position := position, revolution := 1000, highWater := 1000 * 4096 + position, interval := interval } }

/-- An index two counts early moves the turret on to 4,100,096; head 0 is at INFEED there, head 1 at ZERO. -/
theorem test_early_index :
    let t := after (.encoderCount .primary .forward true quietSensors []) (turning 4093 4093)
    t.tracker.absolute = 4100096 ∧ t.tracker.highWater = 4100096 ∧ t.tracker.interval = 0 ∧ t.tracker.state = .locked := by
  decide +kernel

/-- A reverse count below position 0 lowers the revolution and leaves the high-water mark. -/
theorem test_reverse_count :
    let t := after (.encoderCount .primary .reverse true quietSensors []) (turning 0 0)
    t.tracker.position = 4095 ∧ t.tracker.revolution = 999 ∧ t.tracker.highWater = 4096000 ∧ t.tracker.interval = -1 := by
  decide +kernel

/-- R2: the generator's first count comes with an index pulse, which begins the search. -/
theorem test_simulated_count :
    let s := after (.selectSource 2) running
    (after (.simulatedCount quietSensors []) s).tracker.firstIndexSeen = true ∧
    (after (.simulatedCount quietSensors []) s).tracker.genCount = 1 := by decide +kernel

theorem test_stop_detect : (after .stopDetectExpiry running).tracker.motion = .stopped := by decide +kernel

/-! ## Stations -/

/-- spec/04's crimp read examples: the fourth and the fifth can. -/
theorem test_crimp_read :
    let read (d m : Int) := (stationPhase 3 .crimpRead { atHead (holding .seated) with sensors := { quietSensors with
      heads := quietSensors.heads.set 3 { pressure := 0, depth := d, diameter := m } } }).heads[3].record
    (read 3350 2595).map CanRecord.reasons = some [.crimpDeep, .crimpDiameter] ∧
    ((read 4620 2410).map CanRecord.reasons = some [.noCup, .crimpDeep] ∧ (read 4620 2410).bind CanRecord.diameter = none) ∧
    (read 3200 2580).map CanRecord.reasons = some [] := by decide +kernel

/-- spec/04's sticking vent: a sample of 116 is good and gives an offset of +15; 131 is bad. -/
theorem test_zero :
    let zero (raw : Int) := (stationPhase 3 .zero (({ atHead fun x => { x with service := .enabled, zeroOffset := 1 } with
      sensors := quietSensors }).showPressure 3 raw)).heads[3]
    ((zero 116).zeroOffset = 15 ∧ (zero 116).zeroCount = 0) ∧ ((zero 131).zeroOffset = 1 ∧ (zero 131).zeroCount = 1) := by
  decide +kernel

/-- R63: a can without a report is charged on the nominal mass, 2480 dg at 3.20 %: 7936 mg. -/
theorem test_charge_open :
    let t := stationPhase 3 .chargeOpen (atHead (holding .probed))
    t.heads[3].cycle = .waiting ∧ t.grantQueue = [3] ∧ t.heads[3].record.bind CanRecord.target = some 7936 := by decide +kernel

/-- spec/08's worked sequence: a REJECT at 8,192,000 is due at 8,193,024. -/
theorem test_outfeed :
    let s := { atHead (fun x => { holding .lifted { can with reasons := [.crimpLeak] } x with window := .closed, decided := true })
      with tracker := { running.tracker with revolution := 2000, highWater := 8192000 } }
    (stationPhase 3 .outfeed s).verdicts.rejects = [⟨1203, 8193024, false, none⟩] ∧
    (stationPhase 3 .outfeed s).verdicts.log.map CanRecord.verdict = [some .reject] := by decide +kernel

/-! ## Probe, charge and dwell -/

/-- spec/04's can 2210: Pa 402 and Pb 397 with an offset of 4. -/
theorem test_probe :
    let s := atHead fun x => { holding .probing can x with zeroOffset := 4, probeStep := .build, probeValve := true, probeTimer := .build 100 }
    let t := after (.probeBuildEnd 3 ⟨406, 406⟩) s
    (t.heads[3].pa = some 402 ∧ t.heads[3].probeStep = .hold) ∧
    (after (.probeHoldExpiry 3 401) t).heads[3].record.bind CanRecord.probeDecay = some 5 ∧
    (after (.probeHoldExpiry 3 401) t).heads[3].cycle = .probed := by decide +kernel

/-- spec/04's can let go before the valve had closed: Pa below the build minimum of 380, so a leak whatever the decay (R77). -/
theorem test_probe_let_go :
    let s := atHead fun x => { holding .probing can x with probeStep := .build, probeValve := true, probeTimer := .build 100 }
    let t := after (.probeBuildEnd 3 ⟨401, 379⟩) s
    t.heads[3].pa = some 379 ∧ (after (.probeHoldExpiry 3 379) t).heads[3].record.map CanRecord.reasons = some [.crimpLeak] := by
  decide +kernel

/-- spec/04's can 2212: no build. -/
theorem test_build_timeout :
    let s := atHead fun x => { holding .probing can x with probeStep := .build, probeValve := true, probeTimer := .build 100 }
    (after (.buildTimeoutExpiry 3) s).heads[3].record.map CanRecord.reasons = some [.crimpLeak] := by decide +kernel

theorem test_dwell_timer :
    let s := atHead fun x => { holding .dwelling can x with dwellTimer := .running 300, firstDwell := some 321 }
    (after (.dwellTimerExpiry 3 300) s).heads[3].record.map CanRecord.reasons = some [.settleLeak] ∧
    (after (.dwellTimerExpiry 3 301) s).heads[3].record.map CanRecord.reasons = some [] := by decide +kernel

/-- spec/06's worked case 1: the grant at 3800, the cut-off at 1887, the end at 1862. -/
theorem test_charge_of_case_1 :
    (charging.heads[3].cycle = .charging ∧ charging.heads[3].paired = some 1 ∧
      charging.cylinders[1].shot.map Shot.cutoff = some 1887) ∧
    measuring.cylinders[1].state = .measuring ∧
    (after (.settleTimerExpiry 1) measuring).heads[3].record.map CanRecord.total = some 7785 ∧
    (after (.settleTimerExpiry 1) measuring).allowances[0][1] = 247 := by decide +kernel

/-- R127: a reading above the start by more than the threshold of 20 ends the discharge as backflow. -/
theorem test_backflow : (after (.cylinderPressureReading 1 3820) charging).cylinders[1].state = .discharging ∧
    (after (.cylinderPressureReading 1 3821) charging).heads[3].record.map CanRecord.reasons = some [.backflow] := by decide +kernel

/-- R126: a no-flow attempt frees the cylinder, which is offered again at once. -/
theorem test_no_flow : (after (.flowDetectTimerExpiry 3) charging).heads[3].noFlowCount = 1 ∧
    (after (.flowDetectTimerExpiry 3) charging).heads[3].cycle = .charging := by decide +kernel

/-! ## Cylinders, gas supply, reject gate -/

theorem test_refill_timer :
    let s := running.modCyl 2 fun y => { y with state := .refilling, refillValve := true, refillTimer := .running 400, failures := 2 }
    (after (.refillTimerExpiry 2) s).cylinders[2].state = .outOfService ∧
    (after (.refillTimerExpiry 2) s).conds.has .cylinderOutOfService = true := by decide +kernel

theorem test_retry_timer :
    let s := running.modCyl 2 fun y => { y with state := .fault, retryTimer := .running 500, failures := 1 }
    (after (.retryTimerExpiry 2) s).cylinders[2].state = .refilling := by decide +kernel

theorem test_buffer : (after (.bufferReading 3949) running).infeed.withhold.gas = true ∧
    (after (.bufferReading 3950) running).infeed.withhold.gas = false ∧
    (after (.bufferReading 4150) (after (.bufferReading 3949) running)).infeed.withhold.gas = false := by decide +kernel

theorem test_temperature : (after (.temperatureReading (some (-400))) running).gas.heldTemp = -400 ∧
    (after (.temperatureReading (some 801)) running).gas.heldTemp = 200 ∧
    (after .tempHoldExpiry running).infeed.withhold.temp = true := by decide +kernel

/-- R104, R105: standby once the lane is empty, and the wake. -/
theorem test_standby :
    let s := after .idleTimerExpiry running
    let t := after .laneSensorOn s
    (s.gas.standby = .standby ∧ s.gas.economy = true) ∧ (t.gas.standby = .waking ∧ t.infeed.withhold.wake = true) ∧
    (after .wakeTimerExpiry t).gas.standby = .active ∧ (after .laneSensorOff t).gas.laneSensor = false := by decide +kernel

/-- R143, R144. -/
theorem test_reject_gate :
    let s := { running with verdicts := { running.verdicts with
      gateOn := true, gateTimer := .running 60, rejects := [⟨1, 50, true, some 90⟩, ⟨2, 70, false, none⟩] } }
    (after .gatePulseExpiry s).verdicts.gateOn = false ∧ (after .confirmSensorOn s).verdicts.rejects = [⟨2, 70, false, none⟩] ∧
    (after .confirmSensorOn (after .confirmSensorOn s)).verdicts.unmatched = 1 := by decide +kernel

/-! ## Witnesses: states and operands that meet the hypotheses of each statement, clause by clause -/

/-- Head 3 CHARGING from cylinder 1, head 4 WAITING, head 5 SEATED with a can that awaits its report, a reject entry QUEUED: a
state in the midst of its work. -/
def busy : State := { charging with
  heads := (charging.heads.set 4 { holding .waiting { can with head := 4, seq := 1204, target := some 8000 } charging.heads[4] with
    window := .isOpen, decided := true }).set 5 (holding .seated { can with head := 5, seq := 1205 } charging.heads[5])
  slots := charging.slots.set 0 { state := .active, recipe := some recipe, refs := 3 }
  infeed := { charging.infeed with awaiting := [⟨5, 1205, false, 0⟩] }
  grantQueue := [4]
  verdicts := { charging.verdicts with rejects := [⟨1202, 900, false, none⟩] } }

/-- `busy` with one command in its queue. -/
def queued : State := { busy with pending := [.infeedHold] }

/-- `running` with its links' transmit queue full. -/
def fullLink : State := { running with link := { running.link with
  tx := List.replicate 8 { isReport := false, frame := ⟨0x80, [0x0C]⟩ } } }

/-- `running` with slot 1 PENDING, holding the recipe. -/
def loaded : State := { running with slots := running.slots.set 1 { state := .pending, recipe := some recipe, refs := 0 } }

theorem ready_running : LinkReady running := ⟨rfl, by decide, rfl⟩
theorem ready_busy : LinkReady busy := ⟨by decide +kernel, by decide +kernel, by decide +kernel⟩
theorem ready_loaded : LinkReady loaded := ⟨rfl, by decide, rfl⟩

theorem recipe_safe : RecipeSafe recipe := by constructor <;> decide +kernel

theorem config_safe : ConfigSafe running.config := by unfold ConfigSafe; decide +kernel

theorem gasTable_safe : GasTableSafe running.gasTable := by unfold GasTableSafe; decide +kernel

theorem witness_StepRunsTheFrontCommand : running.pending = [] := rfl

theorem witness_RestartPerforms :
    (∃ s : State, s.link.restartPending = true ∧ s.link.tx = [] ∧ s.slots[0].state = .active ∧ s.slots[1].state = .retiring) ∧
    (running.link.restartPending = false ∨ running.link.tx ≠ []) ∧ LinkReady running :=
  ⟨⟨{ running with
      slots := running.slots.set 1 { state := .retiring, recipe := some recipe, refs := 1 }
      link := { running.link with restartPending := true } }, rfl, rfl, rfl, rfl⟩, .inl rfl, ready_running⟩

theorem witness_FrameOnTheLine : (Frame.mk 0x14 (List.replicate 120 0)).payload.length ≤ 120 ∧
    (Frame.mk 0x14 []).payload.length ≤ 120 := by simp

theorem witness_FillPayloadLayout :
    (LinkReady running ∧ 65535 < 65536 ∧ 10000 < 65536 ∧ 9999 < 10000) ∧
    ∃ s : State, LinkReady s ∧ s.infeed.expectedTag = some 495 ∧ 8 < (504 + 65536 - 495) % 65536 :=
  ⟨⟨ready_running, by decide, by decide, by decide⟩,
   { running with infeed := { running.infeed with expectedTag := some 495 } }, ⟨rfl, by decide, rfl⟩, rfl, by decide⟩

theorem witness_RequestsRoundTrip : (Request.read 255 255).wf = true ∧ (Request.configure 0x1 [65535]).wf = true ∧
    (Request.loadRecipe (List.replicate 25 65535)).wf = true ∧ (Request.fill 65535 65535).wf = true := by decide

theorem witness_BytesAssembleAFrame : (Frame.mk 0x08 (List.replicate 120 0)).payload.length ≤ 120 ∧
    running.link.asm.state = .hunt := by simp [running]; rfl

/-- The assembler of `running` in a state of its table. -/
def assembling (a : Assembler) : State := { running with link := { running.link with asm := a } }

theorem witness_AssemblerTakesBytes :
    let at_ (st : AsmState) (n : Nat) (p : List Byte) : Assembler :=
      { state := st, length := n, kind := 0x0C, payload := p, checkHigh := ((Frame.mk 0x0C []).check >>> 8).setWidth 8
        gapTimer := .running 5 }
    (assembling .hunting).link.asm.state = .hunt ∧ (assembling (at_ .length 0 [])).link.asm.state ≠ .hunt ∧
    (0xC2#8 ≠ 0xC3#8) ∧ (0x78#8).toNat ≤ 120 ∧ 120 < (0x79#8).toNat ∧
    (assembling (at_ .kind 0 [])).link.asm.length = 0 ∧ (assembling (at_ .kind 1 [])).link.asm.length ≠ 0 ∧
    (assembling (at_ .payload 2 [])).link.asm.payload.length + 1 < (assembling (at_ .payload 2 [])).link.asm.length ∧
    ¬(assembling (at_ .payload 2 [0])).link.asm.payload.length + 1 < (assembling (at_ .payload 2 [0])).link.asm.length ∧
    (assembling (at_ .checkHigh 0 [])).link.asm.state = .checkHigh ∧
    (at_ .checkLow 0 []).checkHigh ++ ((Frame.mk 0x0C []).check.setWidth 8 : Byte) = (Frame.mk 0x0C []).check ∧
    (at_ .checkLow 0 []).checkHigh ++ (((Frame.mk 0x0C []).check.setWidth 8 : Byte) + 1) ≠ (Frame.mk 0x0C []).check := by
  decide +kernel

theorem witness_GapAndSentFrames :
    (∃ s : State, s.link.asm.gapTimer = .running 5) ∧
    (∃ (s : State) (f : TxFrame) (rest : List TxFrame), s.link.tx = f :: rest ∧ s.link.rx = []) ∧
    (∃ (s : State) (f : TxFrame) (rest : List TxFrame), s.link.tx = f :: rest ∧ s.link.rx ≠ [] ∧ s.link.restartPending = true) ∧
    (∃ (s : State) (f : TxFrame) (rest : List TxFrame) (r : Frame), s.link.tx = f :: rest ∧ rest.length < 8 ∧
      s.link.rx = [r] ∧ s.link.restartPending = false) ∧
    (∃ (s : State) (f : TxFrame) (rest : List TxFrame) (r1 r2 : Frame), s.link.tx = f :: rest ∧ rest.length < 8 ∧
      s.link.rx = [r1, r2] ∧ s.link.restartPending = false) ∧
    running.link.asm.gapTimer = .stopped ∧ running.link.tx = [] :=
  ⟨⟨assembling { Assembler.hunting with state := .kind, gapTimer := .running 5 }, rfl⟩,
   ⟨fullLink, _, _, rfl, rfl⟩,
   ⟨{ fullLink with link := { fullLink.link with rx := [⟨0x0C, []⟩], restartPending := true } }, _, _, rfl, by simp, rfl⟩,
   ⟨{ fullLink with link := { fullLink.link with rx := [⟨0x0C, []⟩] } }, _, _, _, rfl, by decide, rfl, rfl⟩,
   ⟨{ fullLink with link := { fullLink.link with rx := [⟨0x0C, []⟩, ⟨0x0D, []⟩] } }, _, _, _, _, rfl, by decide, rfl, rfl⟩, rfl, rfl⟩

theorem witness_RequestsAreTakenInTurn :
    ((Instr.fill 503 2475).request = some (.fill 503 2475) ∧ (Request.fill 503 2475).wf = true) ∧ LinkReady running ∧
    (fullLink.link.tx.length = 8 ∧ fullLink.link.rx.length < 2) ∧
    (∃ s : State, s.link.restartPending = true ∧ s.link.rx.length < 2) ∧
    (∃ s : State, s.link.tx.length = 8 ∧ s.link.rx.length = 2) :=
  ⟨by decide, ready_running, by decide, ⟨{ running with link := { running.link with restartPending := true } }, rfl, by decide⟩,
   ⟨{ fullLink with link := { fullLink.link with rx := [⟨0x0C, []⟩, ⟨0x0D, []⟩] } }, by decide, rfl⟩⟩

/-! The laws of the whole part, in the midst of the work. -/

theorem linkSafe_busy : LinkSafe queued.link := by constructor <;> simp only [queued] <;> decide +kernel

theorem witness_LinkStaysInBounds : ∃ s t : State, LinkSafe s.link ∧ step s = .next t :=
  ⟨queued, _, linkSafe_busy, rfl⟩

theorem witness_StopLineFollowsConditions : ∃ s t : State, StopSafe s ∧ step s = .next t :=
  ⟨queued, _, by unfold StopSafe; simp only [queued]; decide +kernel, rfl⟩

/-- The second part: GAS withdrawn by a reading while HOLD_REQUEST stands. -/
theorem witness_WithholdSetFollowsOwners : (∃ s t : State, WithholdSafe s ∧ AdmissionSafe s ∧ step s = .next t) ∧
    (∃ t : State, exec (.bufferReading 4150) (after .infeedHold running) = .next t) ∧
    ((running.link.rx = [] ∧ (Instr.bufferReading 4150).wf = true) ∧ Instr.bufferReading 4150 ≠ .infeedHold ∧
      Instr.bufferReading 4150 ≠ .infeedRelease ∧ Instr.bufferReading 4150 ≠ .restartPerform ∧
      (∀ (b : LineByte) (v : Sensors), Instr.bufferReading 4150 ≠ .byteReceived b v) ∧
      ∀ a b : Bool, Instr.bufferReading 4150 ≠ .powerOnReset a b) :=
  ⟨⟨queued, _, by constructor <;> simp only [queued] <;> decide +kernel,
    by unfold AdmissionSafe; simp only [queued]; decide +kernel, rfl⟩,
   ⟨_, rfl⟩, ⟨rfl, by decide⟩, by simp, by simp, by simp, by simp, by simp⟩

theorem witness_LogAlwaysHasRoom : ∃ s t : State, RoomSafe s ∧ 0 < roomTaken s ∧ step s = .next t :=
  ⟨queued, _, by unfold RoomSafe; simp only [queued]; decide +kernel,
   by simp only [queued]; decide +kernel, rfl⟩

theorem witness_CylinderValvesFollowState :
    ∃ s t : State, (∀ c : Fin 4, CylinderSafe s.cylinders[c]) ∧ s.cylinders[1].state = .discharging ∧ step s = .next t :=
  ⟨queued, _, fun c => by constructor <;> revert c <;> simp only [queued] <;> decide +kernel,
   by simp only [queued]; decide +kernel, rfl⟩

theorem slots_busy (i : Fin 2) (r : Recipe) : busy.slots[i].recipe = some r → r = recipe := by
  have h : busy.slots = #v[{ state := .active, recipe := some recipe, refs := 3 }, .atReset] := by decide +kernel
  rw [h]; revert i; intro i; fin_cases i
  · intro h; exact (Option.some.inj h).symm
  · intro h; exact absurd h (by simp [Slot.atReset])

theorem active_busy : busy.slots[(0 : Fin 2)].state = .active := by decide +kernel

/-- What holds of the records that the heads of `busy` hold, read off head by head. -/
theorem records_busy {P : Fin 16 → CanRecord → Bool} (e : ∀ k : Fin 16, busy.heads[k].record.all (P k) = true)
    (h : Fin 16) (r : CanRecord) (hr : busy.heads[h].record = some r) : P h r = true := by
  have := e h; rw [hr] at this; simpa using this

theorem figuresSafe_busy : FiguresSafe queued where
  config := by unfold ConfigSafe; simp only [queued]; decide +kernel
  gasTable := by unfold GasTableSafe; simp only [queued]; decide +kernel
  store := {
    pair := by unfold legalPair; simp only [queued]; decide +kernel
    record := by simp only [queued]; decide +kernel
    recipe := fun i r h => by rw [slots_busy i r h]; exact recipe_safe
    allowance := by simp only [queued]; decide +kernel
    free := by simp only [queued]; decide +kernel
    refs := by simp only [queued]; decide +kernel
    refersTo := fun h r hr => by
      have := records_busy (P := fun _ r => decide (r.slot = 0)) (by decide +kernel) h r hr
      rw [decide_eq_true_eq] at this
      simp only [this]; exact .inl active_busy
    retiring := by simp only [queued]; decide +kernel }

theorem witness_FiguresStayLegal : ∃ s t : State, FiguresSafe s ∧ 0 < s.slots[0].refs ∧ step s = .next t :=
  ⟨queued, _, figuresSafe_busy, by simp only [queued]; decide +kernel, rfl⟩

theorem rangesSafe_busy : RangesSafe queued where
  position := by simp only [queued]; decide +kernel
  revolution := by simp only [queued]; decide +kernel
  heads := fun h => {
    noFlow := by revert h; simp only [queued]; decide +kernel
    zeros := by revert h; simp only [queued]; decide +kernel
    offset := by revert h; simp only [queued]; decide +kernel
    record := fun r hr => by
      have := records_busy (P := fun _ r => decide ((1 ≤ r.seq ∧ r.seq ≤ 16777215) ∧
        (r.reasons.length ≤ 4 ∧ r.reasons.Nodup) ∧ r.shots.length ≤ 3)) (by decide +kernel) h r hr
      rw [decide_eq_true_eq] at this
      exact ⟨this.1, this.2.1, this.2.2⟩
    undecided := fun r hr _ => by
      have := records_busy (P := fun _ r => decide (r.shots = [])) (by decide +kernel) h r hr
      simpa using this
    toCome := fun r hr _ => by
      have := records_busy (P := fun _ r => decide (r.shots.length ≤ 2)) (by decide +kernel) h r hr
      simpa using this }
  awaiting := {
    once := by simp only [queued]; decide +kernel
    held := fun e he => by
      have : busy.infeed.awaiting = [⟨5, 1205, false, 0⟩] := by decide +kernel
      simp only [queued, this, List.mem_singleton] at he
      subst he
      exact ⟨{ can with head := 5, seq := 1205 }, by simp only [queued]; decide +kernel⟩
    oldest := fun e he => by
      have : busy.infeed.awaiting = [⟨5, 1205, false, 0⟩] := by decide +kernel
      simp only [queued, this, List.head?_cons, Option.some.injEq] at he
      subst he; rfl
    either := .inl (by simp only [queued]; decide +kernel) }
  infeed := by
    constructor <;> simp only [queued]
    · decide +kernel
    · decide +kernel
    · have : busy.infeed.fillQueue = [] := by decide +kernel
      simp [this]
    · decide +kernel
    · have : busy.infeed.expectedTag = none := by decide +kernel
      simp [this]
    · decide +kernel
  pressures := by simp only [queued]; decide +kernel
  grants := by simp only [queued]; decide +kernel
  buffer := by simp only [queued]; decide +kernel
  temperature := by simp only [queued]; decide +kernel
  unmatched := by simp only [queued]; decide +kernel
  log := by
    have : busy.verdicts.log = [] := by decide +kernel
    simp [queued, this]

theorem pairingSafe_busy : PairingSafe busy where
  charging := by decide +kernel
  paired := by decide +kernel
  discharging := by decide +kernel
  inlets := by decide +kernel
  empty := by decide +kernel
  probing := by decide +kernel
  probeValve := by decide +kernel
  waiting := by decide +kernel
  asks := fun h hh => by
    have e : ∀ k : Fin 16, (busy.heads[k].cycle = .waiting ∨ busy.heads[k].cycle = .charging) →
        (busy.heads[k].record.any fun r => r.target == some 8000) = true ∧ busy.heads[k].window = .isOpen ∧
          busy.heads[k].decided = true ∧ busy.heads[k].pendingResult = none := by decide +kernel
    obtain ⟨e1, e2⟩ := e h hh
    cases hr : busy.heads[h].record with
    | none => rw [hr] at e1; exact absurd e1 (by simp)
    | some r => rw [hr] at e1; exact ⟨⟨r, 8000, rfl, by simpa using e1⟩, e2⟩
  result := by decide +kernel
  early := by decide +kernel

theorem witness_HeadsAndCylindersStayPaired : ∃ s t : State, PairingSafe s ∧ step s = .next t :=
  ⟨queued, _, { pairingSafe_busy with }, rfl⟩

theorem witness_ItemsStayInRange :
    ∃ s t : State, FiguresSafe s ∧ PairingSafe s ∧ RangesSafe s ∧ s.infeed.awaiting ≠ [] ∧ step s = .next t :=
  ⟨queued, _, figuresSafe_busy, { pairingSafe_busy with }, rangesSafe_busy, by simp only [queued]; decide +kernel, rfl⟩

/-! Requests. -/

theorem witness_BadRequestsAreRefused : LinkReady running ∧
    ((0x14#8).toNat = 0 ∨ 19 < (0x14#8).toNat) ∧ ((0x00#8).toNat = 0 ∨ 19 < (0x00#8).toNat) ∧
    ((0x08#8, 4) ∈ ([(0x08#8, 4)] : List (Byte × Nat)) ∧ (List.replicate 3 (0 : Byte)).length ≠ 4) ∧
    (List.replicate 5 (0 : Byte)).length < 6 ∧
    (let p : List Byte := [1, 0, 0, 0, 0, 0, 7]
     p.length ≠ 6 + ((maskFields 41 (BitVec.ofNat 48 (leNat (p.take 6)))).map configWidth).sum) ∧
    (List.replicate 3 (0 : Byte)).length < 4 ∧
    (let p : List Byte := [1, 0, 0, 0, 7]
     p.length ≠ 4 + 2 * (maskFields 25 (BitVec.ofNat 32 (leNat (p.take 4)))).length) ∧
    (7 < 8 ∧ 8 < 256) ∧ (16 ≤ 16 ∧ 16 < 256) ∧ 4 ≤ 4 ∧ 3 ≤ 3 ∧ 2 ≤ 2 ∧ (0 = 0 ∨ 2 < 0) ∧ (3 = 0 ∨ 2 < 3) ∧ 2 < 3 ∧
    (15 < 16 ∧ 2 < 3) ∧ (4 ≤ 255 ∧ 255 < 256) ∧ (3 < 4 ∧ 1 < 2) :=
  ⟨ready_running, by decide⟩

theorem witness_ReadsAnswerAndChangeNothing : (LinkReady busy ∧ 255 < 256) ∧ 65535 < 256 ^ 2 ∧
    (-32768 < (-32767 : Int) ∧ (-32767 : Int) < 32768) ∧ (List.replicate 16 true).length ≤ 16 :=
  ⟨⟨ready_busy, by decide⟩, by decide, by decide, by decide⟩

theorem witness_FiguresReadBack : ConfigSafe running.config ∧ GasTableSafe running.gasTable ∧
    (running.slots[0].recipe = some recipe ∧ RecipeSafe recipe ∧ running.slots[0].refs < 256) :=
  ⟨config_safe, gasTable_safe, rfl, recipe_safe, by decide⟩

/-- Of a mask with one bit, the one named field and its one value. -/
theorem only_field {w : Nat} {n : Nat} {mask : BitVec w} {k x : Nat} (hm : maskFields n mask = [k])
    (P : Nat → Nat → Nat → Prop) (h : P 0 k x) :
    ∀ i f v : Nat, (maskFields n mask)[i]? = some f → [x][i]? = some v → P i f v := by
  intro i f v h1 h2
  rw [hm] at h1
  cases i with
  | zero => simp at h1 h2; subst h1 h2; exact h
  | succ i => simp at h1

/-- A mask below its top named bit has no bit above it. -/
theorem no_high_bit {w : Nat} {mask : BitVec w} {k : Nat} (h : mask.toNat < 2 ^ k) :
    ∀ f : Nat, k ≤ f → mask.getLsbD f = false := by
  intro f hf
  rw [← BitVec.testBit_toNat]
  exact Nat.testBit_lt_two_pow (Nat.lt_of_lt_of_le h (Nat.pow_le_pow_right (by decide) hf))

/-- A field value is within its range of the machine configuration. -/
def inConfigRange (f v : Nat) : Prop := ∀ r : Nat × Nat, configRanges.toList[f]? = some r → r.1 ≤ v ∧ v ≤ r.2

theorem in_range {f v : Nat} {r : Nat × Nat} (h : configRanges.toList[f]? = some r) (hv : r.1 ≤ v ∧ v ≤ r.2) :
    inConfigRange f v := by
  intro q hq; rw [h] at hq; exact Option.some.inj hq ▸ hv

theorem not_in_range {f v : Nat} {r : Nat × Nat} (h : configRanges.toList[f]? = some r) (hv : ¬(r.1 ≤ v ∧ v ≤ r.2)) :
    ¬inConfigRange f v := fun g => hv (g r h)

/-- The accepted case: the index tolerance at its greatest, 16. The refusals: a can held; bit 41, the lowest that names no
field; 17 for a tolerance of at most 16; the reject distance with an entry queued; SEAT not above INFEED, and GATE not above
ZERO; a throttle-off threshold equal to the throttle-on threshold. -/
theorem witness_ConfigureWritesNamedFields : LinkReady running ∧ LinkReady busy ∧
    (valuesFit configWidth (maskFields 41 0x2000#48) [16] = true ∧ inProcess running = 0 ∧
      (∀ f : Nat, 41 ≤ f → (0x2000#48).getLsbD f = false) ∧
      (∀ n f v : Nat, (maskFields 41 0x2000#48)[n]? = some f → [16][n]? = some v → inConfigRange f v) ∧
      ((0x2000#48).getLsbD 34 = true → running.verdicts.rejects = []) ∧
      (let c := configured running.config 0x2000#48 [16]
       (∀ n : Nat, n < 12 → c.fields.toList.getD n 0 < c.fields.toList.getD (n + 1) 0) ∧ throttleOn c < throttleOff c)) ∧
    inProcess busy ≠ 0 ∧
    ((0x20000000000#48).getLsbD 41 = true ∧ valuesFit configWidth (maskFields 41 0x20000000000#48) [] = true) ∧
    (valuesFit configWidth (maskFields 41 0x2000#48) [17] = true ∧ ¬inConfigRange 13 17) ∧
    ((0x400000000#48).getLsbD 34 = true ∧ valuesFit configWidth (maskFields 41 0x400000000#48) [1024] = true ∧
      ∃ s : State, LinkReady s ∧ inProcess s = 0 ∧ s.verdicts.rejects ≠ []) ∧
    (let c := configured running.config 0x2#48 [0]
     ¬(c.fields.toList.getD 0 0 < c.fields.toList.getD 1 0)) ∧
    (let c := configured running.config 0x1000#48 [3840]
     (∀ m : Nat, m < 11 → c.fields.toList.getD m 0 < c.fields.toList.getD (m + 1) 0) ∧
       ¬(c.fields.toList.getD 11 0 < c.fields.toList.getD 12 0)) ∧
    (let c := configured running.config 0x40000000#48 [3950]
     (∀ n : Nat, n < 12 → c.fields.toList.getD n 0 < c.fields.toList.getD (n + 1) 0) ∧ throttleOff c ≤ throttleOn c) := by
  refine ⟨ready_running, ready_busy, ⟨by decide +kernel, by decide +kernel, no_high_bit (k := 41) (by decide),
    only_field (k := 13) (by decide +kernel) (fun _ f v => inConfigRange f v) (in_range (r := (0, 16)) (by decide) (by decide)),
    fun _ => rfl, by decide +kernel⟩, by decide +kernel, by decide +kernel,
    ⟨by decide +kernel, not_in_range (r := (0, 16)) (by decide) (by decide)⟩, ⟨by decide, by decide +kernel,
    { running with verdicts := { running.verdicts with rejects := [⟨1202, 900, false, none⟩] } }, ⟨rfl, by decide, rfl⟩,
    by decide +kernel, by simp⟩, by decide +kernel, by decide +kernel, by decide +kernel⟩

theorem witness_GasTableIsReplaced : LinkReady running ∧ LinkReady busy ∧ inProcess running = 0 ∧ inProcess busy ≠ 0 ∧
    ((∀ i : Fin 17, gasTableDefaults[i] < 65536) ∧ GasTableSafe ⟨gasTableDefaults⟩) ∧
    (let p := gasTableDefaults.set 16 65001
     (∀ i : Fin 17, p[i] < 65536) ∧ 65000 < p[16] ∧ ∀ j : Fin 17, j < 16 → p[j] ≤ 65000) ∧
    (let p := gasTableDefaults.set 16 8837
     (∀ i : Fin 17, p[i] < 65536) ∧ (∀ j : Fin 17, p[j] ≤ 65000) ∧ p[16] ≤ p[15] ∧
       ∀ j : Fin 16, j < 15 → p[j.val]'(by omega) < p[j.val + 1]'(by omega)) :=
  ⟨ready_running, ready_busy, by decide +kernel, by decide +kernel, ⟨by decide +kernel, gasTable_safe⟩, by decide +kernel,
   by decide +kernel⟩

theorem witness_RecipeIsLoaded :
    (∀ f : Fin 25, recipe.fields[f] < 65536) ∧ RecipeSafe recipe ∧
    (LinkReady loaded ∧ loaded.slots[1].state = .pending ∧ ∀ j : Fin 2, loaded.slots[j].state = .pending → j = 1) ∧
    (LinkReady running ∧ (∀ j : Fin 2, running.slots[j].state ≠ .pending) ∧ running.slots[1].state = .free ∧
      ∀ j : Fin 2, j < 1 → running.slots[j].state ≠ .free) ∧
    (∃ s : State, LinkReady s ∧ ∀ j : Fin 2, s.slots[j].state ≠ .pending ∧ s.slots[j].state ≠ .free) ∧
    (let r : Recipe := ⟨recipe.fields.set 24 4⟩
     ¬(recipeRanges[24].1 ≤ r.fields[24] ∧ r.fields[24] ≤ recipeRanges[24].2) ∧
       ∀ g : Fin 25, g < 24 → recipeRanges[g].1 ≤ r.fields[g] ∧ r.fields[g] ≤ recipeRanges[g].2) :=
  ⟨by decide +kernel, recipe_safe, ⟨ready_loaded, rfl, by decide +kernel⟩,
   ⟨ready_running, by decide +kernel, rfl, by decide +kernel⟩,
   ⟨{ running with slots := running.slots.set 1 { state := .retiring, recipe := some recipe, refs := 1 } },
    ⟨rfl, by decide, rfl⟩, by decide +kernel⟩, by decide +kernel⟩

/-- The cross-checks of R155, in its order, as they stand for a record. -/
def crossChecks (r : Recipe) : List Bool :=
  [decide (fillMin r ≤ fillMax r), decide (doseMin r ≤ doseMax r), decide (depthMin r ≤ depthMax r),
   decide (depthMax r < noCupDepth r), decide (diameterMin r ≤ diameterMax r), decide (probeBuildMin r ≤ probePressure r),
   decide (floorPressure r + 500 ≤ fillPressure r), decide (toleranceLow r < doseMin r)]

/-- Records whose fields are in range and whose first failing cross-check is the first to the eighth, each failing by one;
and a record with windows of one value that passes all. -/
theorem witness_RecipeCrossChecks : LinkReady loaded ∧ loaded.slots[1].state = .pending ∧
    (∀ j : Fin 2, loaded.slots[j].state = .pending → j = 1) ∧
    (let with_ (f : Fin 25) (v : Nat) : Recipe := ⟨recipe.fields.set f v⟩
     let rows : List Recipe := [with_ 2 2701, ⟨(recipe.fields.set 6 501).set 7 500⟩, with_ 10 3201, with_ 12 3200, with_ 13 2581,
       with_ 16 401, with_ 22 3301, with_ 8 500]
     rows.map (fun r => (crossChecks r).findIdx? fun b => !b) = (List.range 8).map some ∧
     (rows.all fun r => (List.finRange 25).all fun f =>
       decide (recipeRanges[f].1 ≤ r.fields[f] ∧ r.fields[f] ≤ recipeRanges[f].2)) = true) ∧
    (let r : Recipe := ⟨(((recipe.fields.set 2 2700).set 6 20000).set 10 3200).set 13 2580⟩
     (crossChecks r).all id = true ∧ ∀ f : Fin 25, recipeRanges[f].1 ≤ r.fields[f] ∧ r.fields[f] ≤ recipeRanges[f].2) :=
  ⟨ready_loaded, rfl, by decide +kernel, by decide +kernel, by decide +kernel⟩

/-- The lowest bit that names no recipe field, 25; no slot PENDING; the empty mask; the floor pressure amended to 1400, to 499,
which is out of its range, and to 3301, which is within 500 of the fill pressure. -/
theorem witness_RecipeIsAmended :
    ((0x2000000#32).getLsbD 25 = true ∧ valuesFit recipeWidth (maskFields 25 0x2000000#32) [] = true) ∧
    (LinkReady running ∧ ∀ j : Fin 2, running.slots[j].state ≠ .pending) ∧
    (LinkReady loaded ∧ loaded.slots[1].state = .pending ∧ (∀ j : Fin 2, loaded.slots[j].state = .pending → j = 1) ∧
      loaded.slots[1].recipe = some recipe ∧ RecipeSafe recipe) ∧
    (valuesFit recipeWidth (maskFields 25 0#32) [] = true) ∧
    (∀ f : Nat, 25 ≤ f → (0x400000#32).getLsbD f = false) ∧
    (∀ x : Nat, x < 65536 → let r' : Recipe := ⟨recipe.fields.set 22 x⟩
      (∀ n f v : Nat, (maskFields 25 0x400000#32)[n]? = some f → [x][n]? = some v → r'.fields.toList[f]? = some v) ∧
      (∀ f : Nat, (0x400000#32).getLsbD f = false → r'.fields.toList[f]? = recipe.fields.toList[f]?)) ∧
    RecipeSafe ⟨recipe.fields.set 22 1400⟩ ∧
    (let r' : Recipe := ⟨recipe.fields.set 22 499⟩
     ¬(recipeRanges[22].1 ≤ r'.fields[22] ∧ r'.fields[22] ≤ recipeRanges[22].2) ∧
       ∀ g : Fin 25, g < 22 → recipeRanges[g].1 ≤ r'.fields[g] ∧ r'.fields[g] ≤ recipeRanges[g].2) ∧
    (let r' : Recipe := ⟨recipe.fields.set 22 3301⟩
     (∀ f : Fin 25, recipeRanges[f].1 ≤ r'.fields[f] ∧ r'.fields[f] ≤ recipeRanges[f].2) ∧ (0x400000#32) ≠ 0 ∧
       (crossChecks r').findIdx? (fun b => !b) = some 6) := by
  refine ⟨by decide +kernel, ⟨ready_running, by decide +kernel⟩, ⟨ready_loaded, rfl, by decide +kernel, rfl, recipe_safe⟩,
    by decide +kernel, no_high_bit (k := 25) (by decide), fun x _ => ⟨?_, ?_⟩, by constructor <;> decide +kernel, by decide +kernel,
    by decide +kernel⟩
  · refine only_field (k := 22) (by decide +kernel) (fun _ f v => (recipe.fields.set 22 x).toList[f]? = some v) ?_
    simp
  · intro f hf
    have : f ≠ 22 := by rintro rfl; exact absurd hf (by decide)
    simp only [Vector.toList_set, List.getElem?_set_ne this.symm]

theorem witness_RecipeIsActivated :
    (LinkReady running ∧ ∀ j : Fin 2, running.slots[j].state ≠ .pending) ∧
    (LinkReady loaded ∧ (1 : Fin 2) ≠ 0 ∧ loaded.slots[1].state = .pending ∧ loaded.slots[0].state ≠ .pending ∧
      loaded.slots[1].recipe = some recipe ∧ 102 ≠ recipeId recipe ∧ 101 = recipeId recipe ∧ loaded.slots[0].refs < 256) ∧
    (∃ s : State, LinkReady s ∧ s.slots[1].state = .pending ∧ s.slots[1].recipe = some recipe ∧ s.slots[0].state = .active ∧
      s.slots[0].refs = 0) :=
  ⟨⟨ready_running, by decide +kernel⟩, ⟨ready_loaded, by decide, rfl, by decide +kernel, rfl, by decide, by decide, by decide⟩,
   { loaded with slots := loaded.slots.set 0 { state := .active, recipe := some recipe, refs := 0 } }, ⟨rfl, by decide, rfl⟩,
   rfl, rfl, rfl, rfl⟩

theorem witness_RecipeIsDiscarded :
    (LinkReady loaded ∧ loaded.slots[1].state = .pending ∧ ∀ j : Fin 2, loaded.slots[j].state = .pending → j = 1) ∧
    (LinkReady running ∧ ∀ j : Fin 2, running.slots[j].state ≠ .pending) :=
  ⟨⟨ready_loaded, rfl, by decide +kernel⟩, ready_running, by decide +kernel⟩

/-- A report eight ahead of the expected tag that fits (one awaiting can, a debt of 0, an empty queue: nine entries less one),
and one that does not; an entry against a debt, one bound to a can behind which two settled ones leave the list (owing 3, and 17
with 14 owed), and one that joins the queue. -/
theorem witness_FillReportIsApplied :
    (∃ s : State, LinkReady s ∧ s.infeed.expectedTag = some 496 ∧ (504 + 65536 - 496) % 65536 ≤ 8 ∧
      (9 - s.infeed.debt - s.infeed.awaiting.length) + s.infeed.fillQueue.length ≤ 8 ∧ s.infeed.debt < 256 ∧
      ∀ a : AwaitEntry, a ∈ s.infeed.awaiting → a.settled = false ∧ a.owed = 0 ∧ a.seq < 16777216) ∧
    (∃ s : State, LinkReady s ∧ s.infeed.expectedTag = some 496 ∧
      8 < (9 - s.infeed.debt - s.infeed.awaiting.length) + s.infeed.fillQueue.length) ∧
    (LinkReady running ∧ running.infeed.expectedTag = none ∧ 65535 < 65536 ∧ 9999 ≤ 9999) ∧
    (∃ u : State, 0 < u.infeed.debt) ∧
    (∃ u : State, u.infeed.debt = 0 ∧ u.infeed.awaiting = ⟨3, 1203, false, 1⟩ :: [⟨4, 1204, true, 0⟩, ⟨5, 1205, true, 14⟩]) ∧
    ((0 + ((([⟨4, 1204, true, 0⟩, ⟨5, 1205, true, 14⟩] : List AwaitEntry).takeWhile AwaitEntry.settled).map fun g => g.owed + 1).sum = 16) ∧
      ¬(1 + ((([⟨4, 1204, true, 0⟩, ⟨5, 1205, true, 14⟩] : List AwaitEntry).takeWhile AwaitEntry.settled).map fun g => g.owed + 1).sum ≤ 16)) ∧
    (running.infeed.debt = 0 ∧ running.infeed.awaiting = []) :=
  ⟨⟨{ running with infeed := { running.infeed with expectedTag := some 496, awaiting := [⟨3, 1203, false, 0⟩] } },
    ⟨rfl, by decide, rfl⟩, rfl, by decide, by decide, by decide, by simp⟩,
   ⟨{ running with infeed := { running.infeed with expectedTag := some 496 } }, ⟨rfl, by decide, rfl⟩, rfl, by decide⟩,
   ⟨ready_running, rfl, by decide, by decide⟩, ⟨{ running with infeed := { running.infeed with debt := 1 } }, by decide⟩,
   ⟨{ running with infeed := { running.infeed with
        awaiting := [⟨3, 1203, false, 1⟩, ⟨4, 1204, true, 0⟩, ⟨5, 1205, true, 14⟩] } }, rfl, rfl⟩, by decide, rfl, rfl⟩

theorem witness_FillIsResynchronised : LinkReady running ∧ running.infeed.fillQueue.length < 256 ∧ running.infeed.debt < 256 :=
  ⟨ready_running, by decide, by decide⟩

/-! Heads and cylinders. -/

theorem witness_HeadServiceRequests :
    let s (v : Service) (r : Option ReturnState) : State := atHead fun x => { x with service := v, returnState := r }
    (LinkReady (s .enabled none) ∧ LinkReady busy) ∧
    ((s .enabled none).heads[3].service = .enabled ∧ (s .zeroing none).heads[3].service = .zeroing) ∧
    ((s .disabling (some .enabled)).heads[3].service = .disabling ∧
      (s .disabling (some .enabled)).heads[3].returnState = some .enabled) ∧
    ((s .disabled none).heads[3].service = .disabled ∧ (s .outOfService none).heads[3].service = .outOfService) ∧
    (busy.heads[3].service = ReturnState.enabled.service ∧ busy.heads[3].record.isSome = true) ∧
    ¬((s .zeroing none).heads[3].record.isSome = true ∨ (s .zeroing none).infeed.admitted[3] = true) ∧
    (busy.heads[3].record.map fun r => decide (r.seq < 16777216)) = some true :=
  ⟨⟨⟨rfl, by decide, rfl⟩, ready_busy⟩, by decide +kernel, by decide +kernel, by decide +kernel, by decide +kernel, by decide +kernel,
   by decide +kernel⟩

theorem witness_HeadIsReset : LinkReady busy ∧
    (busy.heads[5].paired = none ∧ busy.heads[5].cycle ≠ .waiting ∧ busy.heads[5].cycle ≠ .probing) ∧
    (busy.heads[4].paired = none ∧ busy.heads[4].cycle = .waiting) ∧
    (busy.heads[3].paired = some 1 ∧ busy.heads[3].cycle = .charging ∧ busy.cylinders[1].state = .discharging ∧
      busy.cylinders[1].owner = some 3) ∧
    (let s := atHead (holding .probing)
     s.heads[3].paired = none ∧ s.heads[3].cycle = .probing ∧ s.heads[3].window = .notOpen) ∧
    (let s := atHead fun x => { holding .probing can x with window := .isOpen }
     s.heads[3].paired = none ∧ s.heads[3].cycle = .probing ∧ s.heads[3].window ≠ .notOpen) :=
  ⟨ready_busy, by decide +kernel, by decide +kernel, by decide +kernel, by decide +kernel, by decide +kernel⟩

theorem witness_CylinderServiceRequests :
    let s (v : CylState) : State := running.modCyl 2 fun y => { y with state := v }
    LinkReady running ∧ LinkReady (s .disabled) ∧
    ((s .idle).cylinders[2].state = .idle ∧ (s .fault).cylinders[2].state = .fault) ∧
    (busy.cylinders[1].state = .discharging ∧ busy.cylinders[1].disablePending = false) ∧
    (let t := busy.modCyl 1 fun y => { y with disablePending := true }
     t.cylinders[1].state = .discharging ∧ t.cylinders[1].disablePending = true) ∧
    ((s .disabled).cylinders[2].state = .disabled ∧ refillCondition (s .disabled) = true) ∧
    (let t := { s .outOfService with gas := { running.gas with standby := .standby } }
     t.cylinders[2].state = .outOfService ∧ refillCondition t = false) ∧
    (∃ t : State, ∀ c : Fin 4, t.cylinders[c].state = .disabled ∨ t.cylinders[c].state = .outOfService) ∧
    (running.cylinders[0].state ≠ .disabled ∧ running.cylinders[0].state ≠ .outOfService) ∧
    (busy.cylinders[1].pressure < 65536 ∧ busy.cylinders[1].failures < 256) :=
  ⟨ready_running, ⟨rfl, by decide, rfl⟩, by decide +kernel, by decide +kernel, by decide +kernel, by decide +kernel,
   by decide +kernel,
   ⟨{ running with cylinders := Vector.replicate 4 { Cylinder.atReset with state := .disabled } }, by decide +kernel⟩,
   by decide +kernel, by decide +kernel⟩

theorem witness_InfeedHoldAndRelease : LinkReady running := ready_running

theorem witness_VerdictsAreTaken :
    (∃ s : State, LinkReady s ∧ s.verdicts.log.length = 64 ∧ s.verdicts.log.length ≤ 64) ∧ (2 = 1 ∨ 2 = 2) ∧
    (0 ≠ 1 ∧ 0 ≠ 2 ∧ 0 < 256) ∧ (3 ≠ 1 ∧ 3 ≠ 2 ∧ 3 < 256) ∧ (16777215 < 256 ^ 3) ∧ (-32768 < (-32767 : Int) ∧ (-32767 : Int) < 32768) :=
  ⟨⟨{ running with verdicts := { running.verdicts with log := List.replicate 64 can } }, ⟨rfl, by decide, rfl⟩, by simp, by simp⟩,
   by decide, by decide, by decide, by decide, by decide⟩

/-- Bit 12, the lowest that names no condition; and conditions 0 and 2 after a slip, of which 0 stays. -/
theorem witness_ConditionsAreCleared :
    (LinkReady running ∧ (0x1000#16).getLsbD 12 = true) ∧
    (∀ f : Nat, 12 ≤ f → (0x5#16).getLsbD f = false) ∧
    (let s : State := { running with
       tracker := { running.tracker with state := .slipped }
       conds := { running.conds with isSet := (running.conds.isSet.set 0 true).set 2 true, stopLine := true } }
     LinkReady s ∧ ∃ (v : Vector Bool 12) (stop : Bool),
       (∀ k : Condition, v[k.num] = (s.conds.isSet[k.num] && !((0x5#16).getLsbD k.num.val && !causePresent s k))) ∧
       stop = (v[0] || v[1] || v[2] || v[3])) :=
  ⟨⟨ready_running, by decide⟩, no_high_bit (k := 12) (by decide), ⟨rfl, by decide, rfl⟩,
   running.conds.isSet.set 0 true, true, fun k => by cases k <;> decide +kernel, by decide +kernel⟩

theorem witness_ReportsAndConditionsAreGiven : LinkReady running ∧
    (running.conds.mask.getLsbD 12 = true ∧ running.link.restartPending = false ∧
      running.link.tx.countP TxFrame.isReport < 6 ∧ running.link.tx.length < 8) ∧
    (∃ s : State, s.link.tx.countP TxFrame.isReport = 5 ∧ s.link.tx.length = 7) ∧
    (∃ s : State, ¬(s.link.tx.countP TxFrame.isReport < 6 ∧ s.link.tx.length < 8)) ∧
    (∃ s : State, ¬(s.conds.mask.getLsbD 12 = true)) ∧
    (∃ s : State, s.conds.isSet[(Condition.positionSlip).num] = true) ∧
    (running.conds.isSet[(Condition.positionSlip).num] = false ∧ running.conds.isSet[(Condition.lateFill).num] = false) ∧
    ((busy.tracker.position < 65536 ∧ busy.tracker.revolution < 4294967296) ∧ busy.heads[3].noFlowCount < 256 ∧
      busy.heads[3].zeroCount < 256 ∧ busy.cylinders[1].pressure < 65536 ∧ busy.cylinders[1].failures < 256) :=
  ⟨ready_running, by decide +kernel,
   ⟨{ running with link := { running.link with
        tx := List.replicate 5 { isReport := true, frame := ⟨0x93, []⟩ } ++
          List.replicate 2 { isReport := false, frame := ⟨0x80, []⟩ } } },
    by decide +kernel, by decide +kernel⟩,
   ⟨{ running with link := { running.link with tx := List.replicate 6 { isReport := true, frame := ⟨0x93, []⟩ } } }, by decide +kernel⟩,
   ⟨{ running with conds := { running.conds with mask := 0 } }, by decide +kernel⟩,
   ⟨{ running with conds := { running.conds with isSet := running.conds.isSet.set 0 true } }, by decide +kernel⟩,
   by decide +kernel, by decide +kernel⟩

theorem witness_SourceIsSelected : LinkReady running ∧
    ((2, Source.simulated) ∈ ([(0, .primary), (1, .secondary), (2, .simulated)] : List (Nat × Source))) ∧
    (inProcess running = 0 ∧ running.verdicts.rejects = []) ∧ LinkReady busy ∧
    (inProcess busy ≠ 0 ∨ busy.verdicts.rejects ≠ []) ∧
    (running.tracker.state = .locked ∧ running.infeed.withhold.position = false) :=
  ⟨ready_running, by decide, by decide +kernel, ready_busy, by decide +kernel, by decide +kernel⟩

theorem witness_RelockLeavesSlipped :
    (let s : State := { running with tracker := { running.tracker with state := .slipped } }
     LinkReady s ∧ s.tracker.state = .slipped) ∧ LinkReady running ∧ running.tracker.state ≠ .slipped :=
  ⟨⟨⟨rfl, by decide, rfl⟩, rfl⟩, ready_running, by decide⟩

/-! The position tracker. -/

/-- The tracker in a state, with a first-index flag and an interval counter. -/
def tracking (st : TrackerState) (seen : Bool) (i : Int) : State := { running with
  tracker := { running.tracker with state := st, firstIndexSeen := seen, interval := i } }

/-- Intervals at the edges of each clause, with the index tolerance of 2: in SEEKING a forward count from 4098 is overdue, from
4097 not; an index at 4093 or 4099 is out of place, at 4094 and 4098 in place. -/
theorem witness_CountsBeforeLock : indexTolerance running.config = 2 ∧ running.tracker.source = .primary ∧
    State.reset.tracker.state = .unlocked ∧ (tracking .seeking false 0).tracker.firstIndexSeen = false ∧
    ((tracking .seeking true 4098).tracker.firstIndexSeen = true ∧ (4096 : Int) + 2 + 1 ≤ (tracking .seeking true 4098).tracker.interval + 1) ∧
    (tracking .seeking true 4097).tracker.interval + 1 < (4096 : Int) + 2 + 1 ∧
    ((tracking .seeking true 4092).tracker.interval + 1 < (4096 : Int) - 2 ∧
      (4096 : Int) + 2 < (tracking .seeking true 4098).tracker.interval + 1) ∧
    ((4096 : Int) - 2 ≤ (tracking .seeking true 4093).tracker.interval + 1 ∧
      (tracking .seeking true 4097).tracker.interval + 1 ≤ (4096 : Int) + 2) ∧
    ((tracking .slipped false 0).tracker.state = .slipped ∧ autoRelock (tracking .slipped false 0).config = true) ∧
    autoRelock (MachineConfig.mk (configDefaults.set 16 0)) = false := by decide +kernel

/-- In LOCKED, at the edges of each clause: an index at 4094, 4096, 4097, 4098, -2, 0, 1 and 2 is taken, one at -3, 3 and 4093
slips, one at 4099 is overdue. -/
theorem witness_LockedCountsMove :
    let at_ (i : Int) : Int := (tracking .locked false (i - 1)).tracker.interval + 1
    (tracking .locked false 0).tracker.source = .primary ∧ (tracking .locked false 0).tracker.state = .locked ∧
    indexTolerance (tracking .locked false 0).config ≤ 16 ∧
    ((4096 : Int) - 2 ≤ at_ 4094 ∧ at_ 4094 ≤ 4096 ∧ at_ 4096 ≤ 4096) ∧ (4096 < at_ 4097 ∧ at_ 4098 ≤ (4096 : Int) + 2) ∧
    (-(2 : Int) ≤ at_ (-2) ∧ at_ (-2) ≤ 0 ∧ at_ 0 ≤ 0) ∧ (0 < at_ 1 ∧ at_ 2 ≤ 2) ∧
    (at_ (-3) < -(2 : Int)) ∧ ((2 : Int) < at_ 3 ∧ at_ 4093 < (4096 : Int) - 2) ∧ (4096 : Int) + 2 < at_ 4099 := by decide +kernel

theorem witness_SimulatedCountsAndStops :
    (let s : State := { running with tracker := { running.tracker with source := .simulated, genRunning := true } }
     s.tracker.source = .simulated ∧ s.tracker.genRunning = true ∧ (s.tracker.genCount + 1) % 4096 = 1) ∧
    (let s : State := { running with tracker := { running.tracker with source := .simulated, genRunning := true, genCount := 4095 } }
     s.tracker.source = .simulated ∧ s.tracker.genRunning = true ∧ (s.tracker.genCount + 1) % 4096 ≠ 1) ∧
    (running.tracker.source ≠ .simulated ∧ running.tracker.source = .primary) ∧
    (∃ s : State, s.tracker.source = .secondary) ∧
    (running.tracker.stopDetect = .running 200 ∧ running.tracker.motion = .running) ∧
    (∃ s : State, s.tracker.stopDetect = .running 200 ∧ s.tracker.motion = .stopped) ∧
    State.reset.tracker.stopDetect = .stopped :=
  ⟨by decide +kernel, by decide +kernel, by decide +kernel,
   ⟨{ running with tracker := { running.tracker with source := .secondary } }, rfl⟩, by decide +kernel,
   ⟨{ running with tracker := { running.tracker with motion := .stopped } }, rfl, rfl⟩, rfl⟩

theorem witness_SlipIsTaken : PairingSafe busy ∧ busy.infeed.withhold.position = false ∧ busy.heads[4].cycle = .waiting ∧
    (busy.heads[3].cycle = .charging ∧ busy.heads[3].paired = some 1) ∧
    (busy.heads[5].cycle ≠ .waiting ∧ busy.heads[5].cycle ≠ .charging) :=
  ⟨pairingSafe_busy, by decide +kernel⟩

/-! Stations. -/

/-- `running` with head 3's sensors. -/
def sensing (x : HeadSensors) (s : State) : State :=
  { s with sensors := { s.sensors with heads := s.sensors.heads.set 3 x } }

theorem witness_StationsMeetTheirHeads : ConfigSafe running.config ∧
    ([Taker.verdictUnit, .head 3] : List Taker).Nodup ∧
    (stationPosition running.config 3 .infeed = 768 ∧ ∀ st ∈ stations, stationPosition running.config 3 st ≠ 769) ∧
    ((atHead (holding .seated)).heads[3].record ≠ none ∧ (atHead (holding .seated)).heads[3].cycle = .seated) ∧
    (running.heads[3].record = none ∨ running.heads[3].cycle ≠ .seated) ∧
    (running.heads[3].cycle = .empty ∧ running.heads[3].service = .zeroing) ∧
    ((atHead (holding .seated)).heads[3].cycle ≠ .empty) ∧
    (let diff (raw : Int) : Int := (min 2000 raw.toNat : Nat) - (atmosphere running.config : Int)
     let good (raw : Int) : Prop := -(zeroWindow running.config : Int) ≤ diff raw ∧ diff raw ≤ (zeroWindow running.config : Int)
     good 86 ∧ good 116 ∧ ¬good 85 ∧ ¬good 117) ∧
    (running.heads[3].zeroCount < 2 ∧ 2 ≤ (atHead fun x => { x with zeroCount := 2 }).heads[3].zeroCount) :=
  ⟨config_safe, by decide, by decide +kernel⟩

/-- A head that stands open, ENABLED and EMPTY, with 63 records in the log and with 64; a pocket met by each service state. -/
theorem witness_CansEnterAtInfeed :
    (let s : State := atHead (fun x => { x with service := .enabled })
       { running with verdicts := { running.verdicts with log := List.replicate 63 can } }
     s.infeed.withhold.any = false ∧ s.heads[3].service = .enabled ∧ s.heads[3].cycle = .empty ∧ roomTaken s < 64 ∧
       s.gas.standby ≠ .standby) ∧
    (∃ s : State, s.infeed.withhold.any = false ∧ s.heads[3].service = .enabled ∧ s.heads[3].cycle = .empty ∧
      roomTaken s < 64 ∧ s.gas.standby = .standby) ∧
    ¬(running.heads[3].service = .enabled) ∧ busy.heads[5].record ≠ none ∧
    (running.heads[3].record = none ∧ running.sensors.pocket = false) ∧
    (∃ s : State, s.heads[3].record = none ∧ s.sensors.pocket = true ∧ activeSlot s = none) ∧
    (∃ s : State, s.heads[3].record = none ∧ s.sensors.pocket = true ∧ ¬(s.infeed.admitted[3] = true ∨ roomTaken s < 64)) ∧
    (∃ s : State, s.heads[3].record = none ∧ s.sensors.pocket = true ∧ activeSlot s = some 0 ∧ s.infeed.admitted[3] = true ∧
      s.heads[3].service = .enabled) ∧
    (∃ s : State, s.heads[3].record = none ∧ s.sensors.pocket = true ∧ activeSlot s = some 0 ∧ roomTaken s < 64 ∧
      s.heads[3].service = .zeroing) ∧
    (∃ s : State, s.heads[3].record = none ∧ s.sensors.pocket = true ∧ activeSlot s = some 0 ∧ roomTaken s < 64 ∧
      s.heads[3].service = .disabled) :=
  let open_ (f : Head → Head) : State := { atHead f with sensors := { running.sensors with pocket := true } }
  ⟨by decide +kernel,
   ⟨{ atHead (fun x => { x with service := .enabled }) with gas := { running.gas with standby := .standby } },
    by decide +kernel, by decide +kernel, by decide +kernel, by decide +kernel, rfl⟩,
   by decide +kernel, by decide +kernel, by decide +kernel,
   ⟨{ State.reset with sensors := { quietSensors with pocket := true } }, by decide +kernel, rfl, by decide +kernel⟩,
   ⟨{ running with
      sensors := { running.sensors with pocket := true }
      verdicts := { running.verdicts with log := List.replicate 64 can } }, by decide +kernel, rfl, by decide +kernel⟩,
   ⟨{ open_ (fun x => { x with service := .enabled }) with
      infeed := { running.infeed with admitted := running.infeed.admitted.set 3 true } },
    by decide +kernel, rfl, by decide +kernel, by decide +kernel, by decide +kernel⟩,
   ⟨open_ id, by decide +kernel, rfl, by decide +kernel, by decide +kernel, by decide +kernel⟩,
   ⟨open_ fun x => { x with service := .disabled }, by decide +kernel, rfl, by decide +kernel, by decide +kernel, by decide +kernel⟩⟩

theorem witness_CrimpIsRead : ((atHead (holding .seated)).heads[3].record = some can ∧ (atHead (holding .seated)).heads[3].cycle = .seated) ∧
    (Reason.noCup ∈ ({ can with reasons := [.noCup] } : CanRecord).reasons) ∧
    (let r : CanRecord := { can with reasons := [.noCup, .crimpDeep, .crimpLeak] }
     Reason.doseLow ∉ r.reasons ∧ r.reasons.length < 4) ∧
    (let r : CanRecord := { can with reasons := [.noCup, .crimpDeep, .crimpLeak, .fillLost] }
     Reason.doseLow ∉ r.reasons ∧ 4 ≤ r.reasons.length) := by decide +kernel

/-- Corrected pressures at and one below the probe pressure of 400; Pa one below and at the build minimum of 380; decays of 9
and 8 against the limit of 8. -/
theorem witness_ProbeRuns :
    let probing (step : Machine.ProbeStep) (pa : Option Nat) : State :=
      atHead fun x => { holding .probing can x with zeroOffset := 4, probeStep := step, pa := pa }
    let corrected (raw : Int) : Nat := min 2000 (((min 2000 raw.toNat : Nat) : Int) - 4).toNat
    ((atHead (holding .crimped { can with reasons := [.crimpDeep] })).heads[3].record = some { can with reasons := [.crimpDeep] } ∧
      (atHead (holding .crimped { can with reasons := [.crimpDeep] })).heads[3].cycle = .crimped) ∧
    ((atHead (holding .crimped)).heads[3].record = some can ∧ (atHead (holding .crimped)).heads[3].cycle = .crimped) ∧
    (corrected 404 = probePressure recipe ∧ corrected 403 < probePressure recipe) ∧
    (let two : BuildReadings := ⟨404, 383⟩
     probePressure recipe ≤ corrected two.reached ∧ corrected two.closing < probeBuildMin recipe) ∧
    (running.heads[3].record = none ∧ (atHead (holding .seated)).heads[3].cycle ≠ .crimped) ∧
    ((probing .build none).heads[3].cycle = .probing ∧ (probing .build none).heads[3].probeStep = .build) ∧
    ((probing .hold (some 380)).heads[3].probeStep = .hold ∧ (probing .hold (some 380)).heads[3].pa = some 380) ∧
    (379 < probeBuildMin recipe ∧ probeBuildMin recipe ≤ 380) ∧
    ((probeDecayLimit recipe : Int) < (402 : Int) - (corrected 397 : Int) ∧
      (402 : Int) - (corrected 398 : Int) ≤ (probeDecayLimit recipe : Int)) ∧
    ((probing .hold none).heads[3].probeStep ≠ .build ∧ (probing .build none).heads[3].probeStep ≠ .hold) := by decide +kernel

/-! The charge. -/

/-- Cans PROBED and undecided: without a report, with one at each edge of the fill window and beyond it, marked, lost; a debt
that the settlement raises to 16 and past it. -/
theorem witness_ChargeIsDecided :
    let probed (r : CanRecord) : State := atHead (holding .probed r)
    ((probed can).heads[3].record = some can ∧ (probed can).heads[3].cycle = .probed ∧ (probed can).heads[3].decided = false ∧
      can.fillMass = none ∧ can.boundLost = false ∧ policyRejects (slotRecipe (probed can) can.slot) = false ∧
      can.reasons = [] ∧ 3 ∉ (probed can).grantQueue) ∧
    (fillMin recipe ≤ 2300 ∧ 2300 ≤ fillMax recipe ∧ 2700 ≤ fillMax recipe ∧ ¬(2701 ≤ fillMax recipe) ∧ ¬(fillMin recipe ≤ 2299)) ∧
    (let r : CanRecord := { can with reasons := [.crimpLeak] }
     (probed r).heads[3].record = some r ∧ r.reasons ≠ []) ∧
    (let r : CanRecord := { can with boundLost := true }
     (probed r).heads[3].record = some r ∧ r.fillMass = none ∧ r.boundLost = true) ∧
    (atHead fun x => { holding .probed can x with decided := true }).heads[3].decided = true ∧
    (running.heads[3].record = none ∧ (atHead (holding .seated)).heads[3].cycle ≠ .probed) ∧
    (let s : State := { probed can with infeed := { running.infeed with debt := 15, awaiting := [⟨3, 1203, false, 0⟩] } }
     s.infeed.debt + 1 ≤ 16) ∧
    (let s : State := { probed can with infeed := { running.infeed with debt := 16, awaiting := [⟨3, 1203, false, 0⟩] } }
     ¬(s.infeed.debt + 1 ≤ 16)) := by decide +kernel

/-- Head 3 WAITING at the front of the queue, cylinder 1 READY and no lower one; a mass at the minimum shot of 200 and one below
it (the allowance of cylinder 1 is 300). -/
theorem witness_OffersFollowTheQueue :
    running.grantQueue = [] ∧ (∀ c : Fin 4, running.cylinders[c].state ≠ .ready) ∧
    (let waits (t : Nat) : State :=
       { atHead (holding .waiting { can with target := some t }) with grantQueue := [3] }.modCyl 1 fun y =>
         { y with state := .ready, pressure := 3800 }
     ((waits 500).grantQueue = 3 :: [] ∧ (waits 500).grantQueue.Nodup ∧ (waits 500).cylinders[1].state = .ready ∧
       (∀ d : Fin 4, d < 1 → (waits 500).cylinders[d].state ≠ .ready) ∧
       (waits 500).heads[3].record = some { can with target := some 500 }) ∧
     (minimumShot (waits 500).config : Int) ≤ (500 : Int) - 0 - ((waits 500).allowances[0][1] : Int) ∧
     (499 : Int) - 0 - ((waits 499).allowances[0][1] : Int) < (minimumShot (waits 499).config : Int)) := by decide +kernel

/-- The default table; a shot of worked case 1 and one of worked case 2; densities that rise and that fall. -/
theorem witness_DoseArithmetic : GasTableSafe ⟨gasTableDefaults⟩ ∧ (0 < 250 ∧ 249 < 250) ∧ 4000 ≤ 4000 ∧
    ((0 : Nat) < 1500 ∧ (-2732 : Int) < -2731 ∧ (0 : Int) < 7700) ∧
    (let t : GasTable := ⟨gasTableDefaults⟩
     ¬(density t 3800 - 5133 < density t 1600) ∧ density t 3800 - 9798 < density t 1600) ∧
    ((3805 : Int) < 3806 ∧ (3805 : Int) ≤ 3805) :=
  ⟨gasTable_safe, by decide +kernel⟩

/-! Cylinders. -/

/-- `running` with cylinder 1 changed. -/
def cyl (f : Cylinder → Cylinder) : State := running.modCyl 1 f

/-- Readings at each edge: the fill pressure of 3800, the top-up band below it, the flow threshold of 25 and the backflow
threshold of 20 from a start of 3800, the cut-off of 1887. -/
theorem witness_CylinderReadingsAreTaken :
    (cyl id).cylinders[1].state = .idle ∧
    ((cyl fun y => { y with state := .refilling }).cylinders[1].state = .refilling ∧ activeSlot running = some 0 ∧
      3799 < fillPressure (slotRecipe running 0) ∧ fillPressure (slotRecipe running 0) ≤ 3800) ∧
    ((cyl fun y => { y with state := .refilling, failures := 2 }).cylinders[1].failures = 2 ∧
      (cyl fun y => { y with state := .refilling }).cylinders[1].disablePending = false) ∧
    (activeSlot State.reset = none) ∧
    ((cyl fun y => { y with state := .ready }).cylinders[1].state = .ready ∧ running.gas.standby = .active ∧
      (3749 : Int) < (fillPressure (slotRecipe running 0) : Int) - (topUpBand running.config : Int) ∧
      ¬((3750 : Int) < (fillPressure (slotRecipe running 0) : Int) - (topUpBand running.config : Int))) ∧
    (charging.cylinders[1].state = .discharging ∧ charging.cylinders[1].owner = some 3 ∧
      (charging.cylinders[1].shot.map fun z => (z.startP, z.cutoff)) = some (3800, 1887) ∧
      charging.heads[3].flowDetected = false) ∧
    ((3775 : Int) ≤ 3800 - (flowThreshold charging.config : Int) ∧ ¬((3776 : Int) ≤ 3800 - (flowThreshold charging.config : Int))) ∧
    (3800 + backflowThreshold charging.config < 3821 ∧ 3820 ≤ 3800 + backflowThreshold charging.config) ∧
    (1887 ≤ 1887 ∧ 1887 < 1888) := by decide +kernel

theorem witness_RefillTimersExpire :
    (let s (n : Nat) := cyl fun y => { y with state := .refilling, refillTimer := .running 400, failures := n }
     (s 1).cylinders[1].state = .refilling ∧ (s 1).cylinders[1].refillTimer = .running 400 ∧ (s 1).cylinders[1].failures < 2 ∧
       2 ≤ (s 2).cylinders[1].failures) ∧
    (running.cylinders[1].refillTimer = .stopped ∧ running.cylinders[1].retryTimer = .stopped) ∧
    (let s := cyl fun y => { y with state := .fault, retryTimer := .running 500 }
     s.cylinders[1].state = .fault ∧ s.cylinders[1].retryTimer = .running 500 ∧ refillCondition s = true) ∧
    (let s : State := { cyl (fun y => { y with state := .fault, retryTimer := .running 500 }) with
       gas := { running.gas with standby := .waking } }
     s.cylinders[1].state = .fault ∧ refillCondition s = false) := by decide +kernel

/-- The shot of worked case 1 measured; the same with the head's pending result elsewhere; a SHORT shot at the first of three,
whose follow-on holds, with a target that the remainder of 200 just reaches. -/
theorem witness_MeasurementCompletes :
    (measuring.cylinders[1].state = .measuring ∧ measuring.cylinders[1].settleTimer = .running 80 ∧
      measuring.cylinders[1].owner = some 3 ∧ measuring.cylinders[1].shot.isSome = true) ∧
    (measuring.heads[3].pendingResult = some 1 ∧ measuring.heads[3].record.isSome = true ∧ measuring.heads[3].cycle = .charged) ∧
    (let s := measuring.modHead 3 fun x => { x with pendingResult := none }
     s.heads[3].pendingResult ≠ some 1 ∧ s.cylinders[1].owner = some 3) ∧
    (let s := addReason 3 .positionLost measuring
     (s.heads[3].record.map CanRecord.reasons) = some [.positionLost] ∧ s.heads[3].pendingResult = some 1) ∧
    ((measuring.cylinders[1].shot.map Shot.short) = some false ∧
      (measuring.heads[3].record.bind CanRecord.target) = some 8000 ∧ (measuring.heads[3].record.map CanRecord.reasons) = some []) ∧
    (let s := measuring.modCyl 1 fun y => { y with shot := y.shot.map fun z => { z with short := true } }
     (s.cylinders[1].shot.map Shot.short) = some true ∧ 0 + 1 < maxShots (slotRecipe s 0) ∧ s.heads[3].window = .isOpen ∧
       (minimumShot s.config : Int) ≤ (7985 : Int) - (7785 : Int) ∧ 3 ∉ s.grantQueue) ∧
    (let s (c : Cycle) := measuring.modHead 3 fun x => { x with cycle := c }
     (s .dwelling).heads[3].cycle ≠ .waiting ∧ (s .lifted).heads[3].pendingResult = some 1) ∧
    running.cylinders[1].settleTimer = .stopped := by decide +kernel

theorem witness_FlowAndDwellTimersExpire :
    (charging.heads[3].record.isSome = true ∧ charging.heads[3].cycle = .charging ∧ charging.heads[3].paired = some 1 ∧
      charging.heads[3].flowTimer = .running 60 ∧ charging.heads[3].flowDetected = false ∧
      charging.cylinders[1].state = .discharging ∧ 3 ∉ charging.grantQueue) ∧
    (let s (n : Nat) := charging.modHead 3 fun x => { x with noFlowCount := n }
     (s 1).heads[3].noFlowCount < 2 ∧ 2 ≤ (s 2).heads[3].noFlowCount) ∧
    ((charging.heads[3].record.map CanRecord.reasons) = some [] ∧
      ((addReason 3 .positionLost charging).heads[3].record.map CanRecord.reasons) = some [.positionLost]) ∧
    (running.heads[3].flowTimer = .stopped ∧ running.heads[3].dwellTimer = .stopped) ∧
    (let s := atHead fun x => { holding .dwelling can x with dwellTimer := .running 300, firstDwell := some 321 }
     s.heads[3].dwellTimer = .running 300 ∧ s.heads[3].cycle = .dwelling ∧ s.heads[3].record = some can ∧
       s.heads[3].firstDwell = some 321 ∧ (321 : Int) - 301 ≤ (dwellDecayLimit (slotRecipe s can.slot) : Int) ∧
       (dwellDecayLimit (slotRecipe s can.slot) : Int) < (321 : Int) - 300) := by decide +kernel

/-! From the end of the charge window to the verdict. -/

theorem witness_WindowClosesAndCansDwell :
    let at_ (c : Cycle) (r : CanRecord) (w : Window) (d : Bool) : State :=
      atHead fun x => { holding c r x with window := w, decided := d }
    let shot : ShotEntry := { cylinder := 1, startP := 3800, cutoff := 1600, endP := 1580, temperature := 120, delivered := 8989
                              short := true, aborted := false, backflow := false, overRange := false }
    (running.heads[3].record = none ∧ running.heads[3].cycle = .empty) ∧
    ((at_ .charged can .isOpen true).heads[3].record = some can ∧ (at_ .charged can .isOpen true).heads[3].decided = true ∧
      (at_ .charged can .isOpen true).heads[3].cycle = .charged) ∧
    ((at_ .waiting can .isOpen true).heads[3].cycle = .waiting ∧ can.shots = []) ∧
    (let r : CanRecord := { can with shots := [shot], total := 8989, target := some 15360 }
     (at_ .waiting r .isOpen true).heads[3].record = some r ∧ r.shots ≠ [] ∧ r.reasons = [] ∧ r.target = some 15360) ∧
    (charging.heads[3].decided = true ∧ charging.heads[3].cycle = .charging ∧ charging.heads[3].paired = some 1 ∧
      charging.cylinders[1].state = .discharging ∧ charging.cylinders[1].owner = some 3 ∧
      charging.cylinders[1].shot.isSome = true) ∧
    ((at_ .probing can .isOpen false).heads[3].decided = false ∧ (at_ .probing can .isOpen false).heads[3].cycle = .probing) ∧
    ((at_ .seated can .notOpen false).heads[3].decided = false ∧ (at_ .seated can .notOpen false).heads[3].cycle = .seated ∧
      (at_ .seated can .notOpen false).heads[3].window ≠ .closed) ∧
    ((at_ .charged can .closed true).heads[3].window = .closed ∧ (at_ .charged can .closed true).heads[3].cycle = .charged) ∧
    (let r : CanRecord := { can with reasons := [.noCharge] }
     (at_ .charged r .closed true).heads[3].record = some r ∧ r.reasons ≠ []) ∧
    ((at_ .lifted can .closed true).heads[3].cycle ≠ .charged ∧ (at_ .lifted can .closed true).heads[3].dwellTimer = .stopped) ∧
    (let s := atHead fun x => { holding .dwelling can x with window := .closed, decided := true, dwellTimer := .running 300 }
     s.heads[3].dwellTimer = .running 300 ∧ s.heads[3].cycle ≠ .waiting) := by decide +kernel

theorem witness_VerdictsAndRejects :
    (let s := atHead fun x => { holding .lifted can x with window := .closed, decided := true }
     s.heads[3].record = some can ∧ s.heads[3].window = .closed ∧ s.heads[3].decided = true ∧ s.heads[3].cycle ≠ .waiting ∧
       s.slots[0].refs ≤ 1 ∧ s.infeed.awaiting = []) ∧
    (let s : State := { atHead (fun x => { holding .lifted can x with window := .closed, decided := true }) with
       infeed := { running.infeed with awaiting := [] ++ ⟨5, 1190, false, 0⟩ :: ⟨3, 1203, true, 2⟩ :: [⟨6, 1204, false, 0⟩] } }
     s.heads[3].record = some can ∧ s.infeed.awaiting = [] ++ ⟨5, 1190, false, 0⟩ :: ⟨3, 1203, true, 2⟩ :: [⟨6, 1204, false, 0⟩] ∧
       (∀ b ∈ ([] ++ ⟨5, 1190, false, 0⟩ :: [⟨6, 1204, false, 0⟩] : List AwaitEntry), ¬(b.head = 3 ∧ b.seq = 1203)) ∧
       (∀ b : AwaitEntry, s.infeed.awaiting.head? = some b → b.settled = false) ∧ s.infeed.debt ≤ 16) ∧
    running.heads[3].record = none ∧
    (let s : State := { running with verdicts := { running.verdicts with
       rejects := [⟨1, 70, false, none⟩] ++ ⟨2, 50, true, some 90⟩ :: [⟨3, 60, true, some 99⟩] } }
     s.verdicts.rejects = [⟨1, 70, false, none⟩] ++ ⟨2, 50, true, some 90⟩ :: [⟨3, 60, true, some 99⟩] ∧
       ∀ d ∈ ([⟨1, 70, false, none⟩] : List RejectEntry), d.fired = false) ∧
    (∀ d ∈ busy.verdicts.rejects, d.fired = false) ∧
    (∃ s : State, s.verdicts.gateTimer = .running 60) ∧ running.verdicts.gateTimer = .stopped :=
  ⟨by decide +kernel, ⟨rfl, rfl, by decide, fun b hb => by cases hb; rfl, by decide⟩, by decide +kernel, by decide +kernel,
   by decide +kernel,
   ⟨{ running with verdicts := { running.verdicts with gateOn := true, gateTimer := .running 60 } }, rfl⟩, rfl⟩

/-! The gas supply. -/

/-- Readings at the thresholds of 3950 and 4150; temperatures of -400, 800, -401 and 801, and an open sensor. -/
theorem witness_GasSupplyIsWatched :
    (running.gas.throttleOn = false ∧ 3949 < throttleOn running.config ∧ throttleOn running.config ≤ 3950) ∧
    (let s : State := { running with gas := { running.gas with throttleOn := true } }
     s.gas.throttleOn = true ∧ 3949 < throttleOn s.config ∧ throttleOff s.config ≤ 4150) ∧
    ((-400 : Int) ≤ -400 ∧ (-400 : Int) ≤ 800 ∧ (800 : Int) ≤ 800) ∧
    ((-401 : Int) < -400 ∨ (800 : Int) < -401) ∧ ((801 : Int) < -400 ∨ (800 : Int) < 801) ∧
    (∀ t : Int, (none : Option Int) = some t → t < -400 ∨ 800 < t) ∧
    (running.gas.tempGood = false ∧ ∃ s : State, s.gas.tempGood = true) ∧
    running.gas.holdTimer = .running 10000 ∧ (∃ s : State, s.gas.holdTimer = .expired) :=
  ⟨by decide +kernel, by decide +kernel, by decide, by decide, by decide, by simp,
   ⟨rfl, { running with gas := { running.gas with tempGood := true, holdTimer := .stopped } }, rfl⟩, rfl,
   { running with gas := { running.gas with holdTimer := .expired } }, rfl⟩

theorem witness_StandbyAndWake :
    (running.gas.idleTimer = .running 30000 ∧ running.gas.standby = .active ∧ running.gas.laneSensor = false) ∧
    (let s : State := { running with gas := { running.gas with idleTimer := .expired, laneSensor := true } }
     s.gas.standby = .active ∧ s.gas.idleTimer = .expired) ∧
    (let s : State := { running with gas := { running.gas with standby := .standby } }
     s.gas.standby = .standby ∧ s.gas.standby ≠ .active) ∧
    (let s : State := { running with gas := { running.gas with standby := .waking, wakeTimer := .running 1500 } }
     s.gas.wakeTimer = .running 1500 ∧ s.gas.wakeTimer ≠ .expired) ∧
    running.gas.wakeTimer = .stopped ∧
    (let s : State := { running with gas := { running.gas with standby := .waking, wakeTimer := .expired } }
     s.gas.standby = .waking ∧ s.gas.wakeTimer = .expired ∧ s.gas.throttleOn = false ∧ activeSlot s = some 0) ∧
    (let s : State := { State.reset with gas := { running.gas with standby := .waking, wakeTimer := .expired } }
     s.gas.standby = .waking ∧ s.gas.wakeTimer = .expired ∧ s.gas.throttleOn = false ∧ activeSlot s = none) := by decide +kernel

end Sys2Proof.Tests
end

section
/-! PROOF. LOAD RECIPE (spec/09 R153 to R155): what the request brings to its handler, and the cross-checks of R155 as a
table of requirements, each with the field its failure names. -/

namespace Sys2Proof.Machine

/-! ## LOAD RECIPE at a ready link -/

/-- Values below 65,536, one for each field, fit the two bytes of a recipe field (spec/11 R185). -/
theorem valuesFit_recipeWidth (fs vs : List Nat) (hl : vs.length = fs.length) (hv : ∀ v ∈ vs, v < 65536) :
    valuesFit recipeWidth fs vs = true := by
  induction fs generalizing vs with
  | nil => rw [List.length_eq_zero_iff.mp hl]; rfl
  | cons f fs ih =>
    cases vs with
    | nil => simp at hl
    | cons v vs =>
      obtain ⟨hv, hvs⟩ := List.forall_mem_cons.mp hv
      simp [valuesFit, recipeWidth, hv, ih vs (by simpa using hl) hvs]

/-- The frame of a LOAD RECIPE whose values fit it spells that request (spec/11 R176, R184). -/
theorem decodeRequest_loadRecipe (values : List Nat) (h : valuesFit recipeWidth (List.range 25) values = true) :
    decodeRequest (encodeRequest (.loadRecipe values)) = .ok (.loadRecipe values) := by
  have hl : values.length = 25 := by simpa using valuesFit_length _ _ _ h
  have hp := parseValues_valueBytes recipeWidth (List.range 25) values h
  simp [decodeRequest, encodeRequest, isRequestKind, decodePayload, hl, hp]

/-- A LOAD RECIPE that arrives at a ready link is handled at once. -/
theorem exec_loadRecipe_ready (values : List Nat) (s : State) (hs : LinkReady s)
    (h : valuesFit recipeWidth (List.range 25) values = true) :
    exec (.loadRecipe values) s = .next (handleLoadRecipe values s) := by
  rw [exec_request (.loadRecipe values) (.loadRecipe values) s rfl]
  simp only [arrive_ready _ s hs, takeRequest, decodeRequest_loadRecipe values h]
  rfl

/-- The record of a recipe's own 25 values is that recipe. -/
theorem recipeOf_toList (r : Recipe) : recipeOf r.fields.toList = r := by
  unfold recipeOf
  congr 1
  ext f hf
  have hnamed := writeFields_named (List.range 25) r.fields.toList (Vector.replicate 25 0) List.nodup_range f f r.fields[f]
    (by simp [hf]) (by simp [hf]) hf
  simpa [hf] using hnamed

/-- A record that fails its checks is refused, and no slot changes (spec/09 R153). -/
theorem handleLoadRecipe_refused (r : Recipe) (s : State) (code : RefusalCode) (f : Nat)
    (h : recipeCheck r = some (code, f)) :
    handleLoadRecipe r.fields.toList s =
      s.withReply ⟨0x81, [0x04, BitVec.ofNat 8 (refusalNumber code), BitVec.ofNat 8 f]⟩ := by
  simp only [handleLoadRecipe, recipeOf_toList, h]
  rfl

/-- A number below 256 stands in its one byte (spec/11 R188). -/
theorem item_one_of_lt {v : Nat} (h : v < 256) : item 1 v = [BitVec.ofNat 8 v] := by
  simp [item, leBytes, h]

theorem slotState_code_lt (x : SlotState) : x.code < 256 := by
  cases x <;> decide

/-- The states of both slots, as a reply carries them. -/
theorem slotStates_items (slots : Vector Slot 2) :
    (slots.toList.flatMap fun x => item 1 x.state.code) =
      [BitVec.ofNat 8 slots[0].state.code, BitVec.ofNat 8 slots[1].state.code] := by
  have hl : slots.toList = [slots[0], slots[1]] := by
    refine List.ext_getElem (by simp) fun k hk _ => ?_
    obtain rfl | rfl : k = 0 ∨ k = 1 := by simp at hk; omega
    all_goals simp
  simp [hl, item_one_of_lt (slotState_code_lt _)]

/-- A record that passes its checks is written into the slot chosen, which is then PENDING (spec/09 R153). -/
theorem handleLoadRecipe_loaded (r : Recipe) (s : State) (i : Fin 2) (h : recipeCheck r = none)
    (hi : loadSlot s = some i) :
    let t : State := { s with slots := s.slots.set i { s.slots[i] with state := .pending, recipe := some r } }
    handleLoadRecipe r.fields.toList s = t.withReply
      ⟨0x80, [0x04, BitVec.ofNat 8 i.val, BitVec.ofNat 8 t.slots[0].state.code, BitVec.ofNat 8 t.slots[1].state.code]⟩ := by
  intro t
  simp only [handleLoadRecipe, recipeOf_toList, h, hi]
  rw [slotStates_items, item_one_of_lt (by omega)]
  rfl

/-- The only PENDING slot is the slot that LOAD RECIPE writes (spec/09 R153). -/
theorem loadSlot_pending (s : State) (i : Fin 2) (hi : s.slots[i].state = .pending)
    (ho : ∀ j : Fin 2, s.slots[j].state = .pending → j = i) : loadSlot s = some i := by
  have hp : pendingSlot s = some i := by
    cases hf : pendingSlot s with
    | none => exact absurd hi (by simpa using List.find?_eq_none.mp hf i (List.mem_finRange i))
    | some j => exact congrArg some (ho j (by simpa using List.find?_some hf))
  simp [loadSlot, hp]

/-! ## The checks of a record -/

/-- A record whose values all lie within their ranges is decided by its cross-checks (spec/09 R154, R155). -/
theorem recipeCheck_of_ranges (r : Recipe)
    (h : ∀ f : Fin 25, recipeRanges[f].1 ≤ r.fields[f] ∧ r.fields[f] ≤ recipeRanges[f].2) :
    recipeCheck r = firstFailure (crossChecks r) := by
  have hr : firstFailure (rangeChecks recipeRanges (List.range 25) r.fields.toList) = none := by
    refine (rangeChecks_none _ _ _).mpr fun n f v hf hv x hx => ?_
    obtain ⟨hn, rfl⟩ := List.getElem?_eq_some_iff.mp hf
    obtain ⟨hlt, rfl⟩ := List.getElem?_eq_some_iff.mp hv
    have hn : n < 25 := by simpa using hn
    have hx : recipeRanges[n] = x := by simpa [hn] using hx
    simpa [hx] using h ⟨n, hn⟩
  rw [recipeCheck, firstFailure_append, hr]

/-- No range of a recipe field passes 65,535 (spec/09 R154, spec/11 R185). -/
theorem recipeRanges_fit (f : Fin 25) : recipeRanges[f].2 < 65536 := by
  revert f; decide

/-- Values within their ranges fit the two bytes of a recipe field. -/
theorem recipe_valuesFit_of_ranges (r : Recipe)
    (h : ∀ f : Fin 25, recipeRanges[f].1 ≤ r.fields[f] ∧ r.fields[f] ≤ recipeRanges[f].2) :
    valuesFit recipeWidth (List.range 25) r.fields.toList = true := by
  refine valuesFit_recipeWidth _ _ (by simp) fun v hv => ?_
  obtain ⟨f, hf, rfl⟩ := List.getElem_of_mem hv
  have hf : f < 25 := by simpa using hf
  exact (h ⟨f, hf⟩).2.trans_lt (recipeRanges_fit ⟨f, hf⟩)

/-! ## The cross-checks as a table -/

/-- The table of R155 for a record: each requirement, in order, with the field named on its failure. -/
def crossRows (r : Recipe) : List (Prop × Byte) :=
  [(fillMin r ≤ fillMax r, 3), (doseMin r ≤ doseMax r, 7), (depthMin r ≤ depthMax r, 11), (depthMax r < noCupDepth r, 12),
   (diameterMin r ≤ diameterMax r, 14), (probeBuildMin r ≤ probePressure r, 16),
   (floorPressure r + 500 ≤ fillPressure r, 22), (toleranceLow r < doseMin r, 8)]

open Classical in
/-- The check of one row: BAD_FIELD at its field where its requirement does not hold. -/
noncomputable def rowCheck (row : Prop × Byte) : Check := if row.1 then none else some (.badField, row.2.toNat)

theorem rowCheck_of_holds {p : Prop} {f : Byte} (h : p) : rowCheck (p, f) = none := if_pos h

theorem rowCheck_of_fails {p : Prop} {f : Byte} (h : ¬p) : rowCheck (p, f) = some (.badField, f.toNat) := if_neg h

theorem rowCheck_eq_require (p : Prop) [Decidable p] (f : Byte) : rowCheck (p, f) = require (decide p) .badField f.toNat := by
  by_cases h : p
  · rw [rowCheck_of_holds h, require, decide_eq_true h, if_pos rfl]
  · rw [rowCheck_of_fails h, require, decide_eq_false h, if_neg Bool.false_ne_true]

/-- The model's cross-checks are the rows of the table, in its order (spec/09 R155). -/
theorem crossChecks_eq_rows (r : Recipe) : crossChecks r = (crossRows r).map rowCheck := by
  simp only [crossRows, List.map_cons, List.map_nil, rowCheck_eq_require]
  rfl

/-- The first row whose requirement fails decides. -/
theorem crossChecks_fail (r : Recipe) (n : Nat) (p : Prop) (f : Byte) (hn : (crossRows r)[n]? = some (p, f)) (hp : ¬p)
    (hb : ∀ (m : Nat) (q : Prop) (g : Byte), m < n → (crossRows r)[m]? = some (q, g) → q) :
    firstFailure (crossChecks r) = some (.badField, f.toNat) := by
  rw [crossChecks_eq_rows]
  refine firstFailure_at _ n _ ?_ fun m c hm hc => ?_
  · rw [List.getElem?_map, hn, Option.map_some, rowCheck_of_fails hp]
  · rw [List.getElem?_map, Option.map_eq_some_iff] at hc
    obtain ⟨⟨q, g⟩, hrow, rfl⟩ := hc
    exact rowCheck_of_holds (hb m q g hm hrow)

/-- Where every row's requirement holds, every cross-check passes. -/
theorem crossChecks_pass (r : Recipe) (h : ∀ (n : Nat) (p : Prop) (f : Byte), (crossRows r)[n]? = some (p, f) → p) :
    firstFailure (crossChecks r) = none := by
  rw [crossChecks_eq_rows, firstFailure_none, List.forall_mem_map]
  rintro ⟨p, f⟩ hrow
  obtain ⟨n, hn⟩ := List.getElem?_of_mem hrow
  exact rowCheck_of_holds (h n p f hn)

/-- Settles O27: within the ranges the cross-checks alone decide, and these are the table's rows; the first row that fails is
the refusal, and with none the record goes into the PENDING slot. -/
theorem recipeCrossChecks : Obligations.RecipeCrossChecks := by
  intro r s hs hr checks
  rw [exec_loadRecipe_ready _ s hs (recipe_valuesFit_of_ranges r hr)]
  refine ⟨fun n p f hn hp hb => ?refused, fun i hpass hi ho => ?taken⟩
  case refused =>
    have hc : recipeCheck r = some (.badField, f.toNat) :=
      (recipeCheck_of_ranges r hr).trans (crossChecks_fail r n p f hn hp hb)
    rw [handleLoadRecipe_refused r s _ _ hc, BitVec.ofNat_toNat, BitVec.setWidth_eq]
    rfl
  case taken =>
    have hc : recipeCheck r = none := (recipeCheck_of_ranges r hr).trans (crossChecks_pass r hpass)
    exact ⟨_, _, congrArg _ (handleLoadRecipe_loaded r s i hc (loadSlot_pending s i hi ho))⟩

end Sys2Proof.Machine
end

section
/-! PROOF. Frames and the FILL request: the bytes of a frame on the line (spec/11 R174, R183), the FILL payload (R186), and
the two refusals of a fill report that its figures alone decide (spec/03 R55). -/

namespace Sys2Proof.Machine

/-! ## A frame on the line -/

/-- The layout of R183, byte for byte. -/
theorem lineBytes_layout (f : Frame) :
    f.lineBytes = [0xC3#8, BitVec.ofNat 8 f.payload.length, f.kind] ++ f.payload ++
      [(f.check >>> 8).setWidth 8, f.check.setWidth 8] := rfl

/-- Start byte, length, kind and the two bytes of the check stand beside the payload (spec/11 R183). -/
theorem lineBytes_length (f : Frame) : f.lineBytes.length = f.payload.length + 5 := by
  simp only [lineBytes_layout, List.length_append, List.length_cons, List.length_nil]
  omega

/-- Settles O5: the layout gives the length, and the check over nine bytes is R174's own value. -/
theorem frameOnTheLine : Obligations.FrameOnTheLine := by
  refine ⟨fun f _ => ⟨lineBytes_layout f, lineBytes_length f, rfl⟩, ?check⟩
  case check => decide +kernel

/-! ## The FILL payload -/

/-- A number in two bytes: the low byte is the remainder by 256, the high byte the quotient. -/
theorem leBytes_two (v : Nat) : leBytes 2 v = [BitVec.ofNat 8 (v % 256), BitVec.ofNat 8 (v / 256)] := by
  have hlow : BitVec.ofNat 8 v = BitVec.ofNat 8 (v % 256) := BitVec.eq_of_toNat_eq (by simp)
  simp [leBytes, hlow]

/-- Four bytes under kind 08h spell a tag and a mass, each low byte first (spec/11 R186). -/
theorem decodeRequest_fill_bytes (b0 b1 b2 b3 : Byte) :
    decodeRequest ⟨0x08, [b0, b1, b2, b3]⟩ =
      .ok (.fill (b0.toNat + 256 * b1.toNat) (b2.toNat + 256 * b3.toNat)) := rfl

/-- The frame that carries a FILL: each number with its low byte first (spec/11 R186). -/
theorem encodeRequest_fill (tag mass : Nat) :
    encodeRequest (.fill tag mass) = ⟨0x08, [BitVec.ofNat 8 (tag % 256), BitVec.ofNat 8 (tag / 256),
      BitVec.ofNat 8 (mass % 256), BitVec.ofNat 8 (mass / 256)]⟩ := by
  simp only [encodeRequest, leBytes_two]
  rfl

/-- The frame of a FILL whose tag and mass fit their two bytes spells that request (spec/11 R176, R186). -/
theorem decodeRequest_fill {tag mass : Nat} (ht : tag < 65536) (hm : mass < 65536) :
    decodeRequest (encodeRequest (.fill tag mass)) = .ok (.fill tag mass) := by
  have htag : leNat (leBytes 2 tag) = tag := leNat_leBytes 2 tag ht
  have hmass : leNat (leBytes 2 mass) = mass := leNat_leBytes 2 mass hm
  have htake : (leBytes 2 tag ++ leBytes 2 mass).take 2 = leBytes 2 tag := List.take_left' (leBytes_length 2 tag)
  have hdrop : (leBytes 2 tag ++ leBytes 2 mass).drop 2 = leBytes 2 mass := List.drop_left' (leBytes_length 2 tag)
  simp [decodeRequest, encodeRequest, isRequestKind, decodePayload, htake, hdrop, htag, hmass]

/-! ## A fill report at a ready link -/

/-- A FILL that arrives at a ready link is handled at once. -/
theorem exec_fill_ready {tag mass : Nat} (s : State) (hs : LinkReady s) (ht : tag < 65536) (hm : mass < 65536) :
    exec (.fill tag mass) s = .next (handleFill tag mass s) := by
  rw [exec_request (.fill tag mass) (.fill tag mass) s rfl]
  simp only [arrive_ready _ s hs, takeRequest, decodeRequest_fill ht hm]
  rfl

/-- A mass above 9999 dg is refused OUT_OF_RANGE at field 1, whatever its tag (spec/03 R55). -/
theorem handleFill_outOfRange {tag mass : Nat} (s : State) (h : 9999 < mass) :
    handleFill tag mass s = s.withReply ⟨0x81, [0x08, 4, 1]⟩ :=
  if_pos h

/-- A tag more than 8 ahead of the expected one is refused OUT_OF_SEQUENCE at field 0, and the break is a condition (spec/03
R55). -/
theorem handleFill_outOfSequence {tag mass e : Nat} (s : State) (hm : mass ≤ 9999) (he : s.infeed.expectedTag = some e)
    (hk : 8 < (tag + 65536 - e) % 65536) :
    handleFill tag mass s = setCondition .fillSequence (s.withReply ⟨0x81, [0x08, 8, 0]⟩) := by
  have hskip : skipLimit < skipped s.infeed.expectedTag tag := by rw [he]; exact hk
  exact (if_neg (Nat.not_lt.mpr hm)).trans (if_pos hskip)

/-- Settles O6: the two bytes of each number give the layout and R186's frame; at a ready link the mass is tested before
the tag, and either test that fails decides the reply. -/
theorem fillPayloadLayout : Obligations.FillPayloadLayout := by
  refine ⟨decodeRequest_fill_bytes, fun tag mass _ _ => encodeRequest_fill tag mass, ?frame, ?mass, ?tag⟩
  case frame =>
    intro c
    rw [encodeRequest_fill, lineBytes_layout]
    rfl
  case mass =>
    intro tag mass s hs ht hm hover
    rw [exec_fill_ready s hs ht hm, handleFill_outOfRange s hover]
  case tag =>
    intro tag mass e s hs ht hm he hk
    rw [exec_fill_ready s hs ht (by omega), handleFill_outOfSequence s hm he hk]

end Sys2Proof.Machine
end

section
/-! PROOF. Requests on the link: the frame that carries a request decodes to it (spec/11 R176, R184 to R186), and a request
that arrives is handled, kept waiting or discarded (R175). -/

namespace Sys2Proof.Machine

/-! ## Decoding what was encoded -/

/-- A mask is read back from the bytes that carry it. -/
theorem ofNat_leNat_mask {w : Nat} (n : Nat) (mask : BitVec w) (h : 2 ^ w ≤ 256 ^ n) :
    BitVec.ofNat w (leNat (leBytes n mask.toNat)) = mask := by
  rw [leNat_leBytes n _ (mask.isLt.trans_le h), BitVec.ofNat_toNat, BitVec.setWidth_eq]

/-- What a request kind's payload spells is the request decoded. -/
theorem decodeRequest_of_payload {f : Frame} {r : Request} (hk : isRequestKind f.kind = true)
    (h : decodePayload f.kind.toNat f.payload = some r) : decodeRequest f = .ok r := by
  simp [decodeRequest, hk, h]

/-- Every request whose fields a payload can carry comes back from the frame that carries it (spec/11 R184 to R186). -/
theorem decodeRequest_encodeRequest (r : Request) (h : r.wf = true) : decodeRequest (encodeRequest r) = .ok r := by
  cases r with
  | read item index =>
    obtain ⟨hi, hx⟩ : item < 256 ∧ index < 256 := by simpa [Request.wf] using h
    refine decodeRequest_of_payload rfl ?_
    simp [encodeRequest, decodePayload, leBytes, Nat.mod_eq_of_lt, hi, hx]
  | configure mask values =>
    refine decodeRequest_of_payload rfl ?_
    have hm := ofNat_leNat_mask 6 mask (by norm_num)
    simp [encodeRequest, decodePayload, hm,
      parseValues_valueBytes _ _ _ (show valuesFit configWidth (maskFields 41 mask) values = true from h)]
  | loadGasTable points =>
    have hl : points.length = 17 := by simpa using valuesFit_length recipeWidth (List.range 17) points h
    refine decodeRequest_of_payload rfl ?_
    simp [encodeRequest, decodePayload, hl,
      parseValues_valueBytes _ _ _ (show valuesFit recipeWidth (List.range 17) points = true from h)]
  | loadRecipe fields => exact decodeRequest_loadRecipe fields h
  | amendRecipe mask values =>
    refine decodeRequest_of_payload rfl ?_
    have hm := ofNat_leNat_mask 4 mask (by norm_num)
    simp [encodeRequest, decodePayload, hm,
      parseValues_valueBytes _ _ _ (show valuesFit recipeWidth (maskFields 25 mask) values = true from h)]
  | activateRecipe id =>
    refine decodeRequest_of_payload rfl ?_
    simp [encodeRequest, decodePayload, leNat_leBytes 2 id (by simpa [Request.wf] using h)]
  | fill tag mass =>
    obtain ⟨ht, hm⟩ : tag < 65536 ∧ mass < 65536 := by simpa [Request.wf] using h
    exact decodeRequest_fill ht hm
  | head n a =>
    obtain ⟨hn, ha⟩ : n < 256 ∧ a < 256 := by simpa [Request.wf] using h
    refine decodeRequest_of_payload rfl ?_
    simp [encodeRequest, decodePayload, leBytes, Nat.mod_eq_of_lt, hn, ha]
  | cylinder n a =>
    obtain ⟨hn, ha⟩ : n < 256 ∧ a < 256 := by simpa [Request.wf] using h
    refine decodeRequest_of_payload rfl ?_
    simp [encodeRequest, decodePayload, leBytes, Nat.mod_eq_of_lt, hn, ha]
  | takeVerdicts n =>
    refine decodeRequest_of_payload rfl ?_
    simp [encodeRequest, decodePayload, leBytes, Nat.mod_eq_of_lt (show n < 256 by simpa [Request.wf] using h)]
  | clearConditions mask =>
    refine decodeRequest_of_payload rfl ?_
    simp [encodeRequest, decodePayload, ofNat_leNat_mask 2 mask (by norm_num)]
  | setReports mask =>
    refine decodeRequest_of_payload rfl ?_
    simp [encodeRequest, decodePayload, ofNat_leNat_mask 2 mask (by norm_num)]
  | selectSource code =>
    refine decodeRequest_of_payload rfl ?_
    simp [encodeRequest, decodePayload, leBytes, Nat.mod_eq_of_lt (show code < 256 by simpa [Request.wf] using h)]
  | discardRecipe | resyncFill | infeedHold | infeedRelease | relock | restart => rfl

/-- Settles O7: the decoder reads back, field by field, what the encoder writes. -/
theorem requestsRoundTrip : Obligations.RequestsRoundTrip := decodeRequest_encodeRequest

/-! ## Arrivals -/

/-- What a request command shows before its frame arrives: READ_HEAD its sensor levels, every other command nothing (log 5). -/
def shownAt (c : Instr) (s : State) : State :=
  match c with
  | .readHead _ v => s.setSensors v
  | _ => s

/-- The sensor levels a request command shows leave the link as it was. -/
@[simp] theorem shownAt_link (c : Instr) (s : State) : (shownAt c s).link = s.link := by
  cases c <;> rfl

/-- A frame that carries a well-formed request is taken as that request (spec/11 R176). -/
theorem takeRequest_encodeRequest (r : Request) (h : r.wf = true) (s : State) : takeRequest (encodeRequest r) s = handle r s := by
  simp only [takeRequest, decodeRequest_encodeRequest r h]

/-- A request command is the arrival of its frame, on the state with its levels shown. -/
theorem exec_arrive (c : Instr) (r : Request) (s : State) (hc : c.request = some r) :
    exec c s = .next (arrive (encodeRequest r) (shownAt c s)) := by
  rw [exec_request c r s hc]
  cases c <;> rfl

/-- At a ready link a well-formed request is handled by its owner at once (spec/11 R175, R176). -/
theorem exec_ready (c : Instr) (r : Request) (s : State) (hc : c.request = some r) (hr : r.wf = true) (hs : LinkReady s) :
    exec c s = .next (handle r (shownAt c s)) := by
  rw [exec_arrive c r s hc, arrive_ready _ _ (by simpa [LinkReady] using hs), takeRequest_encodeRequest r hr]

/-- While nothing can be taken, a request waits in the receive buffer if a place is free (spec/11 R175). -/
theorem exec_waits (c : Instr) (r : Request) (s : State) (hc : c.request = some r)
    (hs : s.link.tx.length = 8 ∨ s.link.restartPending = true) (hx : s.link.rx.length < 2) :
    exec c s = .next ((shownAt c s).modLink fun l => { l with rx := l.rx ++ [encodeRequest r] }) := by
  rw [exec_arrive c r s hc, arrive_busy _ _ (by simpa using hs), bufferFrame, if_pos (by simpa [receiveRoom] using hx)]

/-- With both places full it is discarded, and LINK_FRAME_ERROR set (spec/11 R174, R175). -/
theorem exec_discarded (c : Instr) (r : Request) (s : State) (hc : c.request = some r)
    (hs : s.link.tx.length = 8 ∨ s.link.restartPending = true) (hx : s.link.rx.length = 2) :
    exec c s = .next (setCondition .linkFrameError (shownAt c s)) := by
  rw [exec_arrive c r s hc, arrive_busy _ _ (by simpa using hs), bufferFrame, if_neg (by simp [receiveRoom, hx])]

/-- Settles O11: the arrival's three outcomes, by what the link can take. -/
theorem requestsAreTakenInTurn : Obligations.RequestsAreTakenInTurn := by
  intro c r s hc hr u
  have hu : u = shownAt c s := by cases c <;> rfl
  rw [hu]
  refine ⟨exec_ready c r s hc hr, fun hs hx => ?_, exec_discarded c r s hc⟩
  rw [exec_waits c r s hc hs hx, ← shownAt_link c s]
  rfl

/-! ## The front command -/

/-- Settles O1: a step is the definition's two cases. -/
theorem stepRunsTheFrontCommand : Obligations.StepRunsTheFrontCommand := by
  refine ⟨fun c rest s => rfl, fun s hs => ?_⟩
  simp only [step, hs]

/-- A step that answers a next state idles, or has executed the command at the front of the queue. -/
theorem step_cases {s t : State} (h : step s = .next t) :
    t = s ∨ ∃ c rest, s.pending = c :: rest ∧ exec c { s with pending := rest } = .next t := by
  unfold step at h
  split at h
  case h_1 c rest hp => exact .inr ⟨c, rest, hp, h⟩
  case h_2 => exact .inl (by injection h with h; exact h.symm)

end Sys2Proof.Machine
end

section
/-! PROOF. Power-on reset and RESTART (spec/11 R181, R182 and the reset rule of each chapter): the state each leaves, and the
laws at reset. -/

namespace Sys2Proof.Machine

/-! ## The state after power-on reset -/

/-- Settles O2: the reset state's items are the values the rules list. -/
theorem resetValues : Obligations.ResetValues := by
  refine ⟨by decide, ?heads, by decide, by decide, by decide, ?cylinders, rfl, by decide, by decide, by decide, by decide, ?slots,
    by decide, by decide, by decide, rfl⟩
  case heads => intro h; simp [State.reset, Head.atReset]; rfl
  case cylinders => intro c; simp [State.reset, Cylinder.atReset]
  case slots => intro i; simp [State.reset, Slot.atReset]

/-- All four cylinders take their reset state and keep their measured pressures. -/
theorem restartCylinders_eq (s : State) : restartCylinders s = { s with cylinders := s.cylinders.map Cylinder.restarted } :=
  foldl_modCyl s _

/-- Settles O3: the reset state, with the inputs as they stand and the line rate of the straps. -/
theorem powerOnResets : Obligations.PowerOnResets := by
  intro strapA strapB s
  have hc : (restartCylinders s).cylinders = Vector.ofFn fun c =>
      { State.reset.cylinders[c] with pressure := s.cylinders[c].pressure, overRange := s.cylinders[c].overRange } := by
    rw [restartCylinders_eq]
    ext k hk
    simp [State.reset, Cylinder.restarted]
  have hl : Link.atReset (strapRate strapA strapB) = { State.reset.link with
      rate := if strapA = strapB then .baud57600 else if strapA then .baud115200 else .baud230400 } := by
    cases strapA <;> cases strapB <;> rfl
  simp only [exec, execPowerOnReset, hc, hl]
  rfl

/-! ## RESTART -/

/-- The slots and the allowances as RESTART leaves them (spec/09 R163, spec/06 R118). -/
def restartStore (s : State) : State :=
  { s with allowances := Vector.ofFn fun i => Vector.replicate 4 (restartAllowance s.slots[i])
           slots := s.slots.map Slot.restarted }

/-- Both slots restarted in turn. -/
theorem foldl_restartSlot (s : State) :
    allSlots.foldl (fun t i => (t.setSlotAllowances i (restartAllowance t.slots[i])).modSlot i Slot.restarted) s =
      restartStore s := by
  simp only [allSlots, show List.finRange 2 = [0, 1] from by decide, List.foldl_cons, List.foldl_nil, State.setSlotAllowances,
    State.modSlot, restartStore]
  congr 1
  all_goals
    ext k hk
    obtain rfl | rfl : k = 0 ∨ k = 1 := by omega
    all_goals simp

/-- An IDLE cylinder after the test for refill (spec/05 R89). -/
def Cylinder.refilledIdle (rc : Bool) (cfg : MachineConfig) (x : Cylinder) : Cylinder :=
  if x.state = .idle ∧ rc then { x.enter .refilling with refillTimer := .running (refillTimeout cfg) } else x

/-- The test of one cylinder writes that cylinder alone. -/
theorem refillIdle_eq (c : Fin 4) (s : State) :
    refillIdle c s = s.modCyl c (Cylinder.refilledIdle (refillCondition s) s.config) := by
  by_cases h : s.cylinders[c].state = .idle ∧ refillCondition s
  · simp only [refillIdle, enterRefilling, State.modCyl, Cylinder.refilledIdle, if_pos h]
  · have hset : s.cylinders.set c s.cylinders[c] = s.cylinders := by ext k hk; simp
    simp only [refillIdle, State.modCyl, Cylinder.refilledIdle, if_neg h, hset]

/-- Every IDLE cylinder tested for refill. -/
theorem foldl_refillIdle (s : State) :
    allCylinders.foldl (fun t c => refillIdle c t) s =
      { s with cylinders := s.cylinders.map (Cylinder.refilledIdle (refillCondition s) s.config) } := by
  have hfold : ∀ (l : List (Fin 4)) (t : State), refillCondition t = refillCondition s → t.config = s.config →
      l.foldl (fun t c => refillIdle c t) t =
        l.foldl (fun t c => t.modCyl c (Cylinder.refilledIdle (refillCondition s) s.config)) t := by
    intro l
    induction l with
    | nil => intros; rfl
    | cons c l ih =>
      intro t hr hc
      rw [List.foldl_cons, List.foldl_cons, refillIdle_eq, hr, hc]
      exact ih _ hr hc
  rw [hfold _ s rfl rfl, foldl_modCyl]

/-- The blocks of RESTART that take values of their own, before slots and cylinders. -/
def restartBlocks (s : State) : State :=
  { s with
    tracker := .atReset
    heads := Vector.replicate 16 .atReset
    infeed := restartInfeed s
    grantQueue := []
    gas := s.gas.restarted s.config
    verdicts := .atReset
    conds := { Conditions.atReset with mask := s.conds.mask }
    link := { Link.atReset s.link.rate with lineOut := s.link.lineOut } }

/-- RESTART as one state: the blocks, the store, and the cylinders at reset or refilling. -/
theorem performRestart_eq (s : State) :
    performRestart s = { restartStore (restartBlocks s) with
      cylinders := s.cylinders.map fun x =>
        x.restarted.refilledIdle (refillCondition (restartStore (restartBlocks s))) s.config } := by
  have h : performRestart s = allCylinders.foldl (fun t c => refillIdle c t)
      (restartCylinders (allSlots.foldl (fun t i =>
        (t.setSlotAllowances i (restartAllowance t.slots[i])).modSlot i Slot.restarted) (restartBlocks s))) := rfl
  rw [h, foldl_restartSlot, restartCylinders_eq, foldl_refillIdle]
  simp only [Vector.map_map]
  rfl

/-- No slot state but RETIRING changes at RESTART (spec/09 R163). -/
theorem restarted_active (x : Slot) : x.restarted.state = .active ↔ x.state = .active := by
  unfold Slot.restarted
  split <;> simp_all

/-- After RESTART, which leaves standby ACTIVE, the refill condition is that a slot is ACTIVE. -/
theorem refillCondition_restart (s : State) :
    refillCondition (restartStore (restartBlocks s)) = true ↔ s.slots[0].state = .active ∨ s.slots[1].state = .active := by
  rw [refillCondition_iff]
  simp [restartStore, restartBlocks, Gas.restarted, restarted_active, Fin.exists_fin_two]

/-- No slot is ACTIVE, as one test of both. -/
theorem activeSlot_isNone (s : State) :
    (activeSlot s).isNone = !(s.slots[0].state == .active || s.slots[1].state == .active) := by
  rw [Bool.eq_iff_iff, Option.isNone_iff_eq_none, activeSlot, List.find?_eq_none]
  simp [allSlots, Fin.forall_fin_two]

/-- A cylinder after RESTART (spec/05 R108, R89). -/
theorem restarted_refilledIdle (rc : Bool) (cfg : MachineConfig) (x : Cylinder) :
    x.restarted.refilledIdle rc cfg =
      let y := { State.reset.cylinders[(0 : Fin 4)] with pressure := x.pressure, overRange := x.overRange }
      if rc then { y with state := .refilling, refillValve := true, refillTimer := .running (refillTimeout cfg) } else y := by
  cases rc <;> rfl

/-- Settles O4: the restart's own state, item by item; before its ACCEPT is sent nothing is due; and the request's reply. -/
theorem restartPerforms : Obligations.RestartPerforms := by
  refine ⟨fun s hp ht => ?performed, fun s hs => ?early, fun s hs => ?accepted⟩
  case performed =>
    refine ⟨performRestart s, ?_, ?_⟩
    · simp [exec, execRestartPerform, restartDue, hp, ht]
    rw [performRestart_eq]
    refine ⟨rfl, rfl, ?infeed, ?cylinders, rfl, rfl, rfl, rfl, rfl, ?slots, ?allowances, rfl, rfl, rfl, rfl⟩
    case infeed => simp only [restartStore, restartBlocks, restartInfeed, activeSlot_isNone]; rfl
    case cylinders =>
      intro c
      simp only [Fin.getElem_fin, Vector.getElem_map, restarted_refilledIdle, refillCondition_restart]
      simp [State.reset]
    case slots =>
      intro i
      simp [restartStore, restartBlocks, Slot.restarted]
    case allowances =>
      intro i c
      simp only [restartStore, restartBlocks, restartAllowance, Fin.getElem_fin, Vector.getElem_ofFn, Vector.getElem_replicate,
        Vector.getElem_map]
      cases (s.slots[i.val]).restarted.recipe <;> rfl
  case early =>
    have hd : ¬restartDue s = true := by
      rcases hs with h | h <;> simp [restartDue, h]
    simp [exec, execRestartPerform, hd]
  case accepted =>
    rw [exec_ready .restart .restart s rfl rfl hs]
    rfl

/-! ## The laws at reset -/

theorem configSafe_defaults : ConfigSafe ⟨configDefaults⟩ := by
  refine ⟨by decide, by decide, by decide⟩

theorem gasTableSafe_defaults : GasTableSafe ⟨gasTableDefaults⟩ := by
  refine ⟨by decide, by decide⟩

/-- Both slots FREE, no allowance, no can: the recipe store at reset. -/
theorem storeSafe_reset : StoreSafe State.reset where
  pair := by simp [legalPair, State.reset, Slot.atReset]
  record := by decide
  recipe := by simp [State.reset, Slot.atReset]
  allowance := by decide
  free := by decide
  refs := by decide
  refersTo := by simp [State.reset, Head.atReset]
  retiring := by decide

/-- With no can, no shot and nothing counted, every item is at the low end of its range. -/
theorem rangesSafe_reset : RangesSafe State.reset where
  position := by decide
  revolution := by decide
  heads h := by
    simp only [State.reset, Fin.getElem_fin, Vector.getElem_replicate]
    constructor <;> simp [Head.atReset]
  infeed := by constructor <;> simp [State.reset, Infeed.atReset]
  awaiting := by constructor <;> simp [State.reset, Infeed.atReset]
  pressures := by decide
  grants := List.nodup_nil
  buffer := by decide
  temperature := by decide
  unmatched := by decide
  log := by simp [State.reset, VerdictUnit.atReset]

/-- Every head is EMPTY and unpaired and every cylinder IDLE. -/
theorem pairingSafe_reset : PairingSafe State.reset := by
  constructor <;> simp [State.reset, Head.atReset, Cylinder.atReset]

/-- Settles O20, law by law. -/
theorem lawsHoldAtReset : Obligations.LawsHoldAtReset := by
  refine ⟨?link, ?stop, ?withhold, ?admission, ?room, ?cylinders, ⟨configSafe_defaults, gasTableSafe_defaults, storeSafe_reset⟩,
    rangesSafe_reset, pairingSafe_reset⟩
  case link => constructor <;> simp [State.reset, Link.atReset, Assembler.hunting]
  case stop => refine ⟨by decide, rfl⟩
  case withhold => constructor <;> decide
  case admission => intro _; exact ⟨rfl, by decide⟩
  case room => show roomTaken State.reset ≤ 64; decide
  case cylinders => intro c; constructor <;> simp [State.reset, Cylinder.atReset, Timer.isRunning]

end Sys2Proof.Machine
end

section
/-! PROOF. The bytes of the line (spec/11 R172 to R175, R180): the assembler state by state, a frame byte by byte, the gap
timer and the frames sent; and the link within its bounds at every step. -/

namespace Sys2Proof.Machine

/-! ## One byte -/

/-- The state with another frame in assembly. -/
def State.withAsm (s : State) (a : Assembler) : State := { s with link := { s.link with asm := a } }

/-- BYTE_RECEIVED of a byte is the taking of it, on the state with the levels shown. -/
theorem exec_byte (b : Byte) (v : Sensors) (s : State) :
    exec (.byteReceived (.data b) v) s = .next (takeByte b (s.setSensors v)) := rfl

section takeByte
variable (b : Byte) (s : State)

theorem takeByte_hunt_other (h : s.link.asm.state = .hunt) (hb : b ≠ 0xC3#8) : takeByte b s = s := by
  simp [takeByte, h, hb]

theorem takeByte_start (h : s.link.asm.state = .hunt) :
    takeByte 0xC3#8 s = s.withAsm { Assembler.hunting with state := .length, gapTimer := .running 5 } := by
  simp [takeByte, h, assemble, State.modLink, State.withAsm, gapTime]

theorem takeByte_length (h : s.link.asm.state = .length) (hb : b.toNat ≤ 120) :
    takeByte b s = s.withAsm { s.link.asm with state := .kind, length := b.toNat, gapTimer := .running 5 } := by
  simp [takeByte, h, hb, payloadLimit, assemble, State.modLink, State.withAsm, gapTime]

theorem takeByte_length_over (h : s.link.asm.state = .length) (hb : 120 < b.toNat) : takeByte b s = discardFrame s := by
  simp [takeByte, h, Nat.not_le.mpr hb, payloadLimit]

theorem takeByte_kind (h : s.link.asm.state = .kind) :
    takeByte b s = s.withAsm { s.link.asm with
      state := if s.link.asm.length = 0 then .checkHigh else .payload, kind := b, gapTimer := .running 5 } := by
  have hswap : (if 0 < s.link.asm.length then AsmState.payload else .checkHigh) =
      if s.link.asm.length = 0 then .checkHigh else .payload := by
    rcases Nat.eq_zero_or_pos s.link.asm.length with hz | hp
    · simp [hz]
    · rw [if_pos hp, if_neg (by omega)]
  simp [takeByte, h, hswap, assemble, State.modLink, State.withAsm, gapTime]

theorem takeByte_payload (h : s.link.asm.state = .payload) :
    takeByte b s = s.withAsm { s.link.asm with
      state := if s.link.asm.payload.length + 1 < s.link.asm.length then .payload else .checkHigh
      payload := s.link.asm.payload ++ [b], gapTimer := .running 5 } := by
  have hswap : (if s.link.asm.length ≤ s.link.asm.payload.length + 1 then AsmState.checkHigh else .payload) =
      if s.link.asm.payload.length + 1 < s.link.asm.length then .payload else .checkHigh := by
    rcases Nat.lt_or_ge (s.link.asm.payload.length + 1) s.link.asm.length with hl | hg
    · rw [if_pos hl, if_neg (by omega)]
    · rw [if_pos hg, if_neg (by omega)]
  simp [takeByte, h, hswap, assemble, State.modLink, State.withAsm, gapTime]

theorem takeByte_checkHigh (h : s.link.asm.state = .checkHigh) :
    takeByte b s = s.withAsm { s.link.asm with state := .checkLow, checkHigh := b, gapTimer := .running 5 } := by
  simp [takeByte, h, assemble, State.modLink, State.withAsm, gapTime]

theorem takeByte_bad (h : s.link.asm.state = .checkLow)
    (hc : s.link.asm.checkHigh ++ b ≠ (Frame.mk s.link.asm.kind s.link.asm.payload).check) : takeByte b s = discardFrame s := by
  simp [takeByte, h, completeFrame, hc]

theorem takeByte_good (h : s.link.asm.state = .checkLow)
    (hc : s.link.asm.checkHigh ++ b = (Frame.mk s.link.asm.kind s.link.asm.payload).check) :
    takeByte b s = arrive ⟨s.link.asm.kind, s.link.asm.payload⟩ (s.withAsm .hunting) := by
  simp only [takeByte, h, completeFrame]
  exact if_pos hc

end takeByte

/-- Settles O9: the table of R173, a row for each equation of `takeByte`. -/
theorem assemblerTakesBytes : Obligations.AssemblerTakesBytes := by
  intro b v s u withAsm a discarded
  refine ⟨fun h => ?_, fun h => ?_, fun h hb => ?_, fun h hb => ?_, fun h hb => ?_, fun h hb => ?_, fun h => ?_, fun h => ?_,
    fun h => ?_, fun h hc => ?_, fun h hc => ?_⟩
  · exact congrArg _ (if_pos h)
  · exact congrArg _ (if_neg h)
  · rw [exec_byte, takeByte_hunt_other b (s.setSensors v) h hb]; rfl
  · rw [exec_byte, hb, takeByte_start (s.setSensors v) h]; rfl
  · rw [exec_byte, takeByte_length b (s.setSensors v) h hb]; rfl
  · rw [exec_byte, takeByte_length_over b (s.setSensors v) h hb]; rfl
  · rw [exec_byte, takeByte_kind b (s.setSensors v) h]; rfl
  · rw [exec_byte, takeByte_payload b (s.setSensors v) h]; rfl
  · rw [exec_byte, takeByte_checkHigh b (s.setSensors v) h]; rfl
  · rw [exec_byte, takeByte_bad b (s.setSensors v) h hc]; rfl
  · rw [exec_byte, takeByte_good b (s.setSensors v) h hc]; rfl

/-! ## A whole frame -/

/-- The commands that bring a list of bytes, one each. -/
def byteCommands (v : Sensors) (bs : List Byte) : List Instr := bs.map fun b => .byteReceived (.data b) v

/-- The state with a frame in assembly and the bytes still to come. -/
def assembling (s : State) (v : Sensors) (a : Assembler) (bs : List Byte) : State :=
  { s with pending := byteCommands v bs, sensors := v, link := { s.link with asm := a } }

/-- One step takes the next byte. -/
theorem run_assembling_byte (s : State) (v : Sensors) (a : Assembler) (b : Byte) (bs : List Byte) (n : Nat) :
    Host.Core.run Sys2Proof.core (n + 1) (assembling s v a (b :: bs)) =
      Host.Core.run Sys2Proof.core n (takeByte b (assembling s v a bs)) := rfl

/-- The bytes of the payload are gathered, the last of them turning to the check (spec/11 R173). -/
theorem run_assembling_payload (s : State) (v : Sensors) (rest : List Byte) (n : Nat) (b : Byte) (ps : List Byte)
    (a : Assembler) (ha : a.state = .payload) (hl : a.length = a.payload.length + (ps.length + 1)) :
    Host.Core.run Sys2Proof.core (n + (ps.length + 1)) (assembling s v a (b :: ps ++ rest)) =
      Host.Core.run Sys2Proof.core n (assembling s v
        { a with state := .checkHigh, payload := a.payload ++ b :: ps, gapTimer := .running 5 } rest) := by
  induction ps generalizing a b with
  | nil =>
    rw [List.singleton_append, List.length_nil, Nat.zero_add, run_assembling_byte, takeByte_payload b _ ha]
    simp [assembling, State.withAsm, hl]
  | cons p ps ih =>
    have hmore : a.payload.length + 1 < a.length := by rw [hl]; simp
    have htake : takeByte b (assembling s v a (p :: ps ++ rest)) = assembling s v
        { a with state := .payload, payload := a.payload ++ [b], gapTimer := .running 5 } (p :: ps ++ rest) := by
      rw [takeByte_payload b _ ha]
      simp [assembling, State.withAsm, hmore]
    rw [List.length_cons, ← Nat.add_assoc n, List.cons_append, run_assembling_byte, htake]
    refine (ih p { a with state := .payload, payload := a.payload ++ [b], gapTimer := .running 5 } rfl ?_).trans ?_
    case refine_1 => simp [hl]; omega
    case refine_2 => simp

/-- The two bytes of a check, high byte first, are the check. -/
theorem check_bytes (c : BitVec 16) : (c >>> 8).setWidth 8 ++ c.setWidth 8 = c := by
  ext i hi
  simp only [BitVec.getElem_append, BitVec.getElem_setWidth, BitVec.getLsbD_ushiftRight]
  split
  case isTrue h => exact BitVec.getLsbD_eq_getElem hi
  case isFalse h => rw [Nat.add_sub_cancel' (by omega)]; exact BitVec.getLsbD_eq_getElem hi

/-- The two check bytes of a frame whose kind and payload are gathered make it arrive (spec/11 R174). -/
theorem run_assembling_check (s : State) (v : Sensors) (f : Frame) (a : Assembler) (high low : Byte) (ha : a.state = .checkHigh)
    (hk : a.kind = f.kind) (hp : a.payload = f.payload) (hc : high ++ low = f.check) :
    Host.Core.run Sys2Proof.core 2 (assembling s v a [high, low]) = .next (arrive f (assembling s v .hunting [])) := by
  have hf : Frame.mk a.kind a.payload = f := by rw [hk, hp]
  let a' : Assembler := { a with state := .checkLow, checkHigh := high, gapTimer := .running 5 }
  have hlast : takeByte low (assembling s v a' []) = arrive ⟨a.kind, a.payload⟩ (assembling s v .hunting []) :=
    takeByte_good low (assembling s v a' []) rfl (hc.trans (congrArg Frame.check hf.symm))
  have hhigh : takeByte high (assembling s v a [low]) = assembling s v a' [low] := takeByte_checkHigh _ _ ha
  rw [run_assembling_byte, hhigh, run_assembling_byte, hlast, hf]
  rfl

/-- Settles O8: start, length and kind one by one, the payload by induction on it, and the check. -/
theorem bytesAssembleAFrame : Obligations.BytesAssembleAFrame := by
  intro f v s hl ha
  obtain ⟨kind, payload⟩ := f
  have hlen : (BitVec.ofNat 8 payload.length).toNat = payload.length := by
    rw [BitVec.toNat_ofNat]; exact Nat.mod_eq_of_lt (show payload.length < 256 from Nat.lt_of_le_of_lt hl (by decide))
  let check := (Frame.mk kind payload).check
  let tail : List Byte := [(check >>> 8).setWidth 8, check.setWidth 8]
  let a1 : Assembler := { Assembler.hunting with state := .length, gapTimer := .running 5 }
  let a2 : Assembler := { a1 with state := .kind, length := payload.length }
  let a3 : Assembler := { a2 with state := if payload.length = 0 then .checkHigh else .payload, kind := kind }
  have hstart : Host.Core.run Sys2Proof.core (payload.length + 5)
      { s with pending := (Frame.mk kind payload).lineBytes.map fun b => Instr.byteReceived (.data b) v } =
      Host.Core.run Sys2Proof.core (payload.length + 4)
        (assembling s v a1 (BitVec.ofNat 8 payload.length :: kind :: (payload ++ tail))) := by
    show Host.Core.run Sys2Proof.core (payload.length + 4) (takeByte 0xC3#8 (assembling s v s.link.asm _)) = _
    rw [takeByte_start _ (by exact ha)]
    rfl
  have hlength : Host.Core.run Sys2Proof.core (payload.length + 4)
      (assembling s v a1 (BitVec.ofNat 8 payload.length :: kind :: (payload ++ tail))) =
      Host.Core.run Sys2Proof.core (payload.length + 3) (assembling s v a2 (kind :: (payload ++ tail))) := by
    rw [run_assembling_byte, takeByte_length _ _ rfl (by rw [hlen]; exact hl), hlen]
    rfl
  have hkind : Host.Core.run Sys2Proof.core (payload.length + 3) (assembling s v a2 (kind :: (payload ++ tail))) =
      Host.Core.run Sys2Proof.core (payload.length + 2) (assembling s v a3 (payload ++ tail)) := by
    rw [run_assembling_byte, takeByte_kind _ _ rfl]
    rfl
  rw [hstart, hlength, hkind]
  cases hp : payload with
  | nil => subst hp; exact run_assembling_check s v ⟨kind, []⟩ a3 _ _ rfl rfl rfl (check_bytes _)
  | cons b ps =>
    subst hp
    have hgather := run_assembling_payload s v tail 2 b ps a3 rfl (by simp [a3, a2, a1, Assembler.hunting])
    rw [List.length_cons, Nat.add_comm _ 2, hgather]
    exact run_assembling_check s v ⟨kind, b :: ps⟩ _ _ _ rfl rfl rfl (check_bytes _)

/-! ## The gap timer and the frames sent -/

/-- One waiting request is taken if the link may take it. -/
theorem testBuffer_one (s : State) (f : Frame) (hr : s.link.rx = [f]) (hm : mayTake s = true) :
    testBuffer s = takeRequest f (s.modLink fun l => { l with rx := [] }) := by
  simp only [testBuffer, hr, List.length_singleton, takeRequests, hm, if_true]

/-- Of two waiting requests the second follows if the link may still take it. -/
theorem testBuffer_two (s : State) (f g : Frame) (hr : s.link.rx = [f, g]) (hm : mayTake s = true) :
    testBuffer s =
      let t := takeRequest f (s.modLink fun l => { l with rx := [g] })
      if mayTake t then takeRequest g (t.modLink fun l => { l with rx := [] }) else t := by
  obtain ⟨-, -, hrx, -⟩ := (takeRequest_served f (s.modLink fun l => { l with rx := [g] })).items
  have hrx : (takeRequest f (s.modLink fun l => { l with rx := [g] })).link.rx = [g] := hrx
  simp only [testBuffer, hr, List.length_cons, List.length_nil, takeRequests, hm, if_true, hrx]

/-- The link may take a request: R175's two conditions. -/
theorem mayTake_iff (s : State) : mayTake s = true ↔ s.link.tx.length < 8 ∧ s.link.restartPending = false := by
  rw [mayTake, Bool.and_eq_true, decide_eq_true_iff, Bool.not_eq_true', transmitRoom]

/-- The state once its oldest frame has gone out, before the receive buffer is tested. -/
def afterSent (v : Sensors) (f : TxFrame) (rest : List TxFrame) (s : State) : State :=
  (s.setSensors v).modLink fun l => { l with tx := rest, lineOut := f.frame.lineBytes }

/-- FRAME_SENT with a frame queued frees its place and tests the buffer (spec/11 R180). -/
theorem exec_frameSent (v : Sensors) (f : TxFrame) (rest : List TxFrame) (s : State) (h : s.link.tx = f :: rest) :
    exec (.frameSent v) s = .next (testBuffer (afterSent v f rest s)) := by
  simp only [exec, execFrameSent, h]
  rfl

/-- Settles O10: the expiry is a discard; a frame sent is followed by the buffer's test with none, one or two waiting. -/
theorem gapAndSentFrames : Obligations.GapAndSentFrames := by
  refine ⟨fun s n h => ?_, fun s v f rest h hr => ?_, fun s v f rest r h hl hr hp => ?_,
    fun s v f rest r1 r2 h hl hr hp => ?_, fun s h => ?_, fun s v h => ?_⟩
  · simp only [exec, execGapTimerExpiry, h, Timer.isRunning, if_true]
    rfl
  · rw [exec_frameSent v f rest s h]
    rcases hr with hr | hr
    · have hnone : (afterSent v f rest s).link.rx = [] := hr
      simp only [testBuffer, hnone, List.length_nil, takeRequests]
      rfl
    · rw [testBuffer_busy (afterSent v f rest s) (.inr hr)]
      rfl
  · rw [exec_frameSent v f rest s h, testBuffer_one (afterSent v f rest s) r hr ((mayTake_iff (afterSent v f rest s)).mpr ⟨hl, hp⟩)]
    rfl
  · rw [exec_frameSent v f rest s h, testBuffer_two (afterSent v f rest s) r1 r2 hr ((mayTake_iff (afterSent v f rest s)).mpr ⟨hl, hp⟩)]
    simp only [mayTake_iff]
    rfl
  · simp [exec, execGapTimerExpiry, h, Timer.isRunning]
  · simp only [exec, execFrameSent, h]
    rfl

/-! ## The link within its bounds -/

/-- Reports added within their room keep the bounds. -/
theorem LinkSafe.grew {l0 l : Link} (h : LinkSafe l0) (g : Link.Grew l0 l) : LinkSafe l := by
  obtain ⟨rs, rfl, -, hroom⟩ := g
  rcases hroom with rfl | ⟨-, htx, hrep⟩
  · simpa using h
  · exact { h with tx := htx, reports := hrep }

/-- A reply in the place that R175 ensured, and reports after it within their room, keep the bounds. -/
theorem LinkSafe.served {l0 l : Link} (h : LinkSafe l0) (hfree : l0.tx.length < 8) (g : Link.Served l0 l) : LinkSafe l := by
  obtain ⟨f, rs, p, rfl, -, -, hroom⟩ := g
  rcases hroom with rfl | ⟨-, htx, hrep⟩
  · refine { h with tx := ?_, reports := ?_ }
    · simp; omega
    · simpa using h.reports
  · exact { h with tx := htx, reports := hrep }

/-- Taking waiting requests keeps the bounds: each is taken only with a place free. -/
theorem LinkSafe.takeRequests {n : Nat} {s : State} (h : LinkSafe s.link) : LinkSafe (takeRequests n s).link := by
  induction n generalizing s with
  | zero => exact h
  | succ n ih =>
    unfold Machine.takeRequests
    split
    case h_1 f rest hr =>
      split
      case isTrue hm =>
        have hrest : LinkSafe (s.modLink fun l => { l with rx := rest }).link :=
          { h with rx := by have := h.rx; rw [hr] at this; simp at this ⊢; omega }
        exact ih (hrest.served ((mayTake_iff s).mp hm).1 (takeRequest_served f _))
      case isFalse => exact h
    case h_2 => exact h

/-- So does the arrival of a frame. -/
theorem LinkSafe.arrive {f : Frame} {s : State} (h : LinkSafe s.link) : LinkSafe (arrive f s).link := by
  refine LinkSafe.takeRequests ?_
  unfold bufferFrame
  split
  case isTrue hroom => exact { h with rx := by simp [receiveRoom] at hroom ⊢; omega }
  case isFalse => exact h.grew (setCondition_grew (Link.Grew.refl _) _)

/-- The assembler in HUNT, with the rest of a link in bounds. -/
theorem LinkSafe.hunting {l : Link} (h : LinkSafe l) : LinkSafe { l with asm := .hunting } where
  rx := h.rx
  tx := h.tx
  reports := h.reports
  gap := by simp [Assembler.hunting]
  length := by simp [Assembler.hunting]
  started := by simp [Assembler.hunting]
  filling := by simp [Assembler.hunting]
  payload := by simp [Assembler.hunting]

theorem LinkSafe.discardFrame {s : State} (h : LinkSafe s.link) : LinkSafe (discardFrame s).link :=
  LinkSafe.grew (l0 := { s.link with asm := .hunting }) h.hunting (setCondition_grew (Link.Grew.refl _) _)

/-- A byte taken keeps the bounds, whatever the assembler's state. -/
theorem LinkSafe.takeByte {b : Byte} {s : State} (h : LinkSafe s.link) : LinkSafe (takeByte b s).link := by
  have hlen := h.length
  have hpay := h.payload
  cases hst : s.link.asm.state with
  | hunt =>
    by_cases hb : b = 0xC3#8
    · rw [hb, takeByte_start s hst]
      constructor <;> simp [State.withAsm, Assembler.hunting, h.rx, h.tx, h.reports]
    · rw [takeByte_hunt_other b s hst hb]; exact h
  | length =>
    by_cases hb : b.toNat ≤ 120
    · have hnone := h.started (.inl hst)
      rw [takeByte_length b s hst hb]
      constructor <;> simp [State.withAsm, h.rx, h.tx, h.reports, hb, hnone]
    · rw [takeByte_length_over b s hst (by omega)]; exact h.discardFrame
  | kind =>
    have hnone := h.started (.inr hst)
    rw [takeByte_kind b s hst]
    by_cases hz : s.link.asm.length = 0
    · constructor <;> simp [State.withAsm, h.rx, h.tx, h.reports, hnone, hz]
    · constructor <;> simp [State.withAsm, h.rx, h.tx, h.reports, hlen, hnone, hz]
      omega
  | payload =>
    have hmore := h.filling hst
    rw [takeByte_payload b s hst]
    by_cases hm : s.link.asm.payload.length + 1 < s.link.asm.length
    · constructor <;> simp [State.withAsm, h.rx, h.tx, h.reports, hlen, hm]
      omega
    · constructor <;> simp [State.withAsm, h.rx, h.tx, h.reports, hlen, hm]
      omega
  | checkHigh =>
    rw [takeByte_checkHigh b s hst]
    constructor <;> simp [State.withAsm, h.rx, h.tx, h.reports, hlen, hpay]
  | checkLow =>
    by_cases hc : s.link.asm.checkHigh ++ b = (Frame.mk s.link.asm.kind s.link.asm.payload).check
    · rw [takeByte_good b s hst hc]; exact LinkSafe.arrive (s := s.withAsm .hunting) h.hunting
    · rw [takeByte_bad b s hst hc]; exact h.discardFrame

end Sys2Proof.Machine
end

section
/-! PROOF. What every command does to the message link (spec/11 R173, R175, R180): the link's own commands by their lemmas, the
requests by service, and every other command by reports alone. -/

namespace Sys2Proof.Machine

/-- Growth on either branch is growth. -/
theorem grew_ite {l0 : Link} {c : Prop} [Decidable c] {a b : State} (ha : Link.Grew l0 a.link) (hb : Link.Grew l0 b.link) :
    Link.Grew l0 (if c then a else b).link := by
  split
  · exact ha
  · exact hb

/-- The commands of the line itself and the resets, whose effect on the link is more than reports. -/
def ofLink : Instr → Bool
  | .powerOnReset _ _ | .byteReceived _ _ | .gapTimerExpiry | .frameSent _ | .restartPerform | .unknownRequest _ _ => true
  | _ => false

theorem noFlowEnd_grew {l0 : Link} {s : State} (hg : Link.Grew l0 s.link) (h : Fin 16) (c : Fin 4) :
    Link.Grew l0 (noFlowEnd h c s).link := by
  have hready := readyOrDisabled_grew (s := (s.modHead h fun x =>
    { x with inlets := x.inlets.set c false, paired := none, flowTimer := .stopped,
             noFlowCount := min faultLimit (x.noFlowCount + 1) }).modCyl c fun x => { x with owner := none, shot := none }) hg c
  simp only [noFlowEnd, arbitrate_frame, afterNoFlow]
  split
  · split
    · exact hready
    · simpa using hready
  · refine enterOutOfService_grew ?_ h _
    simpa using hready

theorem refillEnd_grew {l0 : Link} {s : State} (hg : Link.Grew l0 s.link) (c : Fin 4) : Link.Grew l0 (refillEnd c s).link := by
  have hready := readyOrDisabled_grew (s := s.modCyl c fun x => { x with failures := 0 }) hg c
  simp only [refillEnd, arbitrate_frame]
  exact grew_ite (cylinderReport_grew hready c _) hready

theorem pressureReading_grew (s : State) (c : Fin 4) (raw : Int) (t : State)
    (e : exec (.cylinderPressureReading c raw) s = .next t) : Link.Grew s.link t.link := by
  have hshown : Link.Grew s.link (s.modCyl c fun x =>
      { x with pressure := clampReading 4000 raw, overRange := decide (4000 < raw) }).link := Link.Grew.refl _
  simp only [exec, execCylinderPressureReading, Host.Outcome.next.injEq] at e
  subst e
  split
  · split
    · exact grew_ite (refillEnd_grew hshown c) hshown
    · exact hshown
  · simpa using hshown
  · split
    · simpa using hshown
    · exact hshown
  all_goals exact hshown

/-- A command that is neither a request nor the link's own adds reports within their room and nothing else. -/
theorem event_grew (c : Instr) (s t : State) (hr : c.request = none) (hl : ofLink c = false) (e : exec c s = .next t) :
    Link.Grew s.link t.link := by
  have hs : Link.Grew s.link s.link := Link.Grew.refl _
  cases c with
  | cylinderPressureReading c raw => exact pressureReading_grew s c raw t e
  | encoderCount input dir index v order =>
    injection e with e; subst e
    exact grew_ite (takeCount_grew (s := s.setSensors v) hs _ _ _) hs
  | simulatedCount v order =>
    injection e with e; subst e
    exact grew_ite (takeCount_grew (s := (s.setSensors v).modTracker _) hs _ _ _) hs
  | stopDetectExpiry =>
    injection e with e; subst e
    exact grew_ite (grew_ite (trackerReport_grew (s := (s.modTracker _).modTracker _) hs) hs) hs
  | probeBuildEnd h raw => injection e with e; subst e; exact grew_ite hs hs
  | buildTimeoutExpiry h =>
    injection e with e; subst e
    exact grew_ite (enterProbed_grew (s := addReason h .crimpLeak (endProbe h s)) (by simpa using hs) h) hs
  | probeHoldExpiry h raw =>
    injection e with e; subst e
    refine grew_ite (enterProbed_grew ?_ h) hs
    simp only [endProbe_frame, probeResult]
    split <;> simpa using hs
  | dwellTimerExpiry h raw =>
    injection e with e; subst e
    refine grew_ite ?_ hs
    simp only [State.modHead_link, dwellResult]
    split
    · split <;> simpa using hs
    · exact hs
  | flowDetectTimerExpiry h =>
    injection e with e; subst e
    split
    · exact grew_ite (noFlowEnd_grew hs h _) hs
    · exact hs
  | refillTimerExpiry c => injection e with e; subst e; exact grew_ite (refillTimeoutAct_grew hs c) hs
  | retryTimerExpiry c => injection e with e; subst e; exact grew_ite (by simpa using hs) hs
  | settleTimerExpiry c => injection e with e; subst e; exact grew_ite (completeMeasurement_grew hs c) hs
  | bufferReading raw => injection e with e; subst e; exact bufferAct_grew hs raw
  | temperatureReading reading => injection e with e; subst e; simpa using hs
  | tempHoldExpiry =>
    injection e with e; subst e
    exact grew_ite (setCondition_grew (s := (s.modGas _).modWithhold _) hs _) hs
  | idleTimerExpiry => injection e with e; subst e; exact grew_ite (grew_ite hs hs) hs
  | laneSensorOff => injection e with e; subst e; exact grew_ite hs hs
  | laneSensorOn => injection e with e; subst e; simpa using hs
  | wakeTimerExpiry => injection e with e; subst e; exact grew_ite (by simpa using hs) hs
  | confirmSensorOn => injection e with e; subst e; exact grew_ite hs hs
  | gatePulseExpiry => injection e with e; subst e; exact grew_ite hs hs
  | powerOnReset | byteReceived | gapTimerExpiry | frameSent | restartPerform | unknownRequest => simp [ofLink] at hl
  | readStatus | readHead | readCylinder | readQueues | readRecipe | readConfig | readGasTable | readAllowances | configure
  | loadGasTable | loadRecipe | amendRecipe | activateRecipe | discardRecipe | fill | resyncFill | headEnable | headDisable
  | headReset | cylinderEnable | cylinderDisable | infeedHold | infeedRelease | takeVerdicts | clearConditions | setReports
  | selectSource | relock | restart | readBadItem | headBadAction | cylinderBadAction => simp [Instr.request] at hr

/-- A link at reset is in bounds. -/
theorem linkSafe_reset (rate : LineRate) : LinkSafe (Link.atReset rate) := by
  constructor <;> simp [Link.atReset, Assembler.hunting]

/-- Every command keeps the link within its bounds. -/
theorem LinkSafe.exec {c : Instr} {s t : State} (h : LinkSafe s.link) (e : exec c s = .next t) : LinkSafe t.link := by
  cases hr : c.request with
  | some r =>
    rw [exec_arrive c r s hr] at e
    injection e with e; subst e
    exact LinkSafe.arrive (by simpa using h)
  | none =>
    cases hl : ofLink c with
    | false => exact h.grew (event_grew c s t hr hl e)
    | true =>
      cases c with
      | powerOnReset a b => injection e with e; subst e; exact linkSafe_reset _
      | byteReceived b v =>
        cases b with
        | data x => injection e with e; subst e; exact LinkSafe.takeByte (s := s.setSensors v) h
        | fault =>
          injection e with e; subst e
          show LinkSafe (takeFault (s.setSensors v)).link
          unfold takeFault
          split
          · exact h
          · exact LinkSafe.discardFrame (s := s.setSensors v) h
      | gapTimerExpiry =>
        injection e with e; subst e
        split
        · exact h.discardFrame
        · exact h
      | frameSent v =>
        injection e with e; subst e
        split
        case h_1 f rest htx =>
          refine LinkSafe.takeRequests { h with tx := ?_, reports := ?_ }
          · have := h.tx; rw [htx] at this; simp at this ⊢; omega
          · have := h.reports; rw [htx, List.countP_cons] at this; exact (Nat.le_add_right _ _).trans this
        case h_2 => exact h
      | restartPerform =>
        injection e with e; subst e
        split
        · rw [performRestart_eq]
          have := linkSafe_reset s.link.rate
          exact { this with }
        · exact h
      | unknownRequest k p => injection e with e; subst e; exact h.arrive
      | _ => simp [ofLink] at hl

/-- Settles O12: the front command keeps the bounds, and idling changes nothing. -/
theorem linkStaysInBounds : Obligations.LinkStaysInBounds := by
  intro s t h e
  rcases step_cases e with rfl | ⟨c, rest, -, hc⟩
  · exact h
  · exact LinkSafe.exec (s := { s with pending := rest }) h hc

end Sys2Proof.Machine
end

section
/-! PROOF. Requests refused by their first checks (spec/11 R176, R177), and the short requests: DISCARD RECIPE, RESYNC FILL,
INFEED HOLD and RELEASE, SELECT SOURCE, RELOCK. -/

namespace Sys2Proof.Machine

/-! ## First checks -/

/-- Field values that parse take exactly their widths. -/
theorem parseValues_length (width : Nat → Nat) (fs : List Nat) (bs : List Byte) (vs : List Nat)
    (h : parseValues width fs bs = some vs) : bs.length = (fs.map width).sum := by
  induction fs generalizing bs vs with
  | nil =>
    cases bs with
    | nil => rfl
    | cons b bs => simp [parseValues] at h
  | cons f fs ih =>
    unfold parseValues at h
    split at h
    case isTrue => cases h
    case isFalse hlen =>
      obtain ⟨ws, hws, -⟩ := Option.map_eq_some_iff.mp h
      have := ih _ _ hws
      simp only [List.length_drop] at this
      simp only [List.map_cons, List.sum_cons]
      omega

/-- A payload whose length the fields do not take does not parse. -/
theorem parseValues_none (width : Nat → Nat) (fs : List Nat) (bs : List Byte) (h : bs.length ≠ (fs.map width).sum) :
    parseValues width fs bs = none := by
  cases hp : parseValues width fs bs with
  | none => rfl
  | some vs => exact absurd (parseValues_length width fs bs vs hp) h

/-- The recipe fields take two bytes each (spec/11 R185). -/
theorem sum_recipeWidth (fs : List Nat) : (fs.map recipeWidth).sum = 2 * fs.length := by
  induction fs with
  | nil => rfl
  | cons f fs ih => simp only [List.map_cons, List.sum_cons, ih, recipeWidth, List.length_cons]; omega

/-- A kind that names no request is refused UNKNOWN_KIND (spec/11 R176). -/
theorem arrive_unknown (k : Byte) (p : List Byte) (s : State) (hs : LinkReady s) (hk : isRequestKind k = false) :
    arrive ⟨k, p⟩ s = s.withReply ⟨0x81, [k, 1, 255]⟩ := by
  rw [arrive_ready _ s hs]
  simp only [takeRequest, decodeRequest, hk]
  rfl

/-- A payload that spells no request of its kind is refused BAD_LENGTH (spec/11 R176). -/
theorem arrive_badLength (k : Byte) (p : List Byte) (s : State) (hs : LinkReady s) (hk : isRequestKind k = true)
    (hd : decodePayload k.toNat p = none) : arrive ⟨k, p⟩ s = s.withReply ⟨0x81, [k, 2, 255]⟩ := by
  rw [arrive_ready _ s hs]
  simp only [takeRequest, decodeRequest, hk, hd]
  rfl

/-- The kinds of one fixed payload length, with that length (spec/11 R184). -/
def fixedLengths : List (Byte × Nat) :=
  [(1, 2), (3, 34), (4, 50), (6, 2), (7, 0), (8, 4), (9, 0), (10, 2), (11, 2), (12, 0), (13, 0), (14, 1), (15, 2), (16, 2),
   (17, 1), (18, 0), (19, 0)]

/-- The requests of two bytes spell nothing at any other length (spec/11 R184). -/
theorem decodePayload_pair {k : Nat} (hk : k = 1 ∨ k = 10 ∨ k = 11) : ∀ p : List Byte, p.length ≠ 2 → decodePayload k p = none
  | [], _ | [_], _ | _ :: _ :: _ :: _, _ => by rcases hk with rfl | rfl | rfl <;> rfl
  | [_, _], h => absurd rfl h

/-- So do the requests of one byte. -/
theorem decodePayload_single {k : Nat} (hk : k = 14 ∨ k = 17) : ∀ p : List Byte, p.length ≠ 1 → decodePayload k p = none
  | [], _ | _ :: _ :: _, _ => by rcases hk with rfl | rfl <;> rfl
  | [_], h => absurd rfl h

/-- A payload of another length spells none of the kinds of one fixed length. -/
theorem decodePayload_fixed (k : Byte) (n : Nat) (p : List Byte) (hm : (k, n) ∈ fixedLengths) (hp : p.length ≠ n) :
    decodePayload k.toNat p = none := by
  have values (n : Nat) (f : List Nat → Request) (h : p.length ≠ 2 * n) :
      (parseValues recipeWidth (List.range n) p).map f = none := by
    rw [parseValues_none _ _ _ (by simpa [sum_recipeWidth] using h)]; rfl
  have empty (r : Request) (h : p.length ≠ 0) : (if p = [] then some r else none) = none :=
    if_neg fun e => h (by rw [e]; rfl)
  simp only [fixedLengths, List.mem_cons, Prod.mk.injEq, List.not_mem_nil, or_false] at hm
  rcases hm with ⟨rfl, rfl⟩ | ⟨rfl, rfl⟩ | ⟨rfl, rfl⟩ | ⟨rfl, rfl⟩ | ⟨rfl, rfl⟩ | ⟨rfl, rfl⟩ | ⟨rfl, rfl⟩ | ⟨rfl, rfl⟩ |
    ⟨rfl, rfl⟩ | ⟨rfl, rfl⟩ | ⟨rfl, rfl⟩ | ⟨rfl, rfl⟩ | ⟨rfl, rfl⟩ | ⟨rfl, rfl⟩ | ⟨rfl, rfl⟩ | ⟨rfl, rfl⟩ | ⟨rfl, rfl⟩
  · exact decodePayload_pair (.inl rfl) p hp
  · exact values 17 _ hp
  · exact values 25 _ hp
  · exact if_neg hp
  · exact empty _ hp
  · exact if_neg hp
  · exact empty _ hp
  · exact decodePayload_pair (.inr (.inl rfl)) p hp
  · exact decodePayload_pair (.inr (.inr rfl)) p hp
  · exact empty _ hp
  · exact empty _ hp
  · exact decodePayload_single (.inl rfl) p hp
  · exact if_neg hp
  · exact if_neg hp
  · exact decodePayload_single (.inr rfl) p hp
  · exact empty _ hp
  · exact empty _ hp

/-- Every kind of the table names a request. -/
theorem isRequestKind_fixed (k : Byte) (n : Nat) (hm : (k, n) ∈ fixedLengths) : isRequestKind k = true := by
  have hall : ∀ x ∈ fixedLengths, isRequestKind x.1 = true := by decide
  exact hall _ hm

/-- CONFIGURE spells no request unless the named fields take the payload whole (spec/11 R185). -/
theorem decodePayload_configure (p : List Byte) (h : p.length < 6 ∨
    p.length ≠ 6 + ((maskFields 41 (BitVec.ofNat 48 (leNat (p.take 6)))).map configWidth).sum) :
    decodePayload 2 p = none := by
  unfold decodePayload
  by_cases hl : p.length < 6
  · simp only [if_pos hl]
  · have hn := h.resolve_left hl
    simp only [if_neg hl]
    rw [parseValues_none _ _ _ (by simp only [List.length_drop]; omega)]
    rfl

/-- AMEND RECIPE likewise. -/
theorem decodePayload_amend (p : List Byte) (h : p.length < 4 ∨
    p.length ≠ 4 + 2 * (maskFields 25 (BitVec.ofNat 32 (leNat (p.take 4)))).length) : decodePayload 5 p = none := by
  unfold decodePayload
  by_cases hl : p.length < 4
  · simp only [if_pos hl]
  · have hn := h.resolve_left hl
    simp only [if_neg hl]
    rw [parseValues_none _ _ _ (by rw [sum_recipeWidth]; simp only [List.length_drop]; omega)]
    rfl

/-- A number of at least `n` is `n` and more. -/
theorem exists_add_of_le {n i : Nat} (h : n ≤ i) : ∃ k, i = k + n := ⟨i - n, by omega⟩

theorem handleHead_badHead (h a : Nat) (s : State) (hh : 16 ≤ h) : handleHead h a s = s.withReply ⟨0x81, [0x0A, 4, 0]⟩ :=
  dif_neg (by omega)

theorem handleHead_badAction (h a : Nat) (s : State) (hh : h < 16) (ha : 2 < a) :
    handleHead h a s = s.withReply ⟨0x81, [0x0A, 3, 1]⟩ := by
  obtain ⟨n, rfl⟩ := exists_add_of_le ha
  exact dif_pos hh

theorem handleCylinder_badCylinder (c a : Nat) (s : State) (hc : 4 ≤ c) :
    handleCylinder c a s = s.withReply ⟨0x81, [0x0B, 4, 0]⟩ :=
  dif_neg (by omega)

theorem handleCylinder_badAction (c a : Nat) (s : State) (hc : c < 4) (ha : 1 < a) :
    handleCylinder c a s = s.withReply ⟨0x81, [0x0B, 3, 1]⟩ := by
  obtain ⟨n, rfl⟩ := exists_add_of_le ha
  exact dif_pos hc

theorem handleRead_badItem (code index : Nat) (s : State) (h : 7 < code) :
    handleRead code index s = s.withReply ⟨0x81, [0x01, 3, 0]⟩ := by
  obtain ⟨n, rfl⟩ := exists_add_of_le h
  rfl

theorem handleReadQueues_badPart (i : Nat) (s : State) (h : 3 ≤ i) :
    handleReadQueues i s = s.withReply ⟨0x81, [0x01, 4, 1]⟩ := by
  obtain ⟨n, rfl⟩ := exists_add_of_le h
  rfl

theorem handleSelectSource_badCode (i : Nat) (s : State) (h : 2 < i) :
    handleSelectSource i s = s.withReply ⟨0x81, [0x11, 3, 0]⟩ := by
  obtain ⟨n, rfl⟩ := exists_add_of_le h
  rfl

/-- Settles O21, check by check in R176's order. -/
theorem badRequestsAreRefused : Obligations.BadRequestsAreRefused := by
  intro s hs
  refine ⟨fun k p hk => ?kind, fun k n p hm hp => ?fixed, fun p hp => ?configure, fun p hp => ?amend, fun code i hc hl hi => ?code,
    fun i v hi hl => ?head, fun i hi => ⟨fun h => ?cylinder, fun h => ?queues, fun h => ?recipe, fun h => ?verdicts,
    fun h => ?source⟩, fun h a hh ha => ⟨fun hb => ?badHead, fun hb hx => ?headAction⟩,
    fun c a hc ha => ⟨fun hb => ?badCylinder, fun hb hx => ?cylinderAction⟩⟩
  case kind =>
    have hno : isRequestKind k = false := by simp [isRequestKind]; omega
    exact congrArg _ (arrive_unknown k p s hs hno)
  case fixed => exact arrive_badLength k p s hs (isRequestKind_fixed k n hm) (decodePayload_fixed k n p hm hp)
  case configure => exact arrive_badLength 0x02 p s hs rfl (decodePayload_configure p hp)
  case amend => exact arrive_badLength 0x05 p s hs rfl (decodePayload_amend p hp)
  case code =>
    rw [exec_ready (.readBadItem code i) (.read code i) s rfl (by simp [Request.wf, hl, hi]) hs]
    exact congrArg _ (handleRead_badItem code i s hc)
  case head =>
    rw [exec_ready (.readHead i v) (.read 1 i) s rfl (by simp [Request.wf, hl]) hs]
    exact congrArg _ (dif_neg (by omega))
  case cylinder =>
    rw [exec_ready (.readCylinder i) (.read 2 i) s rfl (by simp [Request.wf, hi]) hs]
    exact congrArg _ (dif_neg (by omega))
  case queues =>
    rw [exec_ready (.readQueues i) (.read 3 i) s rfl (by simp [Request.wf, hi]) hs]
    exact congrArg _ (handleReadQueues_badPart i s h)
  case recipe =>
    rw [exec_ready (.readRecipe i) (.read 4 i) s rfl (by simp [Request.wf, hi]) hs]
    exact congrArg _ (dif_neg (by omega))
  case verdicts =>
    rw [exec_ready (.takeVerdicts i) (.takeVerdicts i) s rfl (by simp [Request.wf, hi]) hs]
    exact congrArg _ (if_neg (by omega))
  case source =>
    rw [exec_ready (.selectSource i) (.selectSource i) s rfl (by simp [Request.wf, hi]) hs]
    exact congrArg _ (handleSelectSource_badCode i s h)
  case badHead =>
    refine ⟨?_, ?_, ?_, ?_⟩
    · rw [exec_ready (.headEnable h) (.head h 0) s rfl (by simp [Request.wf, hh]) hs]
      exact congrArg _ (handleHead_badHead h 0 s hb)
    · rw [exec_ready (.headDisable h) (.head h 1) s rfl (by simp [Request.wf, hh]) hs]
      exact congrArg _ (handleHead_badHead h 1 s hb)
    · rw [exec_ready (.headReset h) (.head h 2) s rfl (by simp [Request.wf, hh]) hs]
      exact congrArg _ (handleHead_badHead h 2 s hb)
    · rw [exec_ready (.headBadAction h a) (.head h a) s rfl (by simp [Request.wf, hh, ha]) hs]
      exact congrArg _ (handleHead_badHead h a s hb)
  case headAction =>
    rw [exec_ready (.headBadAction h a) (.head h a) s rfl (by simp [Request.wf, hh, ha]) hs]
    exact congrArg _ (handleHead_badAction h a s hb hx)
  case badCylinder =>
    refine ⟨?_, ?_, ?_⟩
    · rw [exec_ready (.cylinderEnable c) (.cylinder c 0) s rfl (by simp [Request.wf, hc]) hs]
      exact congrArg _ (handleCylinder_badCylinder c 0 s hb)
    · rw [exec_ready (.cylinderDisable c) (.cylinder c 1) s rfl (by simp [Request.wf, hc]) hs]
      exact congrArg _ (handleCylinder_badCylinder c 1 s hb)
    · rw [exec_ready (.cylinderBadAction c a) (.cylinder c a) s rfl (by simp [Request.wf, hc, ha]) hs]
      exact congrArg _ (handleCylinder_badCylinder c a s hb)
  case cylinderAction =>
    rw [exec_ready (.cylinderBadAction c a) (.cylinder c a) s rfl (by simp [Request.wf, hc, ha]) hs]
    exact congrArg _ (handleCylinder_badAction c a s hb hx)

/-! ## DISCARD RECIPE and RESYNC FILL -/

/-- The one PENDING slot is found. -/
theorem pendingSlot_some (s : State) (i : Fin 2) (hi : s.slots[i].state = .pending)
    (ho : ∀ j : Fin 2, s.slots[j].state = .pending → j = i) : pendingSlot s = some i := by
  cases hf : pendingSlot s with
  | none => exact absurd hi (by simpa using List.find?_eq_none.mp hf i (List.mem_finRange i))
  | some j => exact congrArg some (ho j (by simpa using List.find?_some hf))

/-- With no slot PENDING none is found. -/
theorem pendingSlot_none (s : State) (h : ∀ j : Fin 2, s.slots[j].state ≠ .pending) : pendingSlot s = none :=
  List.find?_eq_none.mpr fun j _ => by simpa using h j

/-- Settles O30: the PENDING slot is freed with its allowances, or there is none. -/
theorem recipeIsDiscarded : Obligations.RecipeIsDiscarded := by
  intro s hs
  rw [exec_ready .discardRecipe .discardRecipe s rfl rfl hs]
  refine ⟨fun i hi ho => ?_, fun h => congrArg _ ?_⟩
  · intro t
    refine congrArg _ ?_
    show handleDiscardRecipe s = _
    simp only [handleDiscardRecipe, pendingSlot_some s i hi ho, slotStates_items]
    rfl
  · show handleDiscardRecipe s = _
    simp only [handleDiscardRecipe, pendingSlot_none s h]
    rfl

/-- Settles O32: the queue, the debt and the expected tag are unset, and the reply holds what stood. -/
theorem fillIsResynchronised : Obligations.FillIsResynchronised := by
  intro s hs hq hd
  rw [exec_ready .resyncFill .resyncFill s rfl rfl hs]
  refine congrArg _ ?_
  show handleResyncFill s = _
  rw [handleResyncFill, item_one_of_lt hq, item_one_of_lt hd]
  rfl

/-! ## INFEED HOLD and INFEED RELEASE -/

/-- A set of `n` members is a number below 2 to the `n`. -/
theorem setBits_lt (bs : List Bool) : setBits bs < 2 ^ bs.length := by
  induction bs with
  | nil => simp [setBits]
  | cons b bs ih =>
    simp only [setBits, List.length_cons, Nat.pow_succ]
    split <;> omega

/-- A set of up to 16 members fits its two bytes (spec/11 R188). -/
theorem setItem_eq (bs : List Bool) (h : bs.length ≤ 16) : setItem bs = leBytes 2 (setBits bs) := by
  have hlt : setBits bs < 256 ^ 2 := (setBits_lt bs).trans_le (Nat.pow_le_pow_right (n := 2) (by decide) h)
  rw [setItem, item, if_pos hlt]

/-- A member's weight in a set. -/
theorem ite_weight (b : Bool) (n : Nat) : (if b then n else 0) = n * if b then 1 else 0 := by
  cases b <;> simp

/-- A set of ten members, weight by weight. -/
theorem setBits_ten (a b c d e f g h i j : Bool) :
    setBits [a, b, c, d, e, f, g, h, i, j] = (if a then 1 else 0) + (if b then 2 else 0) + (if c then 4 else 0) +
      (if d then 8 else 0) + (if e then 16 else 0) + (if f then 32 else 0) + (if g then 64 else 0) + (if h then 128 else 0) +
      (if i then 256 else 0) + (if j then 512 else 0) := by
  simp only [setBits, ite_weight _ 2, ite_weight _ 4, ite_weight _ 8, ite_weight _ 16, ite_weight _ 32, ite_weight _ 64,
    ite_weight _ 128, ite_weight _ 256, ite_weight _ 512]
  ring

/-- The withhold set's item with HOLD_REQUEST at `b`: one bit for each reason in the order of R48, LOG last. -/
theorem withholdItem_held (s : State) (b : Bool) :
    withholdItem (s.modWithhold fun w => { w with holdRequest := b }) =
      let w := s.infeed.withhold
      leBytes 2 ((if w.noRecipe then 1 else 0) + (if b then 2 else 0) + (if w.gas then 4 else 0) + (if w.wake then 8 else 0) +
        (if w.temp then 16 else 0) + (if w.position then 32 else 0) + (if w.simulated then 64 else 0) +
        (if w.stop then 128 else 0) + (if w.noCylinder then 256 else 0) + (if 64 ≤ roomTaken s then 512 else 0)) := by
  rw [withholdItem, setItem_eq _ (by simp), setBits_ten]
  have hlog : logReason (s.modWithhold fun w => { w with holdRequest := b }) = true ↔ 64 ≤ roomTaken s := decide_eq_true_iff
  simp only [hlog]
  rfl

/-- Settles O36: HOLD_REQUEST is written, and the reply shows the set so written. -/
theorem infeedHoldAndRelease : Obligations.InfeedHoldAndRelease := by
  intro s hs held items
  constructor
  · rw [exec_ready .infeedHold .infeedHold s rfl rfl hs]
    refine congrArg _ ?_
    show accept 0x0C (withholdItem _) _ = _
    rw [withholdItem_held]
    rfl
  · rw [exec_ready .infeedRelease .infeedRelease s rfl rfl hs]
    refine congrArg _ ?_
    show accept 0x0D (withholdItem _) _ = _
    rw [withholdItem_held]
    rfl

/-! ## SELECT SOURCE and RELOCK -/

/-- SELECT SOURCE before its report: the tracker seeks on the new source, and a tracker that leaves LOCKED withdraws the
admissions (spec/01 R3, spec/03 R51). -/
def sourceSelected (src : Source) (s : State) : State :=
  { s with
    tracker := { s.tracker with
      source := src, state := .seeking, firstIndexSeen := false, position := 0, interval := 0
      stopDetect := .running (stopDetectTime s.config), genRunning := decide (src = .simulated)
      genCount := if decide (src = .simulated) then 0 else s.tracker.genCount }
    infeed := { s.infeed with
      withhold := { s.infeed.withhold with
        simulated := decide (src = .simulated), position := s.infeed.withhold.position || decide (s.tracker.state = .locked) }
      admitted := if s.tracker.state = .locked ∧ s.infeed.withhold.position = false then Vector.replicate 16 false
        else s.infeed.admitted
      gateOpen := if s.tracker.state = .locked ∧ s.infeed.withhold.position = false then false else s.infeed.gateOpen } }

/-- The act of SELECT SOURCE is that state and its TRACKER report. -/
theorem selectSource_eq (src : Source) (s : State) : selectSource src s = trackerReport (sourceSelected src s) := by
  unfold selectSource enterSeeking
  refine congrArg trackerReport ?_
  by_cases hl : s.tracker.state = .locked
  · cases hp : s.infeed.withhold.position
    · simp [hl, hp, setPosition, sourceSelected, State.modTracker, State.modWithhold, State.modInfeed]
    · simp [hl, hp, setPosition, sourceSelected, State.modTracker, State.modWithhold]
  · simp [hl, sourceSelected, State.modTracker, State.modWithhold]

/-- An act with no data of its own whose one report is the TRACKER report (spec/11 R176). -/
theorem acceptTracker (k : Byte) (op : State → State) (s u : State)
    (e : op (s.withReply ⟨0x80, [k]⟩) = trackerReport (u.withReply ⟨0x80, [k]⟩)) (hu : u.link = s.link) :
    acceptAround k (fun s => (op s, [])) s = trackerReport (u.withReply ⟨0x80, [k]⟩) :=
  acceptAround_report k op (fun _ => []) s u .tracker _ e hu rfl

/-- Settles O40: refused by its two tests, or the source selected and reported behind the ACCEPT. -/
theorem sourceIsSelected : Obligations.SourceIsSelected := by
  intro code src s hs hm sim leaving t
  have hcode : sourceOfCode code = some src ∧ code < 256 := by
    simp only [List.mem_cons, Prod.mk.injEq, List.not_mem_nil, or_false] at hm
    rcases hm with ⟨rfl, rfl⟩ | ⟨rfl, rfl⟩ | ⟨rfl, rfl⟩ <;> exact ⟨rfl, by decide⟩
  obtain ⟨hsrc, hlt⟩ := hcode
  rw [exec_ready (.selectSource code) (.selectSource code) s rfl (by simpa [Request.wf] using hlt) hs]
  have hhandle : handle (.selectSource code) (shownAt (.selectSource code) s) =
      if inProcess s ≠ 0 ∨ s.verdicts.rejects ≠ [] then refuse 0x11 .wrongState noField s
      else acceptAround 0x11 (fun s => (selectSource src s, [])) s := by
    show handleSelectSource code s = _
    simp only [handleSelectSource, hsrc]
  rw [hhandle]
  refine ⟨fun hp hr => congrArg _ ?_, fun h => congrArg _ (if_pos h)⟩
  rw [if_neg (by simp [hp, hr])]
  exact acceptTracker 0x11 (selectSource src) s t (selectSource_eq src _) rfl

/-- Settles O41: in SLIPPED the tracker seeks again behind the ACCEPT; else the one refusal. -/
theorem relockLeavesSlipped : Obligations.RelockLeavesSlipped := by
  intro s hs
  rw [exec_ready .relock .relock s rfl rfl hs]
  refine ⟨fun h => congrArg _ ?_, fun h => congrArg _ (if_neg h)⟩
  refine (if_pos h).trans (acceptTracker 0x12 (enterSeeking false) s _ rfl rfl)

end Sys2Proof.Machine
end

section
/-! PROOF. The bytes of replies and reports (spec/11 R187, R188): widths, numbers low byte first, sets, codes of named values;
taken verdicts, SET REPORTS and the reports and conditions, CLEAR CONDITIONS. -/

namespace Sys2Proof.Machine

/-! ## Items -/

@[simp] theorem item_length (w v : Nat) : (item w v).length = w := by simp [item]

@[simp] theorem itemOr_length (w : Nat) (v : Option Nat) : (itemOr w v).length = w := by cases v <;> simp [itemOr]

@[simp] theorem signedItem_length (v : Int) : (signedItem v).length = 2 := by simp [signedItem]

@[simp] theorem signedOr_length (v : Option Int) : (signedOr v).length = 2 := by cases v <;> simp [signedOr]

/-- The low bytes of a number, low byte first, are its digits by 256. -/
theorem leBytes_eq_wire (w v : Nat) : leBytes w v = wire w v := by
  induction w generalizing v with
  | zero => rfl
  | succ w ih =>
    simp only [leBytes, ih, wire, List.range_succ_eq_map, List.map_cons, List.map_map, Nat.pow_zero, Nat.div_one]
    refine congrArg _ (List.map_congr_left fun i _ => ?_)
    simp only [Function.comp_apply, Nat.succ_eq_add_one, Nat.div_div_eq_div_mul, Nat.pow_succ']

/-- A number that fits its width is carried low byte first (spec/11 R188). -/
theorem item_eq_wire {w v : Nat} (h : v < 256 ^ w) : item w v = wire w v := by
  rw [item, if_pos h, leBytes_eq_wire]

theorem signedItem_eq_wire {v : Int} (hl : -32768 < v) (hu : v < 32768) : signedItem v = wire 2 (v % 65536).toNat := by
  rw [signedItem, if_pos ⟨hl, hu⟩, leBytes_eq_wire]

/-- The bit `i` of a set's number says whether member `i` is in it. -/
theorem setBits_testBit (bs : List Bool) (i : Nat) : (setBits bs).testBit i = bs.getD i false := by
  induction bs generalizing i with
  | nil => simp [setBits]
  | cons b bs ih =>
    have hbit : setBits (b :: bs) = Nat.bit b (setBits bs) := by
      cases b with
      | false => simp [setBits, Nat.bit]
      | true => simp only [setBits, Nat.bit, cond_true, if_true]; omega
    rw [hbit]
    cases i with
    | zero => simp
    | succ i => simp [Nat.testBit_bit_succ, ih]

/-- The two bytes of a number, put together, hold its low 16 bits. -/
theorem getLsbD_two_bytes (v i : Nat) :
    (BitVec.ofNat 8 (v / 256) ++ BitVec.ofNat 8 v).getLsbD i = (decide (i < 16) && v.testBit i) := by
  simp only [BitVec.getLsbD_append, BitVec.getLsbD_ofNat, show (256 : Nat) = 2 ^ 8 from rfl, Nat.testBit_div_two_pow]
  grind

/-- A set of up to 16 members is two bytes, bit `i` of which says whether member `i` is in it (spec/11 R188). -/
theorem setItem_bits (bs : List Bool) (h : bs.length ≤ 16) :
    ∃ a b : Byte, setItem bs = [a, b] ∧ ∀ i : Nat, (b ++ a).getLsbD i = bs.getD i false := by
  refine ⟨BitVec.ofNat 8 (setBits bs), BitVec.ofNat 8 (setBits bs / 256), setItem_eq bs h, fun i => ?_⟩
  rw [getLsbD_two_bytes, setBits_testBit]
  by_cases hi : i < 16
  · simp [hi]
  · have hnone : bs[i]? = none := List.getElem?_eq_none (by omega)
    simp [hi, List.getD_eq_getElem?_getD, hnone]

/-! ## Codes of named values: places in their tables (spec/11 R188, log 13) -/

theorem source_item (x : Source) :
    item 1 x.code = [BitVec.ofNat 8 (([.primary, .secondary, .simulated] : List Source).idxOf x)] := by
  cases x <;> rfl

theorem trackerState_item (x : TrackerState) :
    item 1 x.code = [BitVec.ofNat 8 (([.unlocked, .seeking, .locked, .slipped] : List TrackerState).idxOf x)] := by
  cases x <;> rfl

theorem motion_item (x : Motion) : item 1 x.code = [BitVec.ofNat 8 (([.running, .stopped] : List Motion).idxOf x)] := by
  cases x <;> rfl

theorem service_item (x : Service) : item 1 x.code =
    [BitVec.ofNat 8 (([.enabled, .disabling, .disabled, .zeroing, .outOfService] : List Service).idxOf x)] := by
  cases x <;> rfl

theorem cycle_item (x : Cycle) : item 1 x.code =
    [BitVec.ofNat 8 (([.empty, .seated, .crimped, .probing, .probed, .waiting, .charging, .charged, .dwelling, .lifted] :
      List Cycle).idxOf x)] := by
  cases x <;> rfl

theorem cylState_item (x : CylState) : item 1 x.code =
    [BitVec.ofNat 8 (([.idle, .refilling, .ready, .discharging, .measuring, .fault, .disabled, .outOfService] :
      List CylState).idxOf x)] := by
  cases x <;> rfl

theorem headCause_item (x : HeadCause) : item 1 x.code =
    [BitVec.ofNat 8 (([.enableRequest, .disableRequest, .disableComplete, .resetRequest, .zeroGood, .noFlowLimit, .zeroLimit] :
      List HeadCause).idxOf x)] := by
  cases x <;> rfl

theorem cylCause_item (x : CylCause) : item 1 x.code =
    [BitVec.ofNat 8 (([.refillTimeout, .refillLimit, .refillRecovered, .disableRequest, .disableComplete, .enableRequest] :
      List CylCause).idxOf x)] := by
  cases x <;> rfl

/-! ## Can records in 58 bytes -/

theorem shotEntryBytes_length (e : ShotEntry) : (shotEntryBytes e).length = 11 := by simp [shotEntryBytes]

theorem shotPlaces_length (l : List ShotEntry) : (shotPlaces l).length = 33 := by
  rw [shotPlaces, List.length_flatMap]
  refine (congrArg List.sum (List.map_congr_left (g := fun _ => 11) fun i _ => ?_)).trans rfl
  cases l[i]? with
  | none => rfl
  | some e => exact shotEntryBytes_length e

theorem reasonPlaces_length (l : List Reason) : (reasonPlaces l).length = 4 := by simp [reasonPlaces]

/-- A record takes 58 bytes whatever it holds (spec/11 R187). -/
theorem recordBytes_length (r : CanRecord) : (recordBytes r).length = 58 := by
  simp [recordBytes, shotPlaces_length, reasonPlaces_length]

/-- The reasons in the order of their codes (spec/11 R187). -/
def reasonTable : List Reason :=
  [.noCup, .crimpShallow, .crimpDeep, .crimpDiameter, .crimpLeak, .probeLate, .fillLost, .noFillReport, .fillOutOfRange,
   .noFlow, .backflow, .noCharge, .doseLow, .doseHigh, .doseUnknown, .settleLeak, .dwellShort, .headFault, .headReset,
   .positionLost]

/-- A reason's byte is its place in the table, from 1. -/
theorem reason_item (k : Reason) : item 1 k.code = [BitVec.ofNat 8 (reasonTable.idxOf k + 1)] := by
  cases k <;> rfl

/-- One place for a reason: its byte, or 0 (spec/11 R187). -/
theorem reasonPlace (l : List Reason) (n : Nat) :
    item 1 ((l[n]?.map Reason.code).getD 0) =
      [match l[n]? with | none => 0 | some k => BitVec.ofNat 8 (reasonTable.idxOf k + 1)] := by
  cases l[n]? with
  | none => rfl
  | some k => exact reason_item k

/-- Settles O37: the handler's two answers, and the record's form item by item. -/
theorem verdictsAreTaken : Obligations.VerdictsAreTaken := by
  intro n s hs hn hlog
  rw [exec_ready (.takeVerdicts n) (.takeVerdicts n) s rfl (by simpa [Request.wf] using hn) hs]
  refine ⟨fun h => congrArg _ ?taken, fun h1 h2 => congrArg _ (if_neg (by omega)), recordBytes_length,
    fun w v => item_eq_wire, fun v => signedItem_eq_wire, fun r => ?layout⟩
  case taken =>
    show handleTakeVerdicts n s = _
    refine (if_pos h).trans ?_
    simp only [State.modVerdicts_verdicts, List.length_take, List.length_drop]
    rw [item_one_of_lt (by omega), item_one_of_lt (by omega)]
    rfl
  case layout =>
    intro bit orNone decay shot reasons reason basis
    have hor : ∀ o, itemOr 2 o = orNone o := by intro o; cases o <;> rfl
    have hdecay : ∀ o, signedOr o = decay o := by intro o; cases o <;> rfl
    have hshots : shotPlaces r.shots = shot 0 ++ shot 1 ++ shot 2 := by
      simp only [shotPlaces, List.flatMap_cons, List.flatMap_nil, List.append_nil, List.append_assoc]
      congr 1
      · simp only [shot]; cases r.shots[0]? <;> rfl
      congr 1
      · simp only [shot]; cases r.shots[1]? <;> rfl
      · simp only [shot]; cases r.shots[2]? <;> rfl
    have hreasons : reasonPlaces r.reasons = [reason 0, reason 1, reason 2, reason 3] := by
      simp only [reasonPlaces, List.flatMap_cons, List.flatMap_nil, reasonPlace]
      rfl
    have hbasis : basisCode r.basis = basis := by
      simp only [basis]
      cases r.basis with
      | none => rfl
      | some b => cases b <;> rfl
    have hverdict : (if r.verdict = some .reject then 32 else 0) = bit (r.verdict == some .reject) 32 := by
      simp only [bit, beq_iff_eq]
    rw [recordBytes, hor, hor, hor, hdecay, hdecay, hshots, hreasons, hbasis, hverdict]
    simp only [List.append_assoc]
    cases r.fillMass with
    | none => rfl
    | some m =>
      simp only [Nat.add_comm (m % 16384)]
      rfl

/-! ## Reports and conditions -/

/-- The states of all twelve conditions, in the order of their numbers. -/
theorem conditions_has (c : Conditions) : conditions.map c.has = c.isSet.toList := by
  refine List.ext_getElem (by simp [conditions]) fun k hk _ => ?_
  have hk : k < 12 := by simpa [conditions] using hk
  interval_cases k <;> rfl

theorem conditionsItem_eq (c : Conditions) : conditionsItem c = setItem c.isSet.toList := by
  rw [conditionsItem, conditions_has]

/-- A STOP-class condition is SET: one of the first four (spec/10 R164, R170). -/
theorem anyStop_eq (c : Conditions) : c.anyStop = (c.isSet[0] || c.isSet[1] || c.isSet[2] || c.isSet[3]) := by
  simp [Conditions.anyStop, conditions, Condition.isStop, Conditions.has, Condition.num, Bool.or_assoc]

/-- The STOP class is the first four conditions. -/
theorem isStop_iff (k : Condition) : k.isStop = true ↔
    k = .positionSlip ∨ k = .rejectUnconfirmed ∨ k = .rejectLost ∨ k = .allCylindersOut := by
  cases k <;> simp [Condition.isStop]

/-- Setting a condition of the STOP class asserts the line. -/
theorem anyStop_set (k : Condition) (c : Conditions) (h : k.isStop = true) :
    ({ c with isSet := c.isSet.set k.num true } : Conditions).anyStop = true := by
  rw [anyStop_eq]
  rcases (isStop_iff k).mp h with rfl | rfl | rfl | rfl <;> simp [Condition.num]

/-- A report whose three tests hold joins the tail of the transmit queue (spec/11 R179, R180). -/
theorem report_sent (k : ReportKind) (p : List Byte) (s : State) (hm : s.conds.mask.getLsbD k.bit = true)
    (hr : s.link.restartPending = false) (hroom : s.link.tx.countP TxFrame.isReport < 6 ∧ s.link.tx.length < 8) :
    report k p s = { s with link := { s.link with tx := s.link.tx ++ [{ isReport := true, frame := ⟨k.byte, p⟩ }] } } := by
  simp [report, hm, hr, Link.hasReportRoom, Link.reports, reportRoom, transmitRoom, hroom, State.modLink]

/-- A report of which one test fails is not sent. -/
theorem report_dropped (k : ReportKind) (p : List Byte) (s : State)
    (h : ¬s.conds.mask.getLsbD k.bit = true ∨ s.link.restartPending = true ∨
      ¬(s.link.tx.countP TxFrame.isReport < 6 ∧ s.link.tx.length < 8)) : report k p s = s := by
  refine if_neg fun e => ?_
  obtain ⟨he, hroom⟩ := Bool.and_eq_true_iff.mp e
  obtain ⟨hm, hr⟩ := Bool.and_eq_true_iff.mp he
  obtain ⟨hreports, hplaces⟩ := Bool.and_eq_true_iff.mp hroom
  have hroom : s.link.tx.countP TxFrame.isReport < 6 ∧ s.link.tx.length < 8 :=
    ⟨of_decide_eq_true hreports, of_decide_eq_true hplaces⟩
  rcases h with h | h | h
  · exact h hm
  · simp [h] at hr
  · exact h hroom

/-- Settles O39: the mask written, a report's three tests, the three cases of a condition set, and each report's items. -/
theorem reportsAndConditionsAreGiven : Obligations.ReportsAndConditionsAreGiven := by
  refine ⟨fun mask s hs => ?mask, fun k p s => ?report, fun k s => ?condition, fun s => ?items⟩
  case mask =>
    rw [exec_ready (.setReports mask) (.setReports mask) s rfl rfl hs]
    rfl
  case report =>
    intro enabled room kind
    cases k with
    | condition => exact ⟨report_sent .condition p s, report_dropped .condition p s⟩
    | head => exact ⟨report_sent .head p s, report_dropped .head p s⟩
    | cylinder => exact ⟨report_sent .cylinder p s, report_dropped .cylinder p s⟩
    | tracker => exact ⟨report_sent .tracker p s, report_dropped .tracker p s⟩
  case condition =>
    intro stops set1 set2 reported
    have hreport (t : State) : conditionReport k t =
        if t.conds.mask.getLsbD k.num.val then
          report .condition (item 1 k.num.val ++ item 1 (if k.isStop then 0 else 1) ++ flag (causePresent t k) ++
            setItem t.conds.isSet.toList ++ flag t.conds.stopLine) t
        else t := by
      rw [conditionReport, conditionsItem_eq]
    have hnum : item 1 k.num.val = [BitVec.ofNat 8 k.num.val] := item_one_of_lt (k.num.isLt.trans (by decide))
    refine ⟨fun h => if_pos h, fun h hst => ?_, fun h hst => ?_⟩
    · have hstop : k.isStop = true := (isStop_iff k).mpr hst
      have hset : updateStop set1 = set2 := by
        simp only [updateStop, set1, anyStop_set k _ hstop]
        rfl
      refine (if_neg (by simpa [Conditions.has] using h)).trans ?_
      show conditionReport k (if k.isStop then updateStop set1 else set1) = _
      rw [if_pos hstop, hset, hreport, hnum, hstop]
      cases k <;> rfl
    · have hnot : k.isStop = false := by rw [← Bool.not_eq_true, isStop_iff]; exact hst
      refine (if_neg (by simpa [Conditions.has] using h)).trans ?_
      show conditionReport k (if k.isStop then updateStop set1 else set1) = _
      rw [hnot, if_neg Bool.false_ne_true, hreport, hnum, hnot]
      cases k <;> rfl
  case items =>
    intro code k
    refine ⟨fun hp hr => ?_, fun h cause => ?_, fun c cause => ?_⟩
    · rw [trackerReport, source_item, trackerState_item, motion_item, item_eq_wire (w := 2) hp, item_eq_wire (w := 4) hr]
      rfl
    · intro x seq hn hz hq
      have hseq : x.seqItem = wire 3 seq := by
        rw [← item_eq_wire (w := 3) hq, Head.seqItem]
        simp only [seq]
        cases x.record <;> rfl
      rw [headReport, service_item, cycle_item, headCause_item, hseq, item_one_of_lt (h.isLt.trans (by decide)),
        item_one_of_lt hn, item_one_of_lt hz]
      rfl
    · intro y hp hf
      rw [cylinderReport, cylState_item, cylCause_item, item_eq_wire (w := 2) hp,
        item_one_of_lt (c.isLt.trans (by decide)), item_one_of_lt hf]
      rfl

/-! ## CLEAR CONDITIONS -/

/-- Every condition number is the number of one condition. -/
theorem exists_condition (i : Fin 12) : ∃ k : Condition, k.num = i := by
  have hmem : i ∈ conditions.map Condition.num := by revert i; decide
  obtain ⟨k, -, hk⟩ := List.mem_map.mp hmem
  exact ⟨k, hk⟩

theorem mem_conditions (k : Condition) : k ∈ conditions := by cases k <;> decide

theorem condition_num_inj {j k : Condition} (h : j.num = k.num) : j = k := by
  revert h; cases j <;> cases k <;> decide

/-- Conditions made NOT SET one by one: those in the list, and no other. -/
theorem foldl_clear (l : List Condition) (v : Vector Bool 12) (k : Condition) :
    (l.foldl (fun v k => v.set k.num false) v)[k.num] = (v[k.num] && decide (k ∉ l)) := by
  induction l generalizing v with
  | nil => simp
  | cons j l ih =>
    rw [List.foldl_cons, ih, getFin_set]
    by_cases hj : j = k
    · subst hj; simp
    · have hne : j.num ≠ k.num := fun e => hj (condition_num_inj e)
      have hkj : k ≠ j := fun e => hj e.symm
      simp [hne, hkj]

/-- The states after a CLEAR CONDITIONS (spec/10 R168). -/
theorem clearNamed_isSet (mask : BitVec 16) (s : State) (k : Condition) :
    (clearNamed mask s).conds.isSet[k.num] =
      (s.conds.isSet[k.num] && !(mask.getLsbD k.num.val && !causePresent s k)) := by
  simp only [clearNamed, updateStop, State.modConds_conds, foldl_clear, List.mem_filter, mem_conditions, true_and]
  cases hk : s.conds.isSet[k.num] <;> simp [namedSet, Conditions.has, hk]

/-- Settles O38: the first bad bit, or the named conditions cleared with the line after them; and the causes. -/
theorem conditionsAreCleared : Obligations.ConditionsAreCleared := by
  refine ⟨fun mask s hs => ?_, fun s => ?causes⟩
  · rw [exec_ready (.clearConditions mask) (.clearConditions mask) s rfl rfl hs]
    refine ⟨fun f hf hm ho => congrArg _ ?refused, fun hm v stop hv hstop => ?cleared⟩
    case refused =>
      show handleClearConditions mask s = _
      simp only [handleClearConditions, maskCheck_some 12 mask f hf hm ho]
      rfl
    case cleared =>
      intro cleared stayed
      refine congrArg _ ?_
      have hset : (clearNamed mask s).conds.isSet = v := by
        ext i hi
        obtain ⟨k, hk⟩ := exists_condition ⟨i, hi⟩
        have hboth := (clearNamed_isSet mask s k).trans (hv k).symm
        simpa [hk] using hboth
      have hline : (clearNamed mask s).conds.anyStop = stop := by rw [anyStop_eq, hset, hstop]
      have hstate : clearNamed mask s = { s with
          conds := { s.conds with isSet := v, stopLine := stop }
          infeed := { s.infeed with withhold := { s.infeed.withhold with stop := stop } } } := by
        rw [← hset, ← hline]
        rfl
      have hcleared : conditions.map (namedSet s mask false) = cleared :=
        List.map_congr_left fun k _ => by simp [namedSet, Conditions.has]
      have hstayed : conditions.map (namedSet s mask true) = stayed :=
        List.map_congr_left fun k _ => by simp [namedSet, Conditions.has]
      show handleClearConditions mask s = _
      simp only [handleClearConditions, (maskCheck_none 12 mask).mpr hm, hcleared, hstayed, conditionsItem_eq, hstate]
      rfl
  case causes =>
    refine ⟨by simp [causePresent], ?_, ?_, ?_, Iff.rfl, by simp [causePresent], ?_⟩
    · simp [causePresent, allOut, allCylinders, Cylinder.isOut]
    · simp [causePresent, allHeads]
    · simp [causePresent, allCylinders]
    · intro k hk
      simp only [List.mem_cons, List.not_mem_nil, or_false] at hk
      rcases hk with rfl | rfl | rfl | rfl | rfl | rfl <;> rfl

end Sys2Proof.Machine
end

section
/-! PROOF. Timers and readings outside the charge sequence: simulated counts and the motion stop (spec/01 R2, R12), the gas
supply monitor with standby and wake (spec/05 R102 to R105), refill and retry timers (R91, R92), and CRIMP_READ (spec/04 R72,
R73). -/

namespace Sys2Proof.Machine

/-! ## Counts and stops -/

theorem execSimulatedCount_taken (v : Sensors) (order : List Taker) (s : State) (hsrc : s.tracker.source = .simulated)
    (hrun : s.tracker.genRunning = true) (index : Bool) (hidx : decide ((s.tracker.genCount + 1) % 4096 = 1) = index) :
    exec (.simulatedCount v order) s = .next (takeCount .forward index order
      { s with sensors := v, tracker := { s.tracker with genCount := s.tracker.genCount + 1 } }) := by
  subst hidx
  exact congrArg _ (if_pos ⟨hsrc, hrun⟩)

theorem execEncoderCount_taken (input : EncoderInput) (dir : Direction) (index : Bool) (v : Sensors) (order : List Taker)
    (s : State) (hsrc : s.tracker.source = inputSource input) :
    exec (.encoderCount input dir index v order) s = .next (takeCount dir index order { s with sensors := v }) :=
  congrArg _ (if_pos hsrc)

theorem stopDetectExpiry_running {s : State} {n : Nat} (h : s.tracker.stopDetect = .running n) :
    exec .stopDetectExpiry s = .next
      (if s.tracker.motion = .running then
        trackerReport { s with tracker := { s.tracker with stopDetect := .stopped, motion := .stopped } }
      else { s with tracker := { s.tracker with stopDetect := .stopped } }) := by
  refine congrArg _ ((if_pos (by rw [h]; rfl)).trans ?_)
  rfl

/-- Settles O44: a count is taken by the one rule, whichever source gives it. -/
theorem simulatedCountsAndStops : Obligations.SimulatedCountsAndStops := by
  refine ⟨fun v order s => ⟨fun hsrc hrun h => ?_, fun hsrc hrun h => ?_, fun h => ?_, fun dir index => ⟨fun h => ?_, fun h => ?_⟩⟩,
    fun s n h => ⟨fun hm => ?_, fun hm => ?_⟩, fun s h => ?_⟩
  · exact execSimulatedCount_taken v order s hsrc hrun true (decide_eq_true h)
  · exact execSimulatedCount_taken v order s hsrc hrun false (decide_eq_false h)
  · refine congrArg _ (if_neg ?_)
    rintro ⟨hsrc, hrun⟩
    rcases h with h | h
    · exact h hsrc
    · rw [hrun] at h; exact Bool.noConfusion h
  · exact execEncoderCount_taken .primary dir index v order s h
  · exact execEncoderCount_taken .secondary dir index v order s h
  · rw [stopDetectExpiry_running h, if_pos hm]
  · rw [stopDetectExpiry_running h, if_neg (by rw [hm]; decide)]
  · exact congrArg _ (if_neg (by rw [h]; decide))

/-! ## The gas supply -/

theorem isRunning_eq_false {t : Timer} (h : t = .stopped ∨ t = .expired) : ¬t.isRunning = true := by
  rcases h with rfl | rfl <;> decide

/-- A reading that is faulty: outside the good range, or an open sensor. -/
theorem temperatureAct_faulty {reading : Option Int} (h : ∀ t : Int, reading = some t → t < -400 ∨ 800 < t) (s : State) :
    temperatureAct reading s =
      if s.gas.tempGood then
        s.modGas fun g => { g with tempGood := false, holdTimer := .running (tempHoldLimit s.config) }
      else s := by
  cases reading with
  | none => rfl
  | some t =>
    have hout := h t rfl
    exact if_neg (by omega)

/-- Settles O59: the throttle's four cases, the temperature reading, and the hold timer. -/
theorem gasSupplyIsWatched : Obligations.GasSupplyIsWatched := by
  refine ⟨fun raw s => ?buffer, fun s => ⟨fun t hl hu => ?_, fun reading h => ⟨fun hg => ?_, fun hg => ?_⟩, fun n h => ?_, fun h => ?_⟩⟩
  case buffer =>
    intro p set shown taken
    have hact : taken = .next (bufferAct raw s) := rfl
    have hp : clampReading 6000 raw = p := rfl
    simp only [hact, bufferAct, hp]
    refine ⟨fun ho hlt => ?_, fun ho hle => ?_, fun ho hlt => ?_, fun ho hle => ?_⟩
    · rw [ho, if_neg Bool.false_ne_true, if_pos hlt]; rfl
    · rw [ho, if_neg Bool.false_ne_true, if_neg (by omega)]; rfl
    · rw [ho, if_pos rfl, if_neg (by omega)]; rfl
    · rw [ho, if_pos rfl, if_pos hle]; rfl
  · exact congrArg _ (if_pos ⟨hl, hu⟩)
  · exact congrArg _ ((temperatureAct_faulty h s).trans (if_pos hg))
  · exact congrArg _ ((temperatureAct_faulty h s).trans (if_neg (by rw [hg]; decide)))
  · exact congrArg _ (if_pos (by rw [h]; rfl))
  · exact congrArg _ (if_neg (isRunning_eq_false h))

/-- The state in which a wake has completed, before the bank is refilled (spec/05 R105). -/
def State.woken (s : State) : State :=
  (s.modGas fun g =>
    { g with standby := .active, wakeTimer := .stopped, idleTimer := .running (idleDelay s.config) }).modWithhold fun w =>
      { w with wake := false }

theorem completeWake_done {s : State} (hs : s.gas.standby = .waking) (ht : s.gas.wakeTimer = .expired)
    (ho : s.gas.throttleOn = false) : completeWake s = refillBank s.woken := if_pos ⟨hs, ht, ho⟩

/-- With the refill condition holding, the refill of one cylinder of the bank (spec/05 R89, R93). -/
theorem refilledBy_true (p1 : Nat) (cfg : MachineConfig) (x : Cylinder) : x.refilledBy true p1 cfg =
    if x.state = .idle ∨ x.state = .ready ∧ (x.pressure : Int) < (p1 : Int) - (topUpBand cfg : Int) then
      { x with state := .refilling, refillValve := true, dischargeValve := false
               refillTimer := .running (refillTimeout cfg), retryTimer := .stopped, settleTimer := .stopped }
    else x := by
  simp only [Cylinder.refilledBy, true_and]
  rfl

/-- Settles O60: the standby state's four commands, and the completion of a wake. -/
theorem standbyAndWake : Obligations.StandbyAndWake := by
  intro s
  refine ⟨fun n h => ⟨fun ha hl => ?_, fun hn => ?_⟩, fun h => ?_, ⟨fun ha he => ?_, fun hn => ?_⟩, ⟨fun hs => ?_, fun hs => ?_⟩,
    fun n h => ?_, fun h => ?_, fun hn => ?_, fun hs ht ho => ⟨fun hslot => ?_, fun i hslot => ?_⟩⟩
  · exact congrArg _ ((if_pos (by rw [h]; rfl)).trans (if_pos ⟨ha, hl⟩))
  · refine congrArg _ ((if_pos (by rw [h]; rfl)).trans (if_neg ?_))
    rintro ⟨ha, hl⟩
    rcases hn with hn | hn
    · exact hn ha
    · rw [hl] at hn; exact Bool.noConfusion hn
  · exact congrArg _ (if_neg (isRunning_eq_false h))
  · exact congrArg _ (if_pos ⟨ha, he⟩)
  · exact congrArg _ (if_neg fun ⟨ha, he⟩ => hn.elim (· ha) (· he))
  · exact congrArg _ (if_pos hs)
  · exact congrArg _ (if_neg hs)
  · exact congrArg _ (if_pos (by rw [h]; rfl))
  · exact congrArg _ (if_neg (isRunning_eq_false h))
  · refine if_neg ?_
    rintro ⟨hs, ht, ho⟩
    rcases hn with hn | hn | hn
    · exact hn hs
    · exact hn ht
    · rw [ho] at hn; exact Bool.noConfusion hn
  · rw [completeWake_done hs ht ho, refillBank_none s.woken hslot]
    rfl
  · have hslot' : activeSlot s.woken = some i := hslot
    have hcond : refillCondition s.woken = true := by rw [refillCondition, hslot']; rfl
    rw [completeWake_done hs ht ho, refillBank_eq s.woken _ (activeFillPressure_some s.woken i hslot'), hcond]
    have hfun := funext (refilledBy_true (fillPressure (slotRecipe s.woken i)) s.woken.config)
    rw [hfun]
    rfl

/-! ## Refill and retry -/

/-- A refill timed out, below the third failure in succession (spec/05 R91). -/
theorem refillTimeoutAct_fault {c : Fin 4} {s : State} (h : s.cylinders[c].failures < 2) :
    refillTimeoutAct c s = cylinderReport c .refillTimeout (s.modCyl c fun x =>
      { x.enter .fault with failures := s.cylinders[c].failures + 1, retryTimer := .running (retryDelay s.config) }) := by
  have hn : min faultLimit (s.cylinders[c].failures + 1) = s.cylinders[c].failures + 1 :=
    Nat.min_eq_right (show s.cylinders[c].failures + 1 ≤ 3 by omega)
  simp only [refillTimeoutAct, hn]
  exact if_pos (show s.cylinders[c].failures + 1 < 3 by omega)

/-- A refill timed out for the third time in succession (spec/05 R91). -/
theorem refillTimeoutAct_out {c : Fin 4} {s : State} (h : 2 ≤ s.cylinders[c].failures) :
    refillTimeoutAct c s = allOutTest (cylinderReport c .refillLimit (setCondition .cylinderOutOfService
      (s.modCyl c fun x => { x.enter .outOfService with failures := 3 }))) := by
  have hn : min faultLimit (s.cylinders[c].failures + 1) = 3 :=
    Nat.min_eq_left (show 3 ≤ s.cylinders[c].failures + 1 by omega)
  simp only [refillTimeoutAct, hn]
  exact if_neg (show ¬3 < 3 by omega)

/-- Settles O54: the time-out's two cases and the retry's two. -/
theorem refillTimersExpire : Obligations.RefillTimersExpire := by
  intro c s
  refine ⟨fun n hs ht => ⟨fun hf => ?_, fun hf => ?_⟩, fun ht => ?_, fun n hs ht => ⟨fun hr => ?_, fun hr => ?_⟩, fun ht => ?_,
    refillCondition_iff s⟩
  · exact congrArg _ ((if_pos ⟨hs, by rw [ht]; rfl⟩).trans (refillTimeoutAct_fault hf))
  · exact congrArg _ ((if_pos ⟨hs, by rw [ht]; rfl⟩).trans (refillTimeoutAct_out hf))
  · exact congrArg _ (if_neg fun ⟨_, h⟩ => isRunning_eq_false (.inl ht) h)
  · exact congrArg _ ((if_pos ⟨hs, by rw [ht]; rfl⟩).trans (if_pos hr))
  · exact congrArg _ ((if_pos ⟨hs, by rw [ht]; rfl⟩).trans (if_neg (by rw [hr]; decide)))
  · exact congrArg _ (if_neg fun ⟨_, h⟩ => isRunning_eq_false (.inl ht) h)

/-! ## CRIMP_READ -/

/-- Reasons added one after another to a can whose head is not WAITING join its record in turn (spec/03 R65). -/
theorem foldl_addReason_settled (l : List Reason) (h : Fin 16) (s : State) (hc : s.heads[h].cycle ≠ .waiting) :
    l.foldl (fun s k => addReason h k s) s =
      s.modHead h fun x => { x with record := x.record.map fun r => l.foldl CanRecord.withReason r } := by
  induction l generalizing s with
  | nil =>
    refine (State.modHead_id s h _ ?_).symm
    simp
  | cons k l ih =>
    rw [List.foldl_cons, addReason_settled _ _ _ hc, ih _ (by simpa using hc), State.modHead_modHead]
    simp [Option.map_map, Function.comp_def]

theorem headRecipe_some {s : State} {h : Fin 16} {r : CanRecord} (hr : s.heads[h].record = some r) :
    headRecipe s h = slotRecipe s r.slot := by
  simp only [headRecipe, hr]

theorem holdsCan_some {x : Head} {r : CanRecord} (hr : x.record = some r) : x.holdsCan = true := by
  simp only [Head.holdsCan, hr, Option.isSome_some]

/-- Settles O48: the reasons found join the record one after another. -/
theorem crimpIsRead : Obligations.CrimpIsRead := by
  refine ⟨fun h s r hr hc => ?_, fun r k => ⟨fun hk => if_pos hk, fun hk hl => ?_, fun hk hl => ?_⟩⟩
  · intro rcp d m found read
    have hstation : stationPhase h .crimpRead s =
        (found.foldl (fun s k => addReason h k s) (modRecord h (fun r =>
          { r with depth := some d, diameter := if d < noCupDepth rcp then some m else r.diameter }) s)).modHead h
            fun x => { x with collet := false, cycle := .crimped } := by
      refine (if_pos ⟨holdsCan_some hr, hc⟩).trans ?_
      rw [headRecipe_some hr]
      rfl
    rw [hstation, foldl_addReason_settled _ _ _ (by simp only [modRecord, State.modHead_self, hc]; decide), modRecord, State.modHead_modHead,
      State.modHead_modHead]
    simp only [State.modHead, hr, Option.map_some, read]
  · exact (if_neg hk).trans (if_pos hl)
  · exact (if_neg hk).trans (if_neg (Nat.not_lt.mpr hl))

end Sys2Proof.Machine
end

section
/-! PROOF. The dose arithmetic (spec/06 R110 to R119), and the agents and station phases of one position (spec/01 R14, spec/02
R33, R41, spec/04 R81, R83). -/

namespace Sys2Proof.Machine

/-! ## Dose arithmetic -/

theorem tablePoint_top (t : GasTable) : tablePoint t 16 = (t.points[16] : Int) := tablePoint_eq t 16 (by decide)

theorem density_le_top (t : GasTable) (ht : GasTableSafe t) (p : Nat) : density t p ≤ tablePoint t 16 :=
  (density_mono t ht p (max p 4000) (Nat.le_max_left p 4000)).trans (density_top t _ (Nat.le_max_right p 4000)).le

/-- A shot of a positive mass asks for no negative density drop. -/
theorem densityDrop_nonneg {mass temp : Int} {v : Nat} (hv : 0 < v) (ht : -2732 < temp) (hm : 0 < mass) :
    0 ≤ densityDrop mass temp v := by
  have hmass : 0 ≤ mass * (2732 + temp) * 1000 := Int.mul_nonneg (Int.mul_nonneg hm.le (by omega)) (by omega)
  exact Int.ediv_nonneg (by omega) (by omega)

/-- A density between two neighbouring points, as a natural number (spec/06 R110). -/
theorem density_between (t : GasTable) (ht : GasTableSafe t) (i : Fin 16) (k : Nat) (hk : k < 250) :
    density t (250 * i.val + k) =
      ((t.points[i.val]'(by omega) + (t.points[i.val + 1]'(by omega) - t.points[i.val]'(by omega)) * k / 250 : Nat) : Int) := by
  have hrise := ht.2 i
  rw [density_segment t ht i.val k i.isLt hk, tablePoint_eq t i.val (by omega), tablePoint_eq t (i.val + 1) (by omega)]
  push_cast [Nat.cast_sub hrise.le]
  rfl

/-- Settles O52: the density, its order, the cut-off, the delivered mass and the allowance, each from its own lemma. -/
theorem doseArithmetic : Obligations.DoseArithmetic := by
  refine ⟨fun t i k ht hk => ⟨density_between t ht i k hk, fun p hp => ?_⟩, fun t p q ht h => density_mono t ht p q h,
    fun t floor p v mass temp ht hv htemp hm => ?cutoff, fun start stop temp v => ⟨fun h => ?_, rfl, fun h ht => ?_⟩,
    fun a e => Int.toNat_of_nonneg (Int.le_max_left _ _)⟩
  case cutoff =>
    intro drop cut
    have hdrop : 0 ≤ drop := densityDrop_nonneg hv htemp hm
    have hle := density_le_top t ht p
    exact ⟨fun h => if_pos h, fun h => cutoffOf_spec t ht floor _ h (show density t p - drop ≤ _ by omega)⟩
  · rw [density_top t p hp, tablePoint_top]
  · exact if_pos (by simpa using h)
  · refine (congrArg Nat.cast (if_neg (by simpa using h))).trans (Int.toNat_of_nonneg ?_)
    have hmass : 0 ≤ (v : Int) * (start - stop) * 2932 :=
      Int.mul_nonneg (Int.mul_nonneg (by omega) (by omega)) (by omega)
    exact Int.ediv_nonneg (by omega) (by omega)

/-! ## The agents of a position -/

theorem nodup_eraseDups {α : Type} [DecidableEq α] (l : List α) : l.eraseDups.Nodup := by
  induction hn : l.length using Nat.strong_induction_on generalizing l with
  | _ n ih =>
    cases l with
    | nil => simp
    | cons a l =>
      rw [List.eraseDups_cons, List.nodup_cons, List.mem_eraseDups]
      refine ⟨by simp, ih _ ?_ _ rfl⟩
      rw [← hn]
      exact Nat.lt_succ_of_le (List.length_filter_le _ l)

theorem eraseDups_of_nodup {α : Type} [DecidableEq α] (l : List α) (h : l.Nodup) : l.eraseDups = l := by
  induction l with
  | nil => rfl
  | cons a l ih =>
    obtain ⟨ha, hl⟩ := List.nodup_cons.mp h
    have hall : l.filter (fun b => !b == a) = l := by
      refine List.filter_eq_self.mpr fun b hb => ?_
      have hne : b ≠ a := fun e => ha (e ▸ hb)
      simp [hne]
    rw [List.eraseDups_cons, hall, ih hl]

theorem mem_takersInOrder (order : List Taker) (t : Taker) : t ∈ takersInOrder order := by
  rw [takersInOrder, List.mem_eraseDups]
  refine List.mem_append_right _ ?_
  cases t <;> simp [allTakers, allHeads]

theorem count_takersInOrder (order : List Taker) (t : Taker) : (takersInOrder order).count t = 1 :=
  List.count_eq_one_of_mem (nodup_eraseDups _) (mem_takersInOrder order t)

theorem take_takersInOrder (order : List Taker) (h : order.Nodup) : (takersInOrder order).take order.length = order := by
  rw [takersInOrder, List.eraseDups_append, eraseDups_of_nodup order h, List.take_left]

/-! ## The station a head meets -/

theorem mem_stationsAt (c : MachineConfig) (h : Fin 16) (pos : Nat) (st : Station) :
    st ∈ stationsAt c h pos ↔ stationPosition c h st = pos := by
  simp [stationsAt, mem_stations]

theorem stationsAt_none (c : MachineConfig) (h : Fin 16) (pos : Nat) (hn : ∀ st, stationPosition c h st ≠ pos) :
    stationsAt c h pos = [] :=
  List.eq_nil_iff_forall_not_mem.mpr fun st hst => hn st ((mem_stationsAt c h pos st).mp hst)

/-- At most one station of a head falls at a position (spec/01 R14). -/
theorem stationsAt_one (c : MachineConfig) (hc : ConfigSafe c) (h : Fin 16) (pos : Nat) (st : Station)
    (hst : stationPosition c h st = pos) : stationsAt c h pos = [st] := by
  refine List.perm_singleton.mp ((List.perm_ext_iff_of_nodup (stations_nodup.filter _) (List.nodup_singleton st)).mpr ?_)
  intro a
  rw [← stationsAt, mem_stationsAt, List.mem_singleton]
  refine ⟨fun ha => stationPosition_inj c hc h a st (ha.trans hst.symm), ?_⟩
  rintro rfl
  exact hst

/-! ## Station phases -/

theorem holdsCan_iff {x : Head} : x.holdsCan = true ↔ x.record ≠ none := by
  rw [Head.holdsCan, Option.isSome_iff_ne_none]

theorem vents_iff (x : Service) : x.vents = true ↔ x = .enabled ∨ x = .disabling ∨ x = .zeroing := by
  cases x <;> decide

/-- Entry to OUT_OF_SERVICE of a head whose can is not WAITING (spec/02 R27). -/
theorem enterOutOfService_settled (h : Fin 16) (cause : HeadCause) (s : State) (hc : s.heads[h].cycle ≠ .waiting) :
    enterOutOfService h cause s = headReport h cause (setCondition .headOutOfService
      ((withdraw h s).modHead h fun x => { x with
        service := .outOfService, returnState := none, record := x.record.map fun r => r.withReason .headFault })) := by
  rw [enterOutOfService, addReason_settled _ _ _ (show (withdraw h s).heads[h].cycle ≠ .waiting from hc),
    State.modHead_modHead]

theorem withdraw_modHead (h g : Fin 16) (f : Head → Head) (s : State) :
    withdraw h (s.modHead g f) = (withdraw h s).modHead g f := rfl

/-- A bad zero sample below the third in succession is counted (spec/04 R81). -/
theorem badZero_counted {h : Fin 16} {s : State} (hz : s.heads[h].zeroCount < 2) :
    badZero h s = s.modHead h fun x => { x with ventValve := false, zeroCount := s.heads[h].zeroCount + 1 } := by
  have hn : min faultLimit (s.heads[h].zeroCount + 1) = s.heads[h].zeroCount + 1 :=
    Nat.min_eq_right (show s.heads[h].zeroCount + 1 ≤ 3 by omega)
  simp only [badZero, hn]
  exact if_neg (show ¬s.heads[h].zeroCount + 1 = 3 by omega)

/-- The third bad zero sample in succession takes the head out of service (spec/04 R81). -/
theorem badZero_out {h : Fin 16} {s : State} (hz : 2 ≤ s.heads[h].zeroCount) :
    badZero h s = enterOutOfService h .zeroLimit (s.modHead h fun x => { x with ventValve := false, zeroCount := 3 }) := by
  have hn : min faultLimit (s.heads[h].zeroCount + 1) = 3 :=
    Nat.min_eq_left (show 3 ≤ s.heads[h].zeroCount + 1 by omega)
  simp only [badZero, hn]
  exact if_pos rfl

/-- Settles O46. -/
theorem stationsMeetTheirHeads : Obligations.StationsMeetTheirHeads := by
  refine ⟨fun c h f => ?station, fun order => ⟨fun h => count_takersInOrder order _, count_takersInOrder order _,
    take_takersInOrder order⟩, fun pos h s hc => ⟨rfl, fun st hst => ?_, fun hn => ?_⟩, fun h s => ?phases⟩
  case station => fin_cases f <;> rfl
  · show (stationsAt s.config h pos).foldl _ s = _
    rw [stationsAt_one s.config hc h pos st hst]
    rfl
  · show (stationsAt s.config h pos).foldl _ s = _
    rw [stationsAt_none s.config h pos hn]
    rfl
  case phases =>
    intro x put at_ vents diff good
    have hvents : vents ↔ x.service.vents = true := (vents_iff x.service).symm
    have hzero (he : x.cycle = .empty) (hv : vents) :
        at_ .zero = if good then goodZero h diff s else badZero h s := if_pos ⟨he, hvents.mp hv⟩
    refine ⟨fun hr hc => ⟨?_, ?_⟩, fun hn => ?_, fun he hv => ?_, fun hn => ?_, fun he hv hg => ?_, fun he hv hg hz => ?_,
      fun he hv hg hz => ?_⟩
    · exact if_pos ⟨holdsCan_iff.mpr hr, hc⟩
    · exact if_pos ⟨holdsCan_iff.mpr hr, hc⟩
    · have hno : ¬(x.holdsCan = true ∧ x.cycle = .seated) := fun ⟨hr, hc⟩ => hn.elim (holdsCan_iff.mp hr) (· hc)
      exact ⟨if_neg hno, if_neg hno, if_neg hno⟩
    · exact if_pos ⟨he, hvents.mp hv⟩
    · have hno : ¬(x.cycle = .empty ∧ x.service.vents = true) := fun ⟨he, hv⟩ => hn.elim (· he) (· (hvents.mpr hv))
      exact ⟨if_neg hno, if_neg hno⟩
    · intro y
      rw [hzero he hv, if_pos hg]
      simp only [goodZero, State.modHead_modHead]
      rfl
    · exact (hzero he hv).trans ((if_neg hg).trans (badZero_counted hz))
    · have hc : (s.modHead h fun y => { y with ventValve := false, zeroCount := 3 }).heads[h].cycle ≠ .waiting := by
        rw [State.modHead_self]
        exact fun e => Cycle.noConfusion (he.symm.trans e)
      rw [hzero he hv, if_neg hg, badZero_out hz, enterOutOfService_settled _ _ _ hc, withdraw_modHead,
        State.modHead_modHead]
      rfl

end Sys2Proof.Machine
end

section
/-! PROOF. Readings of the cylinders, the arbiter's offers, and the flow-detect and dwell timers (spec/05 R87 to R101, spec/07
R124 to R134). -/

namespace Sys2Proof.Machine

/-! ## Writes of one head or cylinder -/

theorem State.modHead_modCyl (s : State) (h : Fin 16) (c : Fin 4) (f : Head → Head) (g : Cylinder → Cylinder) :
    (s.modHead h f).modCyl c g = (s.modCyl c g).modHead h f := rfl

/-- An update of a head that has just been written. -/
theorem State.modHead_of_set {t : State} {v : Vector Head 16} {h : Fin 16} {x : Head} (ht : t.heads = v.set h x)
    (f : Head → Head) : t.modHead h f = { t with heads := v.set h (f x) } := by
  simp only [State.modHead, ht]
  simp

theorem withdraw_absent {h : Fin 16} {s : State} (hn : h ∉ s.grantQueue) : withdraw h s = s := by
  have hq : s.grantQueue.filter (· ≠ h) = s.grantQueue := by
    refine List.filter_eq_self.mpr fun g hg => ?_
    have hne : g ≠ h := fun e => hn (e ▸ hg)
    simp [hne]
  simp only [withdraw, State.modGrants, hq]

/-- The oldest request leaves a queue that names no head twice. -/
theorem withdraw_front {h : Fin 16} {rest : List (Fin 16)} {s : State} (hq : s.grantQueue = h :: rest)
    (hn : s.grantQueue.Nodup) : withdraw h s = { s with grantQueue := rest } := by
  rw [hq] at hn
  obtain ⟨hh, -⟩ := List.nodup_cons.mp hn
  have hrest : (h :: rest).filter (· ≠ h) = rest := by
    rw [List.filter_cons_of_neg (by simp)]
    refine List.filter_eq_self.mpr fun g hg => ?_
    have hne : g ≠ h := fun e => hh (e ▸ hg)
    simp [hne]
  simp only [withdraw, State.modGrants, hq, hrest]

/-! ## The end of a discharge, the dose judged, and an offer -/

theorem endDischarge_owned {c : Fin 4} {h : Fin 16} {s : State} (k : EndCause) (hs : s.cylinders[c].state = .discharging)
    (ho : s.cylinders[c].owner = some h) :
    endDischarge c k s = (s.modCyl c (Cylinder.discharged s.config k)).modHead h (Head.discharged c) := by
  unfold endDischarge
  rw [if_pos hs, ho]
  rfl

/-- A record once its dose has been judged against a target (spec/07 R131): a marked one stands. -/
def CanRecord.judged (rcp : Recipe) (t : Nat) (r : CanRecord) : CanRecord :=
  if r.reasons = [] ∧ (r.total : Int) < (t : Int) - (toleranceLow rcp : Int) then r.withReason .doseLow
  else if r.reasons = [] ∧ (t : Int) + (toleranceHigh rcp : Int) < (r.total : Int) then r.withReason .doseHigh
  else r

theorem marked_iff (r : CanRecord) : r.marked = true ↔ r.reasons ≠ [] := by
  simp [CanRecord.marked]

theorem judgeDose_settled {h : Fin 16} {s : State} {r : CanRecord} {t : Nat} (hr : s.heads[h].record = some r)
    (ht : r.target = some t) (hc : s.heads[h].cycle ≠ .waiting) :
    judgeDose h s = s.modHead h fun x => { x with record := some (r.judged (slotRecipe s r.slot) t) } := by
  have hkeep : s = s.modHead h fun x => { x with record := some r } :=
    (State.modHead_id s h _ (by rw [← hr])).symm
  have hadd (k : Reason) : addReason h k s = s.modHead h fun x => { x with record := some (r.withReason k) } := by
    rw [addReason_settled _ _ _ hc]
    simp only [State.modHead, hr, Option.map_some]
  unfold judgeDose CanRecord.judged
  rw [hr]
  simp only [ht, marked_iff, hadd]
  by_cases hm : r.reasons = []
  · simp only [hm, ne_eq, not_true_eq_false, if_false, true_and]
    split
    · rfl
    · split
      · rfl
      · exact hkeep
  · simp only [ne_eq, hm, not_false_eq_true, if_true, false_and, if_false]
    exact hkeep

/-- The arbiter makes an offer while the queue holds a request and a cylinder is READY (spec/05 R101). -/
theorem arbitrate_offer {h : Fin 16} {rest : List (Fin 16)} {c : Fin 4} {s t : State} (hq : s.grantQueue = h :: rest)
    (hc : lowestReady s = some c) (ho : offer h c s = t) (ht : t.grantQueue = rest) : arbitrate s = arbitrate t := by
  rw [arbitrate, arbitrate, hq, ht, List.length_cons, offers, hq, hc, ← ho]

theorem arbitrate_idle {s : State} (h : s.grantQueue = [] ∨ ∀ c : Fin 4, s.cylinders[c].state ≠ .ready) :
    arbitrate s = s := by
  unfold arbitrate
  rcases h with h | h
  · rw [h]; rfl
  · cases hl : s.grantQueue.length with
    | zero => rfl
    | succ n =>
      rw [offers, lowestReady_none s h]
      cases s.grantQueue <;> rfl

/-- Settles O51: one offer, then the arbiter looks again. -/
theorem offersFollowTheQueue : Obligations.OffersFollowTheQueue := by
  refine ⟨fun s h => arbitrate_idle h, fun h rest c r t s hq hn hc hlow hr ht => ?_⟩
  intro x y target mass temp cut shot put refused
  have hready := lowestReady_some s c hc hlow
  have hoffer : offer h c s = if (minimumShot s.config : Int) ≤ mass then grant h c r.slot target s
      else judgeDose h ((withdraw h s).modHead h fun x => { x with cycle := .charged, pendingResult := none }) := by
    unfold offer
    rw [hr]
    simp only [ht]
    rfl
  refine ⟨fun hm => arbitrate_offer hq hready ?_ rfl, fun hm => arbitrate_offer hq hready ?_ rfl⟩
  · rw [hoffer, if_pos hm, grant, withdraw_front hq hn]
    rfl
  · have hrec : ((withdraw h s).modHead h fun x => { x with cycle := .charged, pendingResult := none }).heads[h].record =
        some r := by
      rw [State.modHead_self]; exact hr
    have hcyc : ((withdraw h s).modHead h fun x => { x with cycle := .charged, pendingResult := none }).heads[h].cycle ≠
        .waiting := by
      rw [State.modHead_self]; exact Cycle.noConfusion
    rw [hoffer, if_neg (by omega), judgeDose_settled hrec ht hcyc, State.modHead_modHead, withdraw_front hq hn]
    rfl

/-! ## Readings of a cylinder -/

/-- The state once a cylinder's reading has been taken (spec/05 R87). -/
def State.cylShown (c : Fin 4) (raw : Int) (s : State) : State :=
  s.modCyl c fun x => { x with pressure := clampReading 4000 raw, overRange := decide (4000 < raw) }

theorem refillEnd_ready {c : Fin 4} {s : State} (hd : s.cylinders[c].disablePending = false) :
    refillEnd c s = arbitrate (if 0 < s.cylinders[c].failures then
      cylinderReport c .refillRecovered (s.modCyl c fun x => ({ x with failures := 0 } : Cylinder).enter .ready)
      else s.modCyl c fun x => ({ x with failures := 0 } : Cylinder).enter .ready) := by
  have hready : readyOrDisabled c (s.modCyl c fun x => { x with failures := 0 }) =
      s.modCyl c fun x => ({ x with failures := 0 } : Cylinder).enter .ready := by
    have hp : (s.modCyl c fun x => { x with failures := 0 }).cylinders[c].disablePending = false := by
      rw [State.modCyl_self]; exact hd
    rw [readyOrDisabled, hp, if_neg Bool.false_ne_true, State.modCyl_modCyl]
  rw [refillEnd, hready]

section
variable {c : Fin 4} {raw : Int} {s : State} {y : Cylinder} (hy : (s.cylShown c raw).cylinders[c] = y)
include hy

theorem cylinderReading_still (hs : y.state = .idle ∨ y.state = .measuring ∨ y.state = .fault ∨ y.state = .disabled ∨
    y.state = .outOfService) : exec (.cylinderPressureReading c raw) s = .next (s.cylShown c raw) := by
  show execCylinderPressureReading c raw s = _
  rw [State.cylShown] at hy
  rcases hs with hs | hs | hs | hs | hs <;> simp only [execCylinderPressureReading, hy, hs] <;> rfl

theorem cylinderReading_refilling (hs : y.state = .refilling) : exec (.cylinderPressureReading c raw) s =
    .next ((activeFillPressure s).elim (s.cylShown c raw) fun p1 =>
      if p1 ≤ y.pressure then refillEnd c (s.cylShown c raw) else s.cylShown c raw) := by
  have hp : activeFillPressure (s.cylShown c raw) = activeFillPressure s := rfl
  show execCylinderPressureReading c raw s = _
  rw [State.cylShown] at hy hp
  simp only [execCylinderPressureReading, hy, hs, hp]
  cases activeFillPressure s <;> rfl

theorem cylinderReading_ready (hs : y.state = .ready) :
    exec (.cylinderPressureReading c raw) s = .next (topUp c (s.cylShown c raw)) := by
  show execCylinderPressureReading c raw s = _
  rw [State.cylShown] at hy
  simp only [execCylinderPressureReading, hy, hs]
  rfl

theorem cylinderReading_discharging {h : Fin 16} {z : Shot} (hs : y.state = .discharging) (ho : y.owner = some h)
    (hz : y.shot = some z) :
    exec (.cylinderPressureReading c raw) s = .next (dischargeReading c h z (s.cylShown c raw)) := by
  show execCylinderPressureReading c raw s = _
  rw [State.cylShown] at hy
  simp only [execCylinderPressureReading, hy, hs, ho, hz]
  rfl

end

/-- The head of a discharge once a reading of `p` has shown flow, or has not (spec/07 R125). -/
def Head.flowTested (cfg : MachineConfig) (z : Shot) (p : Nat) (x : Head) : Head :=
  if x.flowDetected = false ∧ (p : Int) ≤ (z.startP : Int) - (flowThreshold cfg : Int) then
    { x with flowDetected := true, flowTimer := .stopped, noFlowCount := 0 }
  else x

/-- The three tests of a reading against the shot of a DISCHARGING cylinder (spec/07 R125, R127). -/
theorem dischargeReading_eq {c : Fin 4} {h : Fin 16} {z : Shot} {s : State} {p : Nat}
    (hs : s.cylinders[c].state = .discharging) (ho : s.cylinders[c].owner = some h) (hp : s.cylinders[c].pressure = p) :
    dischargeReading c h z s =
      if z.startP + backflowThreshold s.config < p then
        (s.modCyl c (Cylinder.discharged s.config .backflow)).modHead h fun x =>
          { Head.discharged c (x.flowTested s.config z p) with
            record := (x.flowTested s.config z p).record.map fun r => r.withReason .backflow }
      else if p ≤ z.cutoff then
        (s.modCyl c (Cylinder.discharged s.config .cutoff)).modHead h fun x =>
          Head.discharged c (x.flowTested s.config z p)
      else s.modHead h fun x => x.flowTested s.config z p := by
  have hflow : (if s.heads[h].flowDetected = false ∧ (p : Int) ≤ (z.startP : Int) - (flowThreshold s.config : Int) then
      s.modHead h fun y => { y with flowDetected := true, flowTimer := .stopped, noFlowCount := 0 } else s) =
      s.modHead h fun x => x.flowTested s.config z p := by
    split
    · next hf => simp only [State.modHead, Head.flowTested, if_pos hf]
    · next hf =>
      refine (State.modHead_id s h _ ?_).symm
      simp only [Head.flowTested, if_neg hf]
  have hend (k : EndCause) : endDischarge c k (s.modHead h fun x => x.flowTested s.config z p) =
      (s.modCyl c (Cylinder.discharged s.config k)).modHead h fun x => Head.discharged c (x.flowTested s.config z p) := by
    rw [endDischarge_owned (s := s.modHead h fun x => x.flowTested s.config z p) k hs ho, State.modHead_modCyl,
      State.modHead_modHead]
    rfl
  have hcyc : ((s.modCyl c (Cylinder.discharged s.config .backflow)).modHead h
      fun x => Head.discharged c (x.flowTested s.config z p)).heads[h].cycle ≠ .waiting := by
    rw [State.modHead_self]
    exact Cycle.noConfusion
  simp only [dischargeReading, hp, hflow, hend]
  rw [addReason_settled _ _ _ hcyc, State.modHead_modHead]
  simp only [Int.ofNat_le, ← Int.natCast_add, Int.ofNat_lt]
  rfl

/-- Settles O53: the reading shown, then the test of the cylinder's state. -/
theorem cylinderReadingsAreTaken : Obligations.CylinderReadingsAreTaken := by
  intro c raw s p y put still taken
  have hy : (s.cylShown c raw).cylinders[c] = y := State.modCyl_self s c _
  have hput : s.cylShown c raw = put y := rfl
  refine ⟨fun hs => cylinderReading_still hy hs, fun hs hslot => ?_, fun i hs hslot => ?_, fun i hs hslot => ?_,
    fun h z hs ho hz => ?_⟩
  · rcases hs with hs | hs
    · refine (cylinderReading_refilling hy hs).trans ?_
      rw [activeFillPressure_none s hslot]
      rfl
    · refine (cylinderReading_ready hy hs).trans ?_
      unfold topUp
      rw [activeFillPressure_none (s.cylShown c raw) hslot]
      rfl
  · intro p1
    have htaken : taken = .next (if p1 ≤ p then refillEnd c (s.cylShown c raw) else s.cylShown c raw) := by
      refine (cylinderReading_refilling hy hs).trans ?_
      rw [activeFillPressure_some s i hslot]
      rfl
    rw [htaken]
    refine ⟨fun hp => ?_, fun hp hd hf => ?_, fun hp hd hf => ?_⟩
    · rw [if_neg (by omega), hput]
    · rw [if_pos hp, refillEnd_ready (by rw [hy]; exact hd), hy, if_neg (by omega), State.cylShown, State.modCyl_modCyl]
      show Host.Outcome.next (arbitrate (put { still .ready with failures := 0 })) =
        .next (arbitrate (put { still .ready with failures := y.failures }))
      rw [hf]
    · rw [if_pos hp, refillEnd_ready (by rw [hy]; exact hd), hy, if_pos hf, State.cylShown, State.modCyl_modCyl]
      rfl
  · intro low
    have hslot' : activeSlot (s.cylShown c raw) = some i := hslot
    have htaken : taken = .next (topUp c (s.cylShown c raw)) := cylinderReading_ready hy hs
    have hcond : refillCondition (s.cylShown c raw) = (s.gas.standby == .active) := by
      rw [refillCondition, hslot']; rfl
    rw [htaken, topUp_eq _ c _ (activeFillPressure_some _ i hslot'), hcond, hy]
    refine ⟨fun ⟨hstand, hl⟩ => ?_, fun hn => ?_⟩
    · rw [if_pos ⟨hs, by rw [hstand]; rfl, hl⟩, enterRefilling, State.cylShown, State.modCyl_modCyl]
      rfl
    · rw [if_neg, hput]
      rintro ⟨-, hstand, hl⟩
      exact hn.elim (· (by simpa using hstand)) (· hl)
  · intro x ended
    have hs' : (s.cylShown c raw).cylinders[c].state = .discharging := by rw [hy]; exact hs
    have ho' : (s.cylShown c raw).cylinders[c].owner = some h := by rw [hy]; exact ho
    have hp' : (s.cylShown c raw).cylinders[c].pressure = p := by rw [hy]
    have htaken : taken = .next (dischargeReading c h z (s.cylShown c raw)) := cylinderReading_discharging hy hs ho hz
    have hx : s.heads[h].flowTested s.config z p = x := rfl
    have hcyl (k : EndCause) : (s.cylShown c raw).modCyl c (Cylinder.discharged s.config k) =
        put { still .measuring with
          settleTimer := .running (settleTime s.config)
          shot := some { z with cause := some k, aborted := k.aborts, backflow := decide (k = .backflow) } } := by
      rw [State.cylShown, State.modCyl_modCyl]
      refine congrArg put (?_ : Cylinder.discharged s.config k y = _)
      simp only [Cylinder.discharged, hz]
      rfl
    have hcfg : (s.cylShown c raw).config = s.config := rfl
    rw [htaken, dischargeReading_eq hs' ho' hp', hcfg]
    refine ⟨fun hb => ?_, fun hb hcut => ?_, fun hb hcut => ?_⟩
    · rw [if_pos hb]
      exact congrArg (fun t : State => Host.Outcome.next (t.modHead h _)) (hcyl .backflow)
    · rw [if_neg (Nat.not_lt.mpr hb), if_pos hcut]
      exact congrArg (fun t : State => Host.Outcome.next (t.modHead h _)) (hcyl .cutoff)
    · rw [if_neg (Nat.not_lt.mpr hb), if_neg (Nat.not_le.mpr hcut), hput]
      rfl

end Sys2Proof.Machine
end

section
/-! PROOF. The flow-detect, dwell and settle timers (spec/05 R96, spec/07 R126, R129 to R134). -/

namespace Sys2Proof.Machine

/-! ## A no-flow attempt -/

/-- A head's side of a no-flow attempt as it stands before the counter decides (spec/07 R126). -/
def Head.noFlow (c : Fin 4) (x : Head) : Head :=
  { x with inlets := x.inlets.set c false, paired := none, flowTimer := .stopped
           noFlowCount := min faultLimit (x.noFlowCount + 1) }

/-- The cylinder's side of a no-flow attempt (spec/07 R126, log 29). -/
def State.flowFreed (h : Fin 16) (c : Fin 4) (s : State) : State :=
  readyOrDisabled c ((s.modHead h (Head.noFlow c)).modCyl c fun x => { x with owner := none, shot := none })

theorem flowFreed_heads (h : Fin 16) (c : Fin 4) (s : State) :
    (s.flowFreed h c).heads = s.heads.set h (s.heads[h].noFlow c) := by
  simp [State.flowFreed]

theorem flowFreed_grantQueue (h : Fin 16) (c : Fin 4) (s : State) : (s.flowFreed h c).grantQueue = s.grantQueue := by
  simp [State.flowFreed]

theorem joinQueue_absent {h : Fin 16} {s : State} (hn : h ∉ s.grantQueue) :
    joinQueue h s = { s.modHead h fun x => { x with cycle := .waiting } with grantQueue := s.grantQueue ++ [h] } := by
  simp only [joinQueue, State.modGrants, if_neg hn]
  rfl

/-- What the head does on a counter below the third attempt (spec/07 R126). -/
theorem afterNoFlow_again {h : Fin 16} {s : State} (hc : s.heads[h].noFlowCount < 3) :
    afterNoFlow h s = if s.heads[h].marked then
      s.modHead h fun x => { x with cycle := .charged, pendingResult := none } else joinQueue h s := if_pos hc

/-- The third attempt in succession takes the head out of service (spec/07 R126). -/
theorem afterNoFlow_out {h : Fin 16} {s : State} (hc : 3 ≤ s.heads[h].noFlowCount) (hq : h ∉ s.grantQueue) :
    afterNoFlow h s = headReport h .noFlowLimit (setCondition .headOutOfService (s.modHead h fun x => { x with
      cycle := .charged, pendingResult := none, service := .outOfService, returnState := none
      record := x.record.map fun r => (r.withReason .noFlow).withReason .headFault })) := by
  have hcharged : (s.modHead h fun x => { x with cycle := .charged, pendingResult := none }).heads[h].cycle ≠ .waiting := by
    rw [State.modHead_self]; exact Cycle.noConfusion
  have hmarked : (s.modHead h fun x => { x with
      cycle := .charged, pendingResult := none, record := x.record.map fun r => r.withReason .noFlow }).heads[h].cycle ≠
      .waiting := by
    rw [State.modHead_self]; exact Cycle.noConfusion
  refine (if_neg (Nat.not_lt.mpr hc)).trans ?_
  rw [addReason_settled _ _ _ hcharged, State.modHead_modHead, enterOutOfService_settled _ _ _ hmarked, withdraw_modHead,
    withdraw_absent hq, State.modHead_modHead]
  simp only [Option.map_map, Function.comp_def]

theorem marked_some {x : Head} {r : CanRecord} (hr : x.record = some r) : x.marked = true ↔ r.reasons ≠ [] := by
  simp only [Head.marked, hr, Option.map_some, Option.getD_some, marked_iff]

/-! ## The dwell test -/

/-- The result of a dwell test of a can whose head is not WAITING (spec/07 R134). -/
theorem dwellResult_settled {h : Fin 16} {first second : Nat} {s : State} {r : CanRecord} (hr : s.heads[h].record = some r)
    (hc : s.heads[h].cycle ≠ .waiting) :
    dwellResult h first second s = s.modHead h fun x => { x with record := some (
      if (dwellDecayLimit (slotRecipe s r.slot) : Int) < (first : Int) - (second : Int) then
        ({ r with dwellDecay := some ((first : Int) - (second : Int)) } : CanRecord).withReason .settleLeak
      else { r with dwellDecay := some ((first : Int) - (second : Int)) }) } := by
  have hread : modRecord h (fun r => { r with dwellDecay := some ((first : Int) - (second : Int)) }) s =
      s.modHead h fun x => { x with record := some { r with dwellDecay := some ((first : Int) - (second : Int)) } } := by
    simp only [modRecord, State.modHead, hr, Option.map_some]
  have hc' : (s.modHead h fun x => { x with
      record := some { r with dwellDecay := some ((first : Int) - (second : Int)) } }).heads[h].cycle ≠ .waiting := by
    rw [State.modHead_self]; exact hc
  simp only [dwellResult, hread, headRecipe_some hr, addReason_settled _ _ _ hc', State.modHead_modHead, Option.map_some]
  split <;> rfl

theorem flowDetectTimerExpiry_running {h : Fin 16} {c : Fin 4} {s : State} (hp : s.heads[h].paired = some c)
    (hrun : s.heads[h].flowTimer.isRunning = true ∧ s.heads[h].cycle = .charging ∧ s.heads[h].flowDetected = false ∧
      s.cylinders[c].state = .discharging) :
    exec (.flowDetectTimerExpiry h) s = .next (arbitrate (afterNoFlow h (s.flowFreed h c))) := by
  show execFlowDetectTimerExpiry h s = _
  simp only [execFlowDetectTimerExpiry, hp]
  rw [if_pos hrun]
  rfl

theorem flowDetectTimerExpiry_stopped {h : Fin 16} {s : State} (ht : s.heads[h].flowTimer = .stopped) :
    exec (.flowDetectTimerExpiry h) s = .next s := by
  show execFlowDetectTimerExpiry h s = _
  unfold execFlowDetectTimerExpiry
  cases s.heads[h].paired with
  | none => rfl
  | some c => exact congrArg _ (if_neg fun ⟨hrun, _⟩ => isRunning_eq_false (.inl ht) hrun)

/-- The pressure a head's transducer shows, corrected by its offset (spec/04 R70). -/
theorem headPressure_shown (h : Fin 16) (raw : Int) (s : State) :
    headPressure (s.showPressure h raw) h =
      min 2000 (((min 2000 raw.toNat : Nat) : Int) - s.heads[h].zeroOffset).toNat := by
  have hraw : (s.showPressure h raw).sensors.heads[h].pressure = raw := by simp [State.showPressure]
  rw [headPressure, hraw]
  rfl

/-- Settles O56: a no-flow attempt on both sides, then by the counter; and the dwell test. -/
theorem flowAndDwellTimersExpire : Obligations.FlowAndDwellTimersExpire := by
  refine ⟨fun h c n r s hr hc hp ht hf hd hq => ?flow, fun h s ht => flowDetectTimerExpiry_stopped ht,
    fun h raw s => ?dwell⟩
  case flow =>
    intro y x still put freed after expired
    have hfreed : s.flowFreed h c = freed := by
      unfold State.flowFreed readyOrDisabled completeDisable
      rw [State.modCyl_self, State.modCyl_modCyl, State.modCyl_modCyl]
      rfl
    have hheads : freed.heads = s.heads.set h x := by rw [← hfreed]; exact flowFreed_heads h c s
    have hqueue : freed.grantQueue = s.grantQueue := by rw [← hfreed]; exact flowFreed_grantQueue h c s
    have hself : freed.heads[h] = x := by simp only [hheads, Fin.getElem_fin, Vector.getElem_set_self]
    have hput (f : Head → Head) : freed.modHead h f = after (f x) := State.modHead_of_set hheads f
    have hmarked : x.marked = true ↔ r.reasons ≠ [] := marked_some hr
    have hexpired : expired = .next (arbitrate (afterNoFlow h freed)) := by
      rw [← hfreed]
      exact flowDetectTimerExpiry_running hp ⟨by rw [ht]; rfl, hc, hf, hd⟩
    rw [hexpired]
    have hcount : x.noFlowCount = min 3 (s.heads[h].noFlowCount + 1) := rfl
    refine ⟨fun hn hm => ?_, fun hn hm => ?_, fun hn => ?_⟩
    · have hunmarked : ¬freed.heads[h].marked = true := by rw [hself, hmarked, not_not]; exact hm
      rw [afterNoFlow_again (by rw [hself]; omega), if_neg hunmarked, joinQueue_absent (by rw [hqueue]; exact hq), hput,
        hqueue]
    · have hmark : freed.heads[h].marked = true := by rw [hself, hmarked]; exact hm
      rw [afterNoFlow_again (by rw [hself]; omega), if_pos hmark, hput]
    · have hrec : x.record = some r := hr
      rw [afterNoFlow_out (by rw [hself]; omega) (by rw [hqueue]; exact hq), hput, hrec]
      rfl
  case dwell =>
    intro x p shown
    have hrunning {n : Nat} (ht : x.dwellTimer = .running n) (hc : x.cycle = .dwelling) :
        exec (.dwellTimerExpiry h raw) s = .next ((dwellResult h (x.firstDwell.getD 0) p shown).modHead h fun x =>
          { x with dwellTimer := .stopped, firstDwell := none }) := by
      refine congrArg _ ((if_pos (by rw [show (s.showPressure h raw).heads[h].dwellTimer = _ from ht]; rfl)).trans ?_)
      rw [headPressure_shown h raw s]
      exact congrArg (State.modHead h _) (if_pos hc)
    refine ⟨fun ht => ?_, fun n p1 r ht hc hr hp => ?_⟩
    · exact congrArg _ (if_neg (isRunning_eq_false (.inl ht)))
    · intro decay tested
      have hshown : shown.heads[h] = x := rfl
      have hrec : shown.heads[h].record = some r := hr
      have hcyc : shown.heads[h].cycle ≠ .waiting := fun e => Cycle.noConfusion (hc.symm.trans e)
      have hrcp : slotRecipe shown r.slot = slotRecipe s r.slot := rfl
      rw [hrunning ht hc, hp, Option.getD_some, dwellResult_settled hrec hcyc, hrcp]
      refine ⟨fun hd => ?_, fun hd => ?_⟩
      · rw [if_neg (show ¬_ < (p1 : Int) - (p : Int) from Int.not_lt.mpr hd), State.modHead_modHead]
        rfl
      · rw [if_pos (show _ < (p1 : Int) - (p : Int) from hd), State.modHead_modHead]
        rfl

/-! ## The settle timer -/

/-- The shot in flight of cylinder `y` once its measurement has completed (spec/05 R96). -/
def Shot.measured (table : GasTable) (y : Cylinder) (z : Shot) : Shot :=
  { z with endP := some y.pressure, endOver := y.overRange
           delivered := some (deliveredMass z.backflow z.startDensity (density table y.pressure) z.temperature z.volume) }

def Cylinder.keepLast (shot : Shot) (y : Cylinder) : Cylinder := { y with lastShot := some shot }

def Cylinder.dropShot (y : Cylinder) : Cylinder := { y with owner := none, shot := none }

/-- The cylinder's side of a completed measurement (spec/05 R96 steps 4 to 6). -/
def State.measured (c : Fin 4) (shot : Shot) (t : State) : State :=
  afterMeasuring c
    ((adapt c shot (shot.delivered.getD 0) (t.modCyl c (Cylinder.keepLast shot))).modCyl c Cylinder.dropShot)

theorem settleTimerExpiry_running {c : Fin 4} {h : Fin 16} {z : Shot} {s : State}
    (hrun : s.cylinders[c].state = .measuring ∧ s.cylinders[c].settleTimer.isRunning = true)
    (ho : s.cylinders[c].owner = some h) (hz : s.cylinders[c].shot = some z) :
    exec (.settleTimerExpiry c) s = .next ((credit h c (z.measured s.gasTable s.cylinders[c]) s).measured c
      (z.measured s.gasTable s.cylinders[c])) := by
  refine congrArg _ ((if_pos hrun).trans ?_)
  unfold completeMeasurement
  rw [hz, ho]
  rfl

def State.withAllowances (v : Vector (Vector Nat 4) 2) (s : State) : State := { s with allowances := v }

theorem adapt_eq (c : Fin 4) (x : Shot) (d : Nat) (s : State) : adapt c x d s = s.withAllowances (
    if mayAdaptNow s x d then s.allowances.set x.slot (s.allowances[x.slot].set c
      (adaptedAllowance s.allowances[x.slot][c] ((d : Int) - x.target))) else s.allowances) := by
  unfold adapt
  split <;> rfl

/-- The conditions of an adaptation, one by one (spec/06 R119). -/
theorem mayAdaptNow_iff (s : State) (x : Shot) (d : Nat) : mayAdaptNow s x d = true ↔
    x.short = false ∧ x.aborted = false ∧ x.backflow = false ∧ x.startOver = false ∧ x.endOver = false ∧
      x.mayAdapt = true ∧ (s.slots[x.slot].state = .active ∨ s.slots[x.slot].state = .retiring) ∧
      -(adaptationBand s.config : Int) ≤ (d : Int) - x.target ∧ (d : Int) - x.target ≤ (adaptationBand s.config : Int) := by
  simp only [mayAdaptNow, Shot.overRange, Bool.and_eq_true, Bool.not_eq_true', Bool.or_eq_true, Bool.or_eq_false_iff,
    decide_eq_true_eq, beq_iff_eq, and_assoc]

theorem afterMeasuring_eq (c : Fin 4) (s : State) : afterMeasuring c s =
    if s.cylinders[c].disablePending then
      allOutTest (cylinderReport c .disableComplete (s.modCyl c fun x => { x.enter .disabled with disablePending := false }))
    else if refillCondition s then
      s.modCyl c fun x => { x.enter .refilling with refillTimer := .running (refillTimeout s.config) }
    else s.modCyl c (Cylinder.enter .idle) := rfl

/-- The allowances after a measured shot (spec/06 R119). -/
def State.adapted (c : Fin 4) (shot : Shot) (t : State) : Vector (Vector Nat 4) 2 :=
  if mayAdaptNow t shot (shot.delivered.getD 0) then
    t.allowances.set shot.slot (t.allowances[shot.slot].set c
      (adaptedAllowance t.allowances[shot.slot][c] (((shot.delivered.getD 0 : Nat) : Int) - shot.target)))
  else t.allowances

theorem measured_eq (c : Fin 4) (shot : Shot) (t : State) : t.measured c shot =
    if t.cylinders[c].disablePending then
      allOutTest (cylinderReport c .disableComplete ((t.withAllowances (t.adapted c shot)).modCyl c fun x =>
        { ((x.keepLast shot).dropShot).enter .disabled with disablePending := false }))
    else if refillCondition t then
      (t.withAllowances (t.adapted c shot)).modCyl c fun x =>
        { ((x.keepLast shot).dropShot).enter .refilling with refillTimer := .running (refillTimeout t.config) }
    else (t.withAllowances (t.adapted c shot)).modCyl c fun x => ((x.keepLast shot).dropShot).enter .idle := by
  have hstate : (adapt c shot (shot.delivered.getD 0) (t.modCyl c (Cylinder.keepLast shot))).modCyl c Cylinder.dropShot =
      (t.withAllowances (t.adapted c shot)).modCyl c fun x => (x.keepLast shot).dropShot := by
    rw [adapt_eq]
    exact State.modCyl_modCyl (t.withAllowances (t.adapted c shot)) c _ _
  rw [State.measured, hstate, afterMeasuring_eq, State.modCyl_self, State.modCyl_modCyl, State.modCyl_modCyl,
    State.modCyl_modCyl]
  rfl

/-- A credit to the head whose pending result names the cylinder (spec/07 R129). -/
theorem credit_named {h : Fin 16} {c : Fin 4} {x : Shot} {s : State} {r : CanRecord}
    (hp : s.heads[h].pendingResult = some c) (hr : s.heads[h].record = some r) :
    credit h c x s = afterCredit h x.short (s.modHead h fun y => { y with
      record := some { r with shots := r.shots ++ [shotEntry c x], total := r.total + x.delivered.getD 0 }
      pendingResult := none }) := by
  refine (if_pos hp).trans ?_
  rw [modRecord, State.modHead_modHead]
  simp only [State.modHead, hr, Option.map_some]

section
variable {h : Fin 16} {short : Bool} {s : State} {r : CanRecord} (hr : s.heads[h].record = some r)
include hr

theorem afterCredit_closed (hn : r.reasons ≠ [] ∨ r.target = none) : afterCredit h short s = s := by
  unfold afterCredit
  rw [hr]
  cases ht : r.target with
  | none => simp only [ht]
  | some t =>
    simp only [ht]
    exact if_pos ((marked_iff r).mpr (hn.resolve_right (by rw [ht]; exact Option.some_ne_none t)))

/-- The next step after a credit to an unmarked can with a target dose (spec/07 R130, R131). -/
theorem afterCredit_open {t : Nat} (hm : r.reasons = []) (ht : r.target = some t) : afterCredit h short s =
    if short ∧ r.shots.length < maxShots (slotRecipe s r.slot) ∧ s.heads[h].window = .isOpen ∧
        (minimumShot s.config : Int) ≤ shotTarget r t then
      requestGas h s
    else judgeDose h s := by
  unfold afterCredit
  rw [hr]
  simp only [ht]
  exact if_neg (by rw [marked_iff, hm]; simp)

end

theorem judged_unmarked {r : CanRecord} (rcp : Recipe) (t : Nat) (hm : r.reasons = []) : r.judged rcp t =
    if (r.total : Int) < (t : Int) - (toleranceLow rcp : Int) then r.withReason .doseLow
    else if (t : Int) + (toleranceHigh rcp : Int) < (r.total : Int) then r.withReason .doseHigh else r := by
  simp only [CanRecord.judged, hm, true_and]

theorem refillCondition_congr {s t : State} (hslots : t.slots = s.slots) (hgas : t.gas = s.gas) :
    refillCondition t = refillCondition s := by
  simp only [refillCondition, activeSlot, hslots, hgas]

/-- Settles O55: the credit by the head's pending result, and the cylinder's side after it. -/
theorem measurementCompletes : Obligations.MeasurementCompletes := by
  refine ⟨fun c h z n s hs ht ho hz => ?_, fun c s ht => ?stopped⟩
  case stopped => exact congrArg _ (if_neg fun ⟨_, hrun⟩ => isRunning_eq_false (.inl ht) hrun)
  intro y x done shot e adapts still finish entry expired
  have hexpired : expired = .next ((credit h c shot s).measured c shot) :=
    settleTimerExpiry_running ⟨hs, by rw [ht]; rfl⟩ ho hz
  have hfinish (t : State) (hc : t.cylinders[c] = y) (hslots : t.slots = s.slots) (hconfig : t.config = s.config)
      (hgas : t.gas = s.gas) : t.measured c shot = finish t := by
    have hadapts : mayAdaptNow t shot done = true ↔ adapts := by
      rw [mayAdaptNow_iff, hslots, hconfig]
    have hallow : t.adapted c shot =
        if adapts then t.allowances.set z.slot (t.allowances[z.slot].set c
          (max 0 (min 2000 ((t.allowances[z.slot][c] : Int) + e.tdiv 4))).toNat) else t.allowances := by
      by_cases ha : adapts
      · exact (if_pos (hadapts.mpr ha)).trans (if_pos ha).symm
      · exact (if_neg (mt hadapts.mp ha)).trans (if_neg ha).symm
    rw [measured_eq, hallow, hc, refillCondition_congr hslots hgas, hconfig]
    simp only [State.modCyl, State.withAllowances, hc, finish]
    rfl
  rw [hexpired]
  refine ⟨fun hp => ?_, fun r hp hr => ?_⟩
  · have hcredit : credit h c shot s = s := if_neg hp
    rw [hcredit, hfinish s rfl rfl rfl rfl]
  · intro r' rcp put follows
    have hcredit : credit h c shot s = afterCredit h z.short (put r') := credit_named hp hr
    have hput (w : CanRecord) : put w = s.modHead h fun x => { x with record := some w, pendingResult := none } := rfl
    have hself : (put r').heads[h] = { x with record := some r', pendingResult := none } := by
      rw [hput, State.modHead_self]
    have hrec : (put r').heads[h].record = some r' := by rw [hself]
    have hcyc : (put r').heads[h].cycle = x.cycle := by rw [hself]
    have hwin : (put r').heads[h].window = x.window := by rw [hself]
    have hready : s.cylinders[c].state ≠ .ready := by rw [hs]; exact CylState.noConfusion
    refine ⟨fun hn => ?_, fun t hm ht hf hq => ?_, fun t hm ht hf hw => ?_⟩
    · have hclosed : afterCredit h z.short (put r') = put r' := afterCredit_closed hrec hn
      rw [hcredit, hclosed, hfinish (put r') rfl rfl rfl rfl]
    · have hopen := (afterCredit_open (short := z.short) hrec hm ht).trans (if_pos (by rw [hwin]; exact hf))
      have hq' : h ∉ (put r').grantQueue := hq
      rw [hcredit, hopen, requestGas, joinQueue_absent hq', hput, State.modHead_modHead]
      exact congrArg _ (hfinish _ ((kept_arbitrate _).cyl c hready) (by simp) (by simp) (by simp))
    · have hopen := (afterCredit_open (short := z.short) hrec hm ht).trans (if_neg (by rw [hwin]; exact hf))
      have hjudge := judgeDose_settled hrec ht (by rw [hcyc]; exact hw)
      rw [hcredit, hopen, hjudge, judged_unmarked (r := r') _ t hm, hput, State.modHead_modHead]
      exact congrArg _ (hfinish _ rfl rfl rfl rfl)

end Sys2Proof.Machine
end

section
/-! PROOF. Counts of the selected source: the tracker states before LOCKED and SLIPPED, and the positions, corrections and slips of
LOCKED (spec/01 R1 to R15). -/

namespace Sys2Proof.Machine

/-! ## The tracker written -/

/-- The state with another tracker. -/
def State.withTracker (x : Tracker) (t : State) : State := { t with tracker := x }

theorem State.modTracker_eq {t : State} {x : Tracker} (ht : t.tracker = x) (f : Tracker → Tracker) :
    t.modTracker f = t.withTracker (f x) := by
  subst ht; rfl

/-- The tracker once a count of the selected source has been seen: RUNNING, with the stop-detect timer restarted (spec/01
R12). -/
def Tracker.running (cfg : MachineConfig) (x : Tracker) : Tracker :=
  { x with motion := .running, stopDetect := .running (stopDetectTime cfg) }

/-- The state in which a count of the selected source acts (spec/01 R1, R12). -/
def State.counting (v : Sensors) (s : State) : State :=
  if s.tracker.motion = .stopped then trackerReport { s with sensors := v, tracker := s.tracker.running s.config }
  else { s with sensors := v, tracker := s.tracker.running s.config }

theorem counting_tracker (v : Sensors) (s : State) : (s.counting v).tracker = s.tracker.running s.config := by
  unfold State.counting; split <;> simp

theorem counting_config (v : Sensors) (s : State) : (s.counting v).config = s.config := by
  unfold State.counting; split <;> simp

theorem counting_infeed (v : Sensors) (s : State) : (s.counting v).infeed = s.infeed := by
  unfold State.counting; split <;> simp

theorem running_of_running {cfg : MachineConfig} {x : Tracker} (h : x.motion ≠ .stopped) :
    ({ x with stopDetect := .running (stopDetectTime cfg) } : Tracker) = x.running cfg := by
  have hm : x.motion = .running := by
    cases hx : x.motion with
    | running => rfl
    | stopped => exact absurd hx h
  simp only [Tracker.running, ← hm]

/-- A count of the selected source: the motion, the count by the tracker state, and then a forward index (spec/01 R1, R12). -/
theorem takeCount_counting (d : Direction) (index : Bool) (order : List Taker) (v : Sensors) (s : State) :
    takeCount d index order { s with sensors := v } =
      if index = true ∧ d = .forward then indexByState order (countByState order d (s.counting v))
      else countByState order d (s.counting v) := by
  have hstart : startMotion (({ s with sensors := v } : State).modTracker fun t =>
      { t with stopDetect := .running (stopDetectTime s.config) }) = s.counting v := by
    unfold startMotion State.counting
    by_cases hm : s.tracker.motion = .stopped
    · rw [if_pos hm]
      exact if_pos hm
    · rw [if_neg hm]
      refine (if_neg hm).trans ?_
      exact congrArg (fun x : Tracker => ({ s with sensors := v, tracker := x } : State)) (running_of_running hm)
  have hmarked : (index && decide (d = .forward)) = true ↔ index = true ∧ d = .forward := by simp
  simp only [takeCount, hstart, hmarked]

theorem encoderCount_other (input : EncoderInput) (d : Direction) (index : Bool) (v : Sensors) (order : List Taker) (s : State)
    (h : s.tracker.source ≠ inputSource input) :
    exec (.encoderCount input d index v order) s = .next { s with sensors := v } := congrArg _ (if_neg h)

theorem inputSource_eq (input : EncoderInput) :
    inputSource input = match input with | .primary => .primary | .secondary => .secondary := by
  cases input <;> rfl

/-! ## Counts and index pulses by tracker state -/

/-- The tracker in SEEKING (spec/01 R5). -/
def Tracker.seeking (seen : Bool) (x : Tracker) : Tracker :=
  { x with state := .seeking, firstIndexSeen := seen, position := 0, interval := 0 }

theorem enterSeeking_eq {t : State} {x : Tracker} (ht : t.tracker = x) (seen : Bool) :
    enterSeeking seen t = trackerReport (t.withTracker (x.seeking seen)) :=
  congrArg trackerReport (State.modTracker_eq ht _)

section
variable {t : State} {x : Tracker} (ht : t.tracker = x) (order : List Taker) (d : Direction)
include ht

theorem countByState_unlocked (hs : x.state = .unlocked) :
    countByState order d t = trackerReport (t.withTracker (x.seeking false)) := by
  unfold countByState
  rw [ht, hs]
  exact enterSeeking_eq ht false

theorem countByState_slipped (hs : x.state = .slipped) : countByState order d t = t.withTracker ((x.turn d).tally d) := by
  unfold countByState
  rw [ht, hs]
  exact State.modTracker_eq ht _

theorem countByState_unseen (hs : x.state = .seeking) (hseen : x.firstIndexSeen = false) : countByState order d t = t := by
  unfold countByState seekingCount
  rw [ht, hs, hseen]
  rfl

/-- A count in SEEKING after a first index: it moves position and interval counter, or is overdue (spec/01 R5, log 10). -/
theorem countByState_seen (hs : x.state = .seeking) (hseen : x.firstIndexSeen = true) : countByState order d t =
    t.withTracker (if d = .forward ∧ 4096 + (indexTolerance t.config : Int) + 1 ≤ ((x.turn d).tally d).interval then
      x.seeking false else (x.turn d).tally d) := by
  have hmove : (t.modTracker fun t => (t.turn d).tally d) = t.withTracker ((x.turn d).tally d) := State.modTracker_eq ht _
  have htest : (decide (d = .forward) && overdue (t.withTracker ((x.turn d).tally d))) = true ↔
      d = .forward ∧ 4096 + (indexTolerance t.config : Int) + 1 ≤ ((x.turn d).tally d).interval := by
    rw [Bool.and_eq_true, decide_eq_true_iff, overdue, decide_eq_true_iff]
    rfl
  have hsought : ({ (x.turn d).tally d with firstIndexSeen := false, position := 0, interval := 0 } : Tracker) =
      x.seeking false := by
    simp only [Tracker.seeking, ← hs]
    rfl
  unfold countByState seekingCount
  rw [ht, hs, hseen]
  simp only [if_true, hmove, htest]
  split
  · exact congrArg t.withTracker hsought
  · rfl

theorem indexByState_unseen (hs : x.state = .seeking) (hseen : x.firstIndexSeen = false) :
    indexByState order t = t.withTracker (x.seeking true) := by
  unfold indexByState seekingIndex
  rw [ht, hs, hseen]
  simp only [Bool.false_eq_true, if_false, State.modTracker_eq ht, Tracker.seeking, ← hs]

/-- A second index: LOCKED within the tolerance of one revolution, and else a first index again (spec/01 R5, R6). -/
theorem indexByState_seen (hs : x.state = .seeking) (hseen : x.firstIndexSeen = true) : indexByState order t =
    if 4096 - (indexTolerance t.config : Int) ≤ x.interval ∧ x.interval ≤ 4096 + (indexTolerance t.config : Int) then
      enterLocked t
    else t.withTracker (x.seeking true) := by
  have hnew : newRevolution t = true ↔
      4096 - (indexTolerance t.config : Int) ≤ x.interval ∧ x.interval ≤ 4096 + (indexTolerance t.config : Int) := by
    rw [newRevolution, Bool.and_eq_true, decide_eq_true_iff, decide_eq_true_iff, ht]
    rfl
  have hagain : (t.modTracker fun t => { t with position := 0, interval := 0 }) = t.withTracker (x.seeking true) := by
    refine (State.modTracker_eq ht _).trans (congrArg t.withTracker ?_)
    simp only [Tracker.seeking, ← hs, ← hseen]
  unfold indexByState seekingIndex
  rw [ht, hs, hseen]
  simp only [if_true, hnew, hagain]

theorem indexByState_slipped (hs : x.state = .slipped) : indexByState order t =
    if autoRelock t.config then trackerReport (t.withTracker (x.seeking true)) else t := by
  unfold indexByState
  rw [ht, hs]
  simp only [enterSeeking_eq ht true]

/-- Entry to LOCKED (spec/01 R6). -/
theorem enterLocked_eq : enterLocked t = (trackerReport (t.withTracker { x with
      state := .locked, revolution := (x.highWater / 4096 + 1) % 4294967296, position := 0
      highWater := (x.highWater / 4096 + 1) % 4294967296 * 4096, interval := 0 })).modWithhold
        fun w => { w with position := false } := by
  have hlock := State.modTracker_eq ht fun t =>
    { t with state := .locked, revolution := (t.highWater / countsPerRev + 1) % revolutions, position := 0
             highWater := (t.highWater / countsPerRev + 1) % revolutions * countsPerRev, interval := 0 }
  exact congrArg (fun u => (trackerReport u).modWithhold _) hlock

end

/-- Settles O42: the count by the tracker state, then the index by the state it leaves. -/
theorem countsBeforeLock : Obligations.CountsBeforeLock := by
  intro input dir index v order s taken selected run on started marked pos i tol sought
  have hstarted : s.counting v = started := rfl
  have ht : started.tracker = run := counting_tracker v s
  have hconfig : started.config = s.config := counting_config v s
  have hinfeed : started.infeed = s.infeed := counting_infeed v s
  let moved : Tracker := { run with position := pos, interval := i }
  have hmoved : (run.turn dir).tally dir = moved := by
    cases dir with
    | forward => rfl
    | reverse =>
      have hpos : run.position + countsPerRev - 1 = s.tracker.position + 4095 := Nat.add_sub_assoc (by decide) _
      simp only [Tracker.tally, Tracker.turn, hpos]
      rfl
  have hinterval : ((run.turn dir).tally dir).interval = i := by rw [hmoved]
  have htaken (hsel : selected) : taken = .next (if marked then indexByState order (countByState order dir started)
      else countByState order dir started) := by
    have hinput : s.tracker.source = inputSource input := by rw [inputSource_eq]; exact hsel
    exact (execEncoderCount_taken input dir index v order s hinput).trans
      (congrArg _ (takeCount_counting dir index order v s))
  refine ⟨fun hsel => ?other, fun hsel hs => ?unlocked, fun hsel hs hf => ?unseen, fun hsel hs hf => ?seen,
    fun hsel hs => ?slipped⟩
  case other => exact encoderCount_other input dir index v order s (by rw [inputSource_eq]; exact hsel)
  case unlocked =>
    rw [htaken hsel, countByState_unlocked ht order dir hs]
    refine ⟨fun hm => by rw [if_neg hm]; rfl, fun hm => ?_⟩
    have ht' : (trackerReport (started.withTracker (run.seeking false))).tracker = run.seeking false := by simp; rfl
    rw [if_pos hm, indexByState_unseen ht' order rfl rfl]
    rfl
  case unseen =>
    rw [htaken hsel, countByState_unseen ht order dir hs hf]
    refine ⟨fun hm => by rw [if_neg hm], fun hm => ?_⟩
    rw [if_pos hm, indexByState_unseen ht order hs hf]
    rfl
  case seen =>
    rw [htaken hsel, countByState_seen ht order dir hs hf, hconfig, hinterval]
    refine ⟨fun hm hd hi => ?_, fun hm hi => ?_, fun hm hi => ?_, fun hm hlo hhi => ?_⟩
    · rw [if_neg hm, if_pos ⟨hd, hi⟩]
      rfl
    · have hnot : ¬(dir = .forward ∧ 4096 + (indexTolerance s.config : Int) + 1 ≤ i) := by
        rintro ⟨hd, hle⟩
        rcases hi with hi | hi
        · rw [hi] at hd
          exact Direction.noConfusion hd
        · exact absurd hle (Int.not_le.mpr hi)
      rw [if_neg hm, if_neg hnot, hmoved]
      rfl
    · rw [if_pos hm]
      by_cases ho : 4096 + (indexTolerance s.config : Int) + 1 ≤ i
      · rw [if_pos ⟨hm.2, ho⟩, indexByState_unseen (x := run.seeking false) rfl order rfl rfl]
        rfl
      · have hnot : ¬(4096 - (indexTolerance s.config : Int) ≤ i ∧ i ≤ 4096 + (indexTolerance s.config : Int)) := by
          rintro ⟨hlo, hhi⟩
          rcases hi with hi | hi
          · exact absurd hlo (Int.not_le.mpr hi)
          · exact absurd hhi (Int.not_le.mpr hi)
        rw [if_neg fun h => ho h.2, hmoved, indexByState_seen (x := moved) rfl order hs hf]
        refine congrArg _ ((if_neg ?_).trans rfl)
        rw [show (started.withTracker moved).config = s.config from hconfig]
        exact hnot
    · have hnot : ¬(dir = .forward ∧ 4096 + (indexTolerance s.config : Int) + 1 ≤ i) := by
        rintro ⟨-, hle⟩
        exact absurd hhi (Int.not_le.mpr (Int.lt_of_add_one_le hle))
      intro rev locked
      have hin : locked.infeed = s.infeed := by
        rw [← hinfeed]; simp [locked, on]
      rw [if_pos hm, if_neg hnot, hmoved, indexByState_seen (x := moved) rfl order hs hf,
        show (started.withTracker moved).config = s.config from hconfig, if_pos ⟨hlo, hhi⟩, enterLocked_eq (x := moved) rfl]
      show Host.Outcome.next (locked.modWithhold _) = _
      rw [State.modWithhold, hin]
  case slipped =>
    intro gone
    have hgone : started.withTracker ((run.turn dir).tally dir) = gone := congrArg (on started) hmoved
    have ht' : gone.tracker = { run with position := pos, interval := i } := rfl
    have hconfig' : gone.config = s.config := hconfig
    rw [htaken hsel, countByState_slipped ht order dir hs, hgone]
    refine ⟨fun hn => ?_, fun hm ha => ?_⟩
    · by_cases hm : marked
      · rw [if_pos hm, indexByState_slipped ht' order hs, hconfig', hn.resolve_left (not_not.mpr hm)]
        rfl
      · rw [if_neg hm]
    · rw [if_pos hm, indexByState_slipped ht' order hs, hconfig', if_pos ha]
      rfl

end Sys2Proof.Machine
end

section
/-! PROOF. LOCKED counts, index corrections and slips (spec/01 R7 to R9, R14, R15), and what a slip leaves (spec/02 R43, spec/05
R95, spec/08 R146). -/

namespace Sys2Proof.Machine

/-! ## Entry to SLIPPED -/

/-- Setting a condition leaves the infeed block but for the reason STOP. -/
theorem setCondition_infeed (k : Condition) (s : State) : ∃ b : Bool,
    (setCondition k s).infeed = { s.infeed with withhold := { s.infeed.withhold with stop := b } } := by
  unfold setCondition
  split
  · exact ⟨s.infeed.withhold.stop, rfl⟩
  · by_cases hk : k.isStop = true
    · refine ⟨({ s.conds with isSet := s.conds.isSet.set k.num true } : Conditions).anyStop, ?_⟩
      simp only [hk, if_true, conditionReport_frame]
      rfl
    · refine ⟨s.infeed.withhold.stop, ?_⟩
      simp only [hk, Bool.false_eq_true, if_false, conditionReport_frame]
      rfl

theorem mem_allHeads (h : Fin 16) : h ∈ allHeads := List.mem_finRange h

theorem mem_allCylinders (c : Fin 4) : c ∈ allCylinders := List.mem_finRange c

/-- The slip before any block takes its notice (spec/01 R9). -/
def slipNoticed (s : State) : State :=
  setCondition .positionSlip (trackerReport (setPosition (s.modTracker fun t => { t with state := .slipped })))

/-- The slip once the heads have taken their notice (spec/02 R43). -/
def slipMarked (s : State) : State := allHeads.foldl (fun s h => addReason h .positionLost s) (slipNoticed s)

/-- The slip once the cylinder bank has taken its notice (spec/05 R95). -/
def slipEnded (s : State) : State := allCylinders.foldl (fun s c => endDischarge c .slip s) (slipMarked s)

theorem enterSlipped_eq (s : State) : enterSlipped s = verdictSlip (slipEnded s) := rfl

theorem slipNoticed_frame (s : State) :
    (slipNoticed s).tracker = { s.tracker with state := .slipped } ∧ (slipNoticed s).heads = s.heads ∧
    (slipNoticed s).cylinders = s.cylinders ∧ (slipNoticed s).grantQueue = s.grantQueue ∧ (slipNoticed s).gas = s.gas ∧
    (slipNoticed s).gasTable = s.gasTable ∧ (slipNoticed s).allowances = s.allowances ∧
    (slipNoticed s).verdicts = s.verdicts ∧ (slipNoticed s).slots = s.slots ∧ (slipNoticed s).config = s.config ∧
    (slipNoticed s).sensors = s.sensors ∧ (slipNoticed s).pending = s.pending := by
  simp [slipNoticed]

/-- A part of the state that neither a reason nor the end of a discharge touches stands from the notice on. -/
theorem slipEnded_keeps {β : Type} (F : State → β) (hr : ∀ s h, F (addReason h .positionLost s) = F s)
    (he : ∀ s c, F (endDischarge c .slip s) = F s) (s : State) : F (slipEnded s) = F (slipNoticed s) :=
  (foldl_frame F _ he _ _).trans (foldl_frame F _ hr _ _)

theorem slipMarked_cylinders (s : State) : (slipMarked s).cylinders = s.cylinders := by
  obtain ⟨-, -, hcyl, -⟩ := slipNoticed_frame s
  exact (foldl_frame State.cylinders _ (by simp) _ _).trans hcyl

theorem slipMarked_config (s : State) : (slipMarked s).config = s.config :=
  (foldl_frame State.config _ (by simp) _ _).trans (by simp [slipNoticed])

theorem slipMarked_heads (s : State) (h : Fin 16) :
    (slipMarked s).heads[h] = Head.withReason .positionLost s.heads[h] := by
  obtain ⟨hall, -⟩ := addReason_all .positionLost allHeads (List.nodup_finRange 16) (slipNoticed s)
  obtain ⟨-, hheads, -⟩ := slipNoticed_frame s
  refine (hall h).trans ?_
  rw [if_pos (mem_allHeads h), hheads]

theorem slipMarked_queue (s : State) : (slipMarked s).grantQueue =
    s.grantQueue.filter fun g => !(decide (s.heads[g].cycle = .waiting) && s.heads[g].record.isSome) := by
  obtain ⟨-, hall⟩ := addReason_all .positionLost allHeads (List.nodup_finRange 16) (slipNoticed s)
  obtain ⟨-, hheads, -, hqueue, -⟩ := slipNoticed_frame s
  refine hall.trans ?_
  rw [hqueue, hheads]
  simp [allHeads]

theorem withReason_paired (k : Reason) (x : Head) : (Head.withReason k x).paired = x.paired := by
  unfold Head.withReason
  split
  · rfl
  · split <;> rfl

theorem withReason_waiting {k : Reason} {x : Head} {r : CanRecord} (hr : x.record = some r) (hc : x.cycle = .waiting) :
    Head.withReason k x =
      { x with record := x.record.map fun r => r.withReason k, cycle := .charged, pendingResult := none } := by
  simp only [Head.withReason, hr, if_pos hc, Option.map_some]

theorem withReason_settled {k : Reason} {x : Head} (hc : x.cycle ≠ .waiting) :
    Head.withReason k x = { x with record := x.record.map fun r => r.withReason k } := by
  unfold Head.withReason
  split
  · next hr =>
    cases x
    subst hr
    rfl
  · next r hr => rw [if_neg hc, hr, Option.map_some]

theorem PairingSafe.slipMarked_paired {s : State} (hs : PairingSafe s) : Paired (slipMarked s) := by
  intro c hc
  rw [slipMarked_cylinders] at hc ⊢
  obtain ⟨h, ho, hp, -⟩ := hs.discharging c hc
  exact ⟨h, ho, by rw [slipMarked_heads, withReason_paired]; exact hp⟩

/-- Every part of the state after a slip but the heads, the cylinders, the grant queue, the infeed, the conditions and the
link. -/
theorem enterSlipped_frame (s : State) :
    (enterSlipped s).tracker = { s.tracker with state := .slipped } ∧ (enterSlipped s).gas = s.gas ∧
    (enterSlipped s).gasTable = s.gasTable ∧ (enterSlipped s).allowances = s.allowances ∧
    (enterSlipped s).slots = s.slots ∧ (enterSlipped s).config = s.config ∧ (enterSlipped s).sensors = s.sensors ∧
    (enterSlipped s).pending = s.pending := by
  obtain ⟨htracker, -, -, -, hgas, htable, hallow, -, hslots, hconfig, hsensors, hpending⟩ := slipNoticed_frame s
  rw [enterSlipped_eq]
  simp only [verdictSlip_frame]
  exact ⟨(slipEnded_keeps State.tracker (by simp) (by simp) s).trans htracker,
    (slipEnded_keeps State.gas (by simp) (by simp) s).trans hgas,
    (slipEnded_keeps State.gasTable (by simp) (by simp) s).trans htable,
    (slipEnded_keeps State.allowances (by simp) (by simp) s).trans hallow,
    (slipEnded_keeps State.slots (by simp) (by simp) s).trans hslots,
    (slipEnded_keeps State.config (by simp) (by simp) s).trans hconfig,
    (slipEnded_keeps State.sensors (by simp) (by simp) s).trans hsensors,
    (slipEnded_keeps State.pending (by simp) (by simp) s).trans hpending⟩

theorem enterSlipped_conds (s : State) (k : Fin 12) :
    (enterSlipped s).conds.isSet[k] = (s.conds.isSet[k] || k == 0 || k == 2) := by
  have hnoticed : (slipNoticed s).conds.isSet[k] = (s.conds.isSet[k] || k == 0) := by
    rw [slipNoticed, setCondition_isSet]
    simp [Condition.num]
  have hended := slipEnded_keeps State.conds (by simp) (by simp) s
  rw [enterSlipped_eq, verdictSlip, setCondition_isSet]
  simp only [State.modVerdicts_conds, hended, hnoticed]
  rfl

theorem enterSlipped_verdicts (s : State) : (enterSlipped s).verdicts = { s.verdicts with rejects := [] } := by
  obtain ⟨-, -, -, -, -, -, -, hverdicts, -⟩ := slipNoticed_frame s
  have hended := (slipEnded_keeps State.verdicts (by simp) (by simp) s).trans hverdicts
  rw [enterSlipped_eq, verdictSlip]
  simp only [setCondition_frame, State.modVerdicts_verdicts, hended]

theorem setPosition_infeed (s : State) : (setPosition s).infeed =
    if s.infeed.withhold.position then s.infeed
    else { s.infeed with
      withhold := { s.infeed.withhold with position := true }, admitted := Vector.replicate 16 false, gateOpen := false } := by
  unfold setPosition
  split <;> rfl

/-- The infeed block after a slip, but for the reason STOP: POSITION has entered the withhold set (spec/03 R51). -/
theorem enterSlipped_infeed (s : State) : ∃ b : Bool, (enterSlipped s).infeed =
    { (setPosition s).infeed with withhold := { (setPosition s).infeed.withhold with stop := b } } := by
  have hset : (setPosition (s.modTracker fun t => { t with state := .slipped })).infeed = (setPosition s).infeed := by
    rw [setPosition_infeed, setPosition_infeed]
    rfl
  obtain ⟨b, hb⟩ := setCondition_infeed .positionSlip
    (trackerReport (setPosition (s.modTracker fun t => { t with state := .slipped })))
  obtain ⟨b', hb'⟩ := setCondition_infeed .rejectLost ((slipEnded s).modVerdicts fun u => { u with rejects := [] })
  have hended := slipEnded_keeps State.infeed (by simp) (by simp) s
  refine ⟨b', ?_⟩
  rw [enterSlipped_eq, verdictSlip, hb']
  simp only [State.modVerdicts_infeed, hended, slipNoticed, hb, trackerReport_frame, hset]

theorem setPosition_position (s : State) : (setPosition s).infeed.withhold.position = true := by
  unfold setPosition
  split
  · next h => exact h
  · rfl

/-- Settles O45: each block's part by the stages of the slip. -/
theorem slipIsTaken : Obligations.SlipIsTaken := by
  intro s hs t lost
  obtain ⟨htracker, hgas, htable, hallow, hslots, hconfig, hsensors, hpending⟩ := enterSlipped_frame s
  obtain ⟨b, hinfeed⟩ := enterSlipped_infeed s
  have hheads : t.heads = (slipEnded s).heads := by simp [t, enterSlipped_eq]
  have hcyls : t.cylinders = (slipEnded s).cylinders := by simp [t, enterSlipped_eq]
  have hqueue : t.grantQueue = (slipMarked s).grantQueue := by
    rw [show t.grantQueue = (slipEnded s).grantQueue by simp [t, enterSlipped_eq]]
    exact foldl_frame State.grantQueue _ (by simp) _ _
  obtain ⟨hcyl, hhead⟩ := endDischarge_all .slip allCylinders (List.nodup_finRange 4) (slipMarked s) hs.slipMarked_paired
  refine ⟨htracker, ?position, fun hp => ?gate, fun h => ?heads, fun c => ?cyls, ?queue, enterSlipped_verdicts s,
    fun k => ?conds, hgas, hslots, hallow, hconfig, htable, hsensors, hpending⟩
  case conds => rw [show t = enterSlipped s from rfl, enterSlipped_conds s k]
  case position => rw [hinfeed]; exact setPosition_position s
  case gate =>
    have hset : setPosition s = s.modInfeed fun i =>
        { i with withhold := { i.withhold with position := true }, admitted := Vector.replicate 16 false, gateOpen := false } :=
      if_neg (by rw [hp]; decide)
    rw [hinfeed, hset]
    exact ⟨rfl, fun h => by simp⟩
  case heads =>
    intro x
    have hth : t.heads[h] = (slipEnded s).heads[h] := by rw [hheads]
    have hmarked := slipMarked_heads s h
    have hfree (hn : s.heads[h].paired = none) : (slipEnded s).heads[h] = Head.withReason .positionLost x := by
      refine (hhead h).trans ?_
      simp only [hmarked, withReason_paired, hn]
      rfl
    have hpaired (c : Fin 4) (hp : s.heads[h].paired = some c) (hd : s.cylinders[c].state = .discharging)
        (ho : s.cylinders[c].owner = some h) :
        (slipEnded s).heads[h] = Head.discharged c (Head.withReason .positionLost x) := by
      refine (hhead h).trans ?_
      simp only [hmarked, withReason_paired, hp, slipMarked_cylinders]
      exact if_pos ⟨mem_allCylinders c, hd, ho⟩
    have hunpaired (hc : x.cycle ≠ .charging) : t.heads[h] = Head.withReason .positionLost x := by
      have hnone : x.paired = none := Option.eq_none_iff_forall_ne_some.mpr fun c hp => hc (hs.paired h c hp)
      rw [hth, hfree hnone]
    refine ⟨fun hc => ?_, fun c hc hp => ?_, fun hw hc => ?_⟩
    · obtain ⟨⟨r, _, hr, _⟩, _⟩ := hs.asks h (.inl hc)
      rw [hunpaired (fun e => Cycle.noConfusion (hc.symm.trans e)), withReason_waiting hr hc]
    · obtain ⟨c', hp', hd, ho⟩ := hs.charging h hc
      obtain rfl : c' = c := Option.some.inj (hp'.symm.trans hp)
      rw [hth, hpaired c' hp hd ho, withReason_settled (fun e => Cycle.noConfusion (hc.symm.trans e))]
      rfl
    · rw [hunpaired hc, withReason_settled hw]
  case cyls =>
    intro x
    have htc : t.cylinders[c] = (slipEnded s).cylinders[c] := by rw [hcyls]
    rw [htc]
    refine (hcyl c).trans ?_
    rw [slipMarked_cylinders, slipMarked_config]
    by_cases hd : x.state = .discharging
    · rw [if_pos ⟨mem_allCylinders c, hd⟩, if_pos hd]
      rfl
    · rw [if_neg (fun h => hd h.2), if_neg hd]
  case queue =>
    rw [hqueue, slipMarked_queue]
    refine List.filter_eq_nil_iff.mpr fun g hg => ?_
    have hw : s.heads[g].cycle = .waiting := (hs.waiting g).mp hg
    obtain ⟨⟨r, _, hr, _⟩, _⟩ := hs.asks g (.inl hw)
    have hsome : s.heads[g].record.isSome = true := by rw [hr]; rfl
    rw [hw, hsome]
    exact Bool.false_ne_true

/-! ## Counts in LOCKED -/

/-- The tracker one position on (spec/01 R7): the high-water mark follows where it is passed. -/
def Tracker.next (x : Tracker) : Tracker :=
  { x with
    position := if x.position = 4095 then 0 else x.position + 1
    revolution := if x.position = 4095 then (x.revolution + 1) % 4294967296 else x.revolution
    highWater := max x.highWater ((if x.position = 4095 then (x.revolution + 1) % 4294967296 else x.revolution) * 4096 +
      if x.position = 4095 then 0 else x.position + 1) }

/-- The tracker one position back (spec/01 R7). -/
def Tracker.prev (x : Tracker) : Tracker :=
  { x with
    position := if x.position = 0 then 4095 else x.position - 1
    revolution := if x.position = 0 then (x.revolution + 4294967295) % 4294967296 else x.revolution }

/-- The position after the present one is entered, and its agents meet it (spec/01 R7, R14). -/
def State.entered (order : List Taker) (t : State) : State :=
  (takersInOrder order).foldl (takePosition (decide (t.tracker.highWater < t.tracker.next.absolute)) t.tracker.next.position)
    (t.withTracker t.tracker.next)

theorem stepForward_eq (x : Tracker) : { x.stepForward with
    highWater := max x.highWater x.stepForward.absolute } = x.next := by
  unfold Tracker.stepForward Tracker.next Tracker.absolute countsPerRev revolutions
  split <;> rfl

theorem stepForward_highWater (x : Tracker) : x.stepForward.highWater = x.highWater := by
  unfold Tracker.stepForward
  split <;> rfl

theorem next_absolute (x : Tracker) : x.next.absolute = x.stepForward.absolute := by
  rw [← stepForward_eq]; rfl

theorem stepBack_eq (x : Tracker) : x.stepBack = x.prev := by
  have hrev : x.revolution + revolutions - 1 = x.revolution + 4294967295 := Nat.add_sub_assoc (by decide) _
  unfold Tracker.stepBack Tracker.prev countsPerRev
  rw [hrev, revolutions]
  split <;> rfl

theorem advance_eq (order : List Taker) (t : State) : advance order t = t.entered order := by
  have htracker : (if t.tracker.stepForward.highWater < t.tracker.stepForward.absolute then
      ({ t.tracker.stepForward with highWater := t.tracker.stepForward.absolute } : Tracker)
      else t.tracker.stepForward) = t.tracker.next := by
    rw [← stepForward_eq, stepForward_highWater]
    split
    · next h => rw [Nat.max_eq_right h.le]
    · next h => rw [Nat.max_eq_left (Nat.not_lt.mp h), ← stepForward_highWater]
  have hstate : (if decide (t.tracker.stepForward.highWater < t.tracker.stepForward.absolute) = true then
      (t.modTracker Tracker.stepForward).modTracker fun x => { x with highWater := x.absolute }
      else t.modTracker Tracker.stepForward) = t.withTracker t.tracker.next := by
    rw [← htracker]
    simp only [decide_eq_true_eq]
    split <;> rfl
  have hraised : decide (t.tracker.stepForward.highWater < t.tracker.stepForward.absolute) =
      decide (t.tracker.highWater < t.tracker.next.absolute) := by
    rw [next_absolute, stepForward_highWater]
  show (takersInOrder order).foldl (takePosition
      (decide (t.tracker.stepForward.highWater < t.tracker.stepForward.absolute))
      (if decide (t.tracker.stepForward.highWater < t.tracker.stepForward.absolute) = true then
        (t.modTracker Tracker.stepForward).modTracker fun x => { x with highWater := x.absolute }
        else t.modTracker Tracker.stepForward).tracker.position)
    (if decide (t.tracker.stepForward.highWater < t.tracker.stepForward.absolute) = true then
      (t.modTracker Tracker.stepForward).modTracker fun x => { x with highWater := x.absolute }
      else t.modTracker Tracker.stepForward) = _
  rw [hstate, hraised]
  rfl

theorem entered_tracker (order : List Taker) (t : State) : (t.entered order).tracker = t.tracker.next :=
  foldl_frame State.tracker _ (by simp) _ _

theorem entered_config (order : List Taker) (t : State) : (t.entered order).config = t.config :=
  foldl_frame State.config _ (by simp) _ _

theorem advances_eq (order : List Taker) (n : Nat) (t : State) : advances order n t = (State.entered order)^[n] t := by
  induction n generalizing t with
  | zero => rfl
  | succ n ih => rw [advances, ih, advance_eq, Function.iterate_succ_apply]

theorem backSteps_eq (n : Nat) (x : Tracker) : backSteps n x = Tracker.prev^[n] x := by
  induction n generalizing x with
  | zero => rfl
  | succ n ih => rw [backSteps, ih, stepBack_eq, Function.iterate_succ_apply]

section
variable {t : State} {x : Tracker} (ht : t.tracker = x) (order : List Taker)
include ht

theorem countByState_forward {u : State} (hs : x.state = .locked)
    (hent : (t.withTracker { x with interval := x.interval + 1 }).entered order = u) :
    countByState order .forward t =
      if 4096 + (indexTolerance t.config : Int) + 1 ≤ x.interval + 1 then enterSlipped u else u := by
  have hcount : t.modTracker (Tracker.tally .forward) = t.withTracker { x with interval := x.interval + 1 } :=
    State.modTracker_eq ht _
  have hu : advance order (t.modTracker (Tracker.tally .forward)) = u := by rw [hcount, advance_eq, hent]
  have htest : overdue u = true ↔ 4096 + (indexTolerance t.config : Int) + 1 ≤ x.interval + 1 := by
    rw [overdue, decide_eq_true_iff, ← hent, entered_config, entered_tracker]
    rfl
  unfold countByState
  rw [ht, hs]
  simp only [lockedCount, hu, htest]

theorem countByState_reverse {u : State} (hs : x.state = .locked)
    (hu : t.withTracker { x.prev with interval := x.interval - 1 } = u) : countByState order .reverse t =
      if (reverseLimit t.config : Int) < (x.highWater : Int) - (x.prev.absolute : Int) then enterSlipped u else u := by
  have hcount : (t.modTracker (Tracker.tally .reverse)).modTracker Tracker.stepBack = u := by
    rw [State.modTracker_eq ht, State.modTracker_eq rfl, stepBack_eq, ← hu]
    rfl
  unfold countByState
  rw [ht, hs]
  simp only [lockedCount, hcount]
  rw [← hu]
  rfl

/-- An index pulse in LOCKED: a correction to the reference index or the next, or a slip (spec/01 R8). -/
theorem indexByState_locked (hs : x.state = .locked) : indexByState order t =
    if 4096 - (indexTolerance t.config : Int) ≤ x.interval ∧ x.interval ≤ 4096 + (indexTolerance t.config : Int) then
      (moveBy order (4096 - x.interval) t).modTracker fun t => { t with interval := 0 }
    else if -(indexTolerance t.config : Int) ≤ x.interval ∧ x.interval ≤ (indexTolerance t.config : Int) then
      (moveBy order (-x.interval) t).modTracker fun t => { t with interval := 0 }
    else enterSlipped t := by
  have hnew : newRevolution t = true ↔
      4096 - (indexTolerance t.config : Int) ≤ x.interval ∧ x.interval ≤ 4096 + (indexTolerance t.config : Int) := by
    rw [newRevolution, Bool.and_eq_true, decide_eq_true_iff, decide_eq_true_iff, ht]
    rfl
  have hrepeat : repeatIndex t = true ↔
      -(indexTolerance t.config : Int) ≤ x.interval ∧ x.interval ≤ (indexTolerance t.config : Int) := by
    rw [repeatIndex, Bool.and_eq_true, decide_eq_true_iff, decide_eq_true_iff, ht]
  unfold indexByState lockedIndex
  rw [ht, hs]
  simp only [hnew, hrepeat]
  rfl

theorem moveBy_back {d : Int} (hd : d < 0) : moveBy order d t = t.withTracker (Tracker.prev^[(-d).toNat] x) := by
  rw [moveBy, if_neg (Int.not_le.mpr hd), State.modTracker_eq ht, backSteps_eq]

end

theorem moveBy_on (order : List Taker) {d : Int} (hd : 0 ≤ d) (t : State) :
    moveBy order d t = (State.entered order)^[d.toNat] t := by
  rw [moveBy, if_pos hd, advances_eq]

/-- Settles O43: the count's position, then the index's correction by the interval counted. -/
theorem lockedCountsMove : Obligations.LockedCountsMove := by
  intro input index v order s hsel hs htol run started tol next enter prev restart i forward counted reverse returned
  have hinput : s.tracker.source = inputSource input := by rw [inputSource_eq]; exact hsel
  have hst : started.tracker = run := counting_tracker v s
  have hconfig : started.config = s.config := counting_config v s
  have hcounted : (started.withTracker { run with interval := run.interval + 1 }).entered order = counted := rfl
  have hct : counted.tracker = { run with interval := i }.next := entered_tracker order _
  have hci : counted.tracker.interval = i := by rw [hct]; rfl
  have hcs : counted.tracker.state = .locked := by rw [hct]; exact hs
  have hcc : counted.config = s.config := (entered_config order _).trans hconfig
  have hcount : countByState order .forward started = if 4096 + tol + 1 ≤ i then enterSlipped counted else counted := by
    rw [countByState_forward hst order hs hcounted, hconfig]
  have hforward : forward = .next (if index = true then indexByState order (countByState order .forward started)
      else countByState order .forward started) := by
    refine (execEncoderCount_taken input .forward index v order s hinput).trans ?_
    rw [takeCount_counting]
    simp only [and_true]
    rfl
  have hindex (hidx : index = true) (hi : i ≤ 4096 + tol) : forward = .next (
      if 4096 - tol ≤ i ∧ i ≤ 4096 + tol then restart (moveBy order (4096 - i) counted)
      else if -tol ≤ i ∧ i ≤ tol then restart (moveBy order (-i) counted) else enterSlipped counted) := by
    rw [hforward, if_pos hidx, hcount, if_neg (by omega), indexByState_locked rfl order hcs, hci, hcc]
    rfl
  have htol' : 0 ≤ tol ∧ tol ≤ 16 := by omega
  refine ⟨fun hidx => ?_, fun hidx hlo hhi => ?_, fun hidx hlo hhi => ?_, fun hidx hlo hhi => ?_, fun hidx hlo hhi => ?_,
    fun hidx hi => ?_, fun hidx hi => ?_, ?_⟩
  · rw [hforward, if_neg (by rw [hidx]; decide), hcount]
  · rw [hindex hidx (by omega), if_pos ⟨hlo, by omega⟩, moveBy_on order (by omega)]
    rfl
  · rw [hindex hidx hhi, if_pos ⟨by omega, hhi⟩, moveBy_back rfl order (by omega), Int.neg_sub]
    rfl
  · rw [hindex hidx (by omega), if_neg (by omega), if_pos ⟨hlo, by omega⟩, moveBy_on order (by omega)]
    rfl
  · rw [hindex hidx (by omega), if_neg (by omega), if_pos ⟨by omega, hhi⟩, moveBy_back rfl order (by omega), Int.neg_neg]
    rfl
  · rw [hindex hidx (by omega), if_neg (by omega), if_neg (by omega)]
  · intro slipped
    obtain ⟨hst', -, -, -, -, hconf', -⟩ := enterSlipped_frame counted
    have hauto : autoRelock (enterSlipped counted).config = autoRelock s.config := by rw [hconf', hcc]
    rw [hforward, if_pos hidx, hcount, if_pos (by omega), indexByState_slipped rfl order (by rw [hst']), hauto,
      show slipped = enterSlipped counted from rfl]
    generalize enterSlipped counted = u
    rfl
  · have hreturned : started.withTracker { run.prev with interval := run.interval - 1 } = returned := rfl
    refine (execEncoderCount_taken input .reverse index v order s hinput).trans ?_
    have hno : ¬(index = true ∧ Direction.reverse = .forward) := fun ⟨_, h⟩ => Direction.noConfusion h
    rw [takeCount_counting, if_neg hno]
    refine congrArg _ ((countByState_reverse hst order hs hreturned).trans ?_)
    have habs : run.prev.absolute = (prev s.tracker).absolute := by
      simp only [Tracker.absolute, Tracker.prev, prev, run]
    rw [hconfig, habs]

end Sys2Proof.Machine
end

section
/-! PROOF. HEAD and CYLINDER requests (spec/02 R22 to R24, R29, spec/05 R97 to R99). -/

namespace Sys2Proof.Machine

/-! ## HEAD ENABLE and HEAD DISABLE -/

section
variable {h : Fin 16} {s : State} (hs : LinkReady s)
include hs

theorem exec_headEnable : exec (.headEnable h.val) s =
    .next (acceptAround 0x0A (fun s => (enableHead h s, headReplyItems (enableHead h s) h)) s) :=
  (exec_ready (.headEnable h.val) (.head h.val 0) s rfl (by simp [Request.wf]; omega) hs).trans
    (congrArg _ (dif_pos h.isLt))

theorem exec_headDisable : exec (.headDisable h.val) s =
    .next (acceptAround 0x0A (fun s => (disableHead h s, headReplyItems (disableHead h s) h)) s) :=
  (exec_ready (.headDisable h.val) (.head h.val 1) s rfl (by simp [Request.wf]; omega) hs).trans
    (congrArg _ (dif_pos h.isLt))

theorem exec_headReset : exec (.headReset h.val) s =
    .next (acceptAround 0x0A (fun s => (resetHead h s, headReplyItems (resetHead h s) h)) s) :=
  (exec_ready (.headReset h.val) (.head h.val 2) s rfl (by simp [Request.wf]; omega) hs).trans
    (congrArg _ (dif_pos h.isLt))

end

section
variable {h : Fin 16} {s : State}

/-- HEAD ENABLE by service state (spec/02 R23). -/
theorem enableHead_stands (hx : s.heads[h].service = .enabled ∨ s.heads[h].service = .zeroing) : enableHead h s = s := by
  unfold enableHead
  rcases hx with hx | hx <;> rw [hx]

theorem enableHead_returns {r : ReturnState} (hx : s.heads[h].service = .disabling) (hr : s.heads[h].returnState = some r) :
    enableHead h s = headReport h .enableRequest (s.modHead h fun x => { x with
      service := r.service, returnState := none }) := by
  unfold enableHead
  rw [hx]
  simp only [State.modHead, hr, Option.map_some, Option.getD_some]

theorem enableHead_zeroes (hx : s.heads[h].service = .disabled ∨ s.heads[h].service = .outOfService) :
    enableHead h s = headReport h .enableRequest (s.modHead h fun x => { x with
      service := .zeroing, noFlowCount := 0, zeroCount := 0 }) := by
  unfold enableHead
  rcases hx with hx | hx <;> rw [hx]

/-- HEAD DISABLE of a head in service, by whether a can or an admission holds it (spec/02 R24). -/
theorem disableHead_service (r : ReturnState) (hr : s.heads[h].service = r.service) :
    disableHead h s = disableFrom h r s := by
  unfold disableHead
  rw [hr]
  cases r <;> rfl

theorem disableHead_stands (hx : s.heads[h].service = .disabling ∨ s.heads[h].service = .disabled ∨
    s.heads[h].service = .outOfService) : disableHead h s = s := by
  unfold disableHead
  rcases hx with hx | hx | hx <;> rw [hx]

end

/-- The data of a reply to HEAD (spec/02 R22, log 15). -/
theorem headReplyItems_eq (t : State) (h : Fin 16) (held : Byte × Nat)
    (hh : held = match t.heads[h].record with | none => (0, 0) | some r => (1, r.seq)) (hseq : held.2 < 16777216) :
    headReplyItems t h =
      [BitVec.ofNat 8 ([Service.enabled, .disabling, .disabled, .zeroing, .outOfService].idxOf t.heads[h].service),
       BitVec.ofNat 8 ([Cycle.empty, .seated, .crimped, .probing, .probed, .waiting, .charging, .charged, .dwelling,
         .lifted].idxOf t.heads[h].cycle), held.1] ++ wire 3 held.2 := by
  have hitem : t.heads[h].seqItem = wire 3 held.2 := by
    rw [← item_eq_wire (w := 3) hseq, Head.seqItem, hh]
    cases t.heads[h].record <;> rfl
  have hflag : flag t.heads[h].holdsCan = [held.1] := by
    rw [Head.holdsCan, hh]
    cases t.heads[h].record <;> rfl
  rw [headReplyItems, service_item, cycle_item, hitem, hflag]
  rfl

/-- Settles O33: the act on the state that already holds the reply, by service state. -/
theorem headServiceRequests : Obligations.HeadServiceRequests := by
  intro h s hs x put replied enable disable busy
  have henable : enable = _ := exec_headEnable hs
  have hdisable : disable = _ := exec_headDisable hs
  rw [henable, hdisable]
  refine ⟨fun hx => congrArg _ ?_, fun r hx hr => congrArg _ ?_, fun hx => congrArg _ ?_, fun r hx hb => congrArg _ ?_,
    fun hx hb => congrArg _ ?_, fun hx => congrArg _ ?_, fun t => ?_⟩
  · exact acceptHead_plain (enableHead h) h s s (enableHead_stands (s := s.withReply ⟨0x80, [0x0A]⟩) hx) rfl
  · exact acceptHead_report (enableHead h) h _ s (put { x with service := r.service, returnState := none })
      (enableHead_returns (s := s.withReply ⟨0x80, [0x0A]⟩) hx hr) rfl
  · exact acceptHead_report (enableHead h) h _ s (put { x with service := .zeroing, noFlowCount := 0, zeroCount := 0 })
      (enableHead_zeroes (s := s.withReply ⟨0x80, [0x0A]⟩) hx) rfl
  · refine acceptHead_report (disableHead h) h _ s (put { x with service := .disabling, returnState := some r })
      ((disableHead_service (s := s.withReply ⟨0x80, [0x0A]⟩) r hx).trans ?_) rfl
    exact if_pos hb
  · obtain ⟨r, hr⟩ : ∃ r : ReturnState, x.service = r.service := by
      rcases hx with hx | hx
      · exact ⟨.enabled, hx⟩
      · exact ⟨.zeroing, hx⟩
    refine acceptHead_report (disableHead h) h _ s (put { x with service := .disabled, returnState := none, ventValve := false })
      ((disableHead_service (s := s.withReply ⟨0x80, [0x0A]⟩) r hr).trans ?_) rfl
    exact if_neg hb
  · exact acceptHead_plain (disableHead h) h s s (disableHead_stands (s := s.withReply ⟨0x80, [0x0A]⟩) hx) rfl
  · intro y held hseq
    exact headReplyItems_eq t h held rfl hseq

/-! ## CYLINDER ENABLE and CYLINDER DISABLE -/

section
variable {c : Fin 4} {s : State} (hs : LinkReady s)
include hs

theorem exec_cylinderEnable : exec (.cylinderEnable c.val) s =
    .next (acceptAround 0x0B (fun s => (enableCylinder c s, cylinderReplyItems (enableCylinder c s) c)) s) :=
  (exec_ready (.cylinderEnable c.val) (.cylinder c.val 0) s rfl (by simp [Request.wf]; omega) hs).trans
    (congrArg _ (dif_pos c.isLt))

theorem exec_cylinderDisable : exec (.cylinderDisable c.val) s =
    .next (acceptAround 0x0B (fun s => (disableCylinder c s, cylinderReplyItems (disableCylinder c s) c)) s) :=
  (exec_ready (.cylinderDisable c.val) (.cylinder c.val 1) s rfl (by simp [Request.wf]; omega) hs).trans
    (congrArg _ (dif_pos c.isLt))

end

section
variable {c : Fin 4} {s : State}

/-- CYLINDER DISABLE by state (spec/05 R97). -/
theorem disableCylinder_still (hx : s.cylinders[c].state = .idle ∨ s.cylinders[c].state = .ready ∨
    s.cylinders[c].state = .refilling ∨ s.cylinders[c].state = .fault) :
    disableCylinder c s = allOutTest (cylinderReport c .disableRequest (s.modCyl c (Cylinder.enter .disabled))) := by
  unfold disableCylinder
  rcases hx with hx | hx | hx | hx <;> rw [hx]

theorem disableCylinder_busy (hx : s.cylinders[c].state = .discharging ∨ s.cylinders[c].state = .measuring) :
    disableCylinder c s = if s.cylinders[c].disablePending then s
      else cylinderReport c .disableRequest (s.modCyl c fun x => { x with disablePending := true }) := by
  unfold disableCylinder
  rcases hx with hx | hx <;> rw [hx]

theorem disableCylinder_out (hx : s.cylinders[c].state = .disabled ∨ s.cylinders[c].state = .outOfService) :
    disableCylinder c s = s := by
  unfold disableCylinder
  rcases hx with hx | hx <;> rw [hx]

/-- CYLINDER ENABLE by state (spec/05 R98). -/
theorem enableCylinder_still (hx : s.cylinders[c].state = .idle ∨ s.cylinders[c].state = .ready ∨
    s.cylinders[c].state = .refilling ∨ s.cylinders[c].state = .fault) : enableCylinder c s = s := by
  unfold enableCylinder
  rcases hx with hx | hx | hx | hx <;> rw [hx]

theorem enableCylinder_busy (hx : s.cylinders[c].state = .discharging ∨ s.cylinders[c].state = .measuring) :
    enableCylinder c s = if s.cylinders[c].disablePending then
      cylinderReport c .enableRequest (s.modCyl c fun x => { x with disablePending := false }) else s := by
  unfold enableCylinder
  rcases hx with hx | hx <;> rw [hx]

theorem enableCylinder_out (hx : s.cylinders[c].state = .disabled ∨ s.cylinders[c].state = .outOfService) :
    enableCylinder c s = allOutTest (cylinderReport c .enableRequest (
      if refillCondition s then s.modCyl c fun x =>
        { ({ x with failures := 0 } : Cylinder).enter .refilling with refillTimer := .running (refillTimeout s.config) }
      else s.modCyl c fun x => ({ x with failures := 0 } : Cylinder).enter .idle)) := by
  have hidle : enterIdle c (s.modCyl c fun x => { x with failures := 0 }) = if refillCondition s then s.modCyl c fun x =>
        { ({ x with failures := 0 } : Cylinder).enter .refilling with refillTimer := .running (refillTimeout s.config) }
      else s.modCyl c fun x => ({ x with failures := 0 } : Cylinder).enter .idle := by
    simp only [enterIdle, enterRefilling, State.modCyl_modCyl]
    rfl
  unfold enableCylinder
  rcases hx with hx | hx <;> rw [hx] <;> simp only [hidle]

end

/-- The data of a reply to CYLINDER (spec/05 R97). -/
theorem cylinderReplyItems_eq (t : State) (c : Fin 4) (hp : t.cylinders[c].pressure < 65536)
    (hf : t.cylinders[c].failures < 256) : cylinderReplyItems t c =
      [BitVec.ofNat 8 ([CylState.idle, .refilling, .ready, .discharging, .measuring, .fault, .disabled,
        .outOfService].idxOf t.cylinders[c].state)] ++ wire 2 t.cylinders[c].pressure ++
      [BitVec.ofNat 8 t.cylinders[c].failures, if t.cylinders[c].disablePending then 1 else 0] := by
  rw [cylinderReplyItems, cylState_item, item_eq_wire (w := 2) hp, item_one_of_lt hf]
  rfl

theorem allOut_iff (s : State) : allOut s = true ↔
    ∀ c : Fin 4, s.cylinders[c].state = .disabled ∨ s.cylinders[c].state = .outOfService := by
  simp [allOut, allCylinders, Cylinder.isOut]

/-- Settles O35: the act on the state that already holds the reply, by cylinder state; and the all-out test. -/
theorem cylinderServiceRequests : Obligations.CylinderServiceRequests := by
  refine ⟨fun c s hs => ?_, fun s => ⟨fun h => if_pos ((allOut_iff s).mpr h), fun c hd ho => if_neg fun h => ?_⟩⟩
  · intro x put replied enable disable still
    have henable : enable = _ := exec_cylinderEnable hs
    have hdisable : disable = _ := exec_cylinderDisable hs
    rw [henable, hdisable]
    refine ⟨fun hx => congrArg _ ?_, fun hx => ⟨fun hp => congrArg _ ?_, fun hp => congrArg _ ?_, fun hp => congrArg _ ?_,
      fun hp => congrArg _ ?_⟩, fun hx => ⟨congrArg _ ?_, fun hr => congrArg _ ?_, fun hr => congrArg _ ?_⟩,
      fun hx => congrArg _ ?_, fun t => ?_⟩
    · exact acceptCylinder_tested (disableCylinder c) c _ s (put (still .disabled)) (disableCylinder_still (s := s.withReply ⟨0x80, [0x0B]⟩) hx) rfl
    · exact acceptCylinder_report (disableCylinder c) c _ s (put { x with disablePending := true })
        ((disableCylinder_busy (s := s.withReply ⟨0x80, [0x0B]⟩) hx).trans (if_neg (ne_true_of_eq_false hp))) rfl
    · exact acceptCylinder_plain (disableCylinder c) c s s ((disableCylinder_busy (s := s.withReply ⟨0x80, [0x0B]⟩) hx).trans (if_pos hp)) rfl
    · exact acceptCylinder_report (enableCylinder c) c _ s (put { x with disablePending := false })
        ((enableCylinder_busy (s := s.withReply ⟨0x80, [0x0B]⟩) hx).trans (if_pos hp)) rfl
    · exact acceptCylinder_plain (enableCylinder c) c s s
        ((enableCylinder_busy (s := s.withReply ⟨0x80, [0x0B]⟩) hx).trans (if_neg (ne_true_of_eq_false hp))) rfl
    · exact acceptCylinder_plain (disableCylinder c) c s s (disableCylinder_out (s := s.withReply ⟨0x80, [0x0B]⟩) hx) rfl
    · exact acceptCylinder_tested (enableCylinder c) c _ s (put { still .idle with failures := 0 })
        ((enableCylinder_out (s := s.withReply ⟨0x80, [0x0B]⟩) hx).trans (congrArg (fun t => allOutTest (cylinderReport c _ t))
          (if_neg (ne_true_of_eq_false hr)))) rfl
    · exact acceptCylinder_tested (enableCylinder c) c _ s (put { still .refilling with
          failures := 0, refillValve := true, refillTimer := .running (refillTimeout s.config) })
        ((enableCylinder_out (s := s.withReply ⟨0x80, [0x0B]⟩) hx).trans (congrArg (fun t => allOutTest (cylinderReport c _ t)) (if_pos hr))) rfl
    · exact acceptCylinder_plain (enableCylinder c) c s s (enableCylinder_still (s := s.withReply ⟨0x80, [0x0B]⟩) hx) rfl
    · exact fun hp hf => cylinderReplyItems_eq t c hp hf
  · rcases (allOut_iff s).mp h c with h | h
    · exact hd h
    · exact ho h

end Sys2Proof.Machine
end

section
/-! PROOF. HEAD RESET by cycle state (spec/02 R29, spec/04 R79, spec/05 R95). -/

namespace Sys2Proof.Machine

/-- The head's own items after a HEAD RESET, its cycle state apart (spec/02 R29). -/
def Head.wasReset (x : Head) : Head :=
  { x.resetItems with service := .zeroing, record := x.record.map fun r => r.withReason .headReset }

/-- The act of HEAD RESET on a head whose cycle is not WAITING once its discharge has been ended (spec/02 R29). -/
theorem resetHead_settled {h : Fin 16} {s u : State} (hu : resetPairing h s = u) (hw : s.heads[h].cycle ≠ .waiting)
    (hc : u.heads[h].cycle ≠ .waiting) : resetHead h s = headReport h .resetRequest (
      if s.heads[h].cycle = .probing then enterProbed h ((withdraw h u).modHead h Head.wasReset)
      else (withdraw h u).modHead h Head.wasReset) := by
  have hmarked : addReason h .headReset (withdraw h (u.modHead h Head.resetItems)) =
      (withdraw h u).modHead h fun x => { x.resetItems with record := x.record.map fun r => r.withReason .headReset } := by
    have hcyc : ((withdraw h u).modHead h Head.resetItems).heads[h].cycle ≠ .waiting := by
      rw [State.modHead_self]; exact hc
    rw [withdraw_modHead, addReason_settled _ _ _ hcyc, State.modHead_modHead]
    rfl
  simp only [resetHead, hu, if_neg hw, hmarked, State.modHead_modHead]
  rfl

theorem resetHead_still {h : Fin 16} {s u : State} (hu : resetPairing h s = u) (hw : s.heads[h].cycle ≠ .waiting)
    (hc : u.heads[h].cycle ≠ .waiting) (hn : s.heads[h].cycle ≠ .probing) :
    resetHead h s = headReport h .resetRequest ((withdraw h u).modHead h Head.wasReset) :=
  (resetHead_settled hu hw hc).trans (congrArg _ (if_neg hn))

/-- A PROBING head is PROBED by its reset (spec/04 R79). -/
theorem resetHead_probing {h : Fin 16} {s : State} (hp : s.heads[h].paired = none) (hc : s.heads[h].cycle = .probing) :
    resetHead h s = headReport h .resetRequest (enterProbed h ((withdraw h s).modHead h Head.wasReset)) := by
  have hw : s.heads[h].cycle ≠ .waiting := by rw [hc]; exact Cycle.noConfusion
  have hu : resetPairing h s = s := by unfold resetPairing; rw [hp]
  exact (resetHead_settled hu hw hw).trans (congrArg _ (if_pos hc))

/-- The act of HEAD RESET on a WAITING head (spec/02 R29). -/
theorem resetHead_waiting {h : Fin 16} {s : State} (hp : s.heads[h].paired = none) (hw : s.heads[h].cycle = .waiting) :
    resetHead h s = headReport h .resetRequest ((withdraw h s).modHead h fun x =>
      { x.wasReset with cycle := .charged, pendingResult := none }) := by
  have hu : resetPairing h s = s := by unfold resetPairing; rw [hp]
  have hmarked : addReason h .headReset ((withdraw h (s.modHead h Head.resetItems)).modHead h fun x =>
      { x with cycle := .charged, pendingResult := none }) = (withdraw h s).modHead h fun x =>
        { x.resetItems with
          cycle := .charged, pendingResult := none, record := x.record.map fun r => r.withReason .headReset } := by
    have hcyc : ((withdraw h s).modHead h fun x =>
        { x.resetItems with cycle := .charged, pendingResult := none }).heads[h].cycle ≠ .waiting := by
      rw [State.modHead_self]; exact Cycle.noConfusion
    rw [withdraw_modHead, State.modHead_modHead, addReason_settled _ _ _ hcyc, State.modHead_modHead]
    rfl
  have hnot : s.heads[h].cycle ≠ .probing := by rw [hw]; exact Cycle.noConfusion
  simp only [resetHead, hu, if_pos hw, if_neg hnot, hmarked, State.modHead_modHead]
  rfl

theorem resetPairing_none {h : Fin 16} {s : State} (hp : s.heads[h].paired = none) : resetPairing h s = s := by
  unfold resetPairing; rw [hp]

theorem resetPairing_some {h : Fin 16} {c : Fin 4} {s : State} (hp : s.heads[h].paired = some c)
    (hd : s.cylinders[c].state = .discharging) (ho : s.cylinders[c].owner = some h) :
    resetPairing h s = (s.modCyl c (Cylinder.discharged s.config .headReset)).modHead h (Head.discharged c) := by
  unfold resetPairing
  rw [hp]
  exact endDischarge_owned .headReset hd ho

theorem enterProbed_closed {h : Fin 16} {s : State} (hw : s.heads[h].window = .notOpen) :
    enterProbed h s = s.modHead h fun x => { x with cycle := .probed } := if_pos hw

theorem enterProbed_open {h : Fin 16} {s : State} (hw : s.heads[h].window ≠ .notOpen) :
    enterProbed h s = chargeDecision h (s.modHead h fun x => { x with cycle := .probed }) := if_neg hw

/-- Settles O34: the act on the state that already holds the reply, by cycle state. -/
theorem headIsReset : Obligations.HeadIsReset := by
  intro h s hs x y put replied reset
  have hreset : reset = _ := exec_headReset hs
  rw [hreset]
  have hy : x.wasReset = y := rfl
  refine ⟨fun hp hw hn => congrArg _ ?_, fun hp hw => congrArg _ ?_, fun c hp hc hd ho => ?_,
    fun hp hc hwin => congrArg _ ?_, fun hp hc hwin => ?_⟩
  · refine acceptHead_report (resetHead h) h _ s (put y) ?_ rfl
    exact (resetHead_still (s := s.withReply ⟨0x80, [0x0A]⟩) (resetPairing_none hp) hw hw hn).trans rfl
  · refine acceptHead_report (resetHead h) h _ s (put { y with cycle := .charged, pendingResult := none }) ?_ rfl
    exact (resetHead_waiting (s := s.withReply ⟨0x80, [0x0A]⟩) hp hw).trans rfl
  · intro t
    refine congrArg _ (acceptHead_report (resetHead h) h _ s _ ?_ rfl)
    have hw : x.cycle ≠ .waiting := by rw [hc]; exact Cycle.noConfusion
    have hn : x.cycle ≠ .probing := by rw [hc]; exact Cycle.noConfusion
    have hcyc : (((s.withReply ⟨0x80, [0x0A]⟩).modCyl c (Cylinder.discharged s.config .headReset)).modHead h
        (Head.discharged c)).heads[h].cycle ≠ .waiting := by
      rw [State.modHead_self]; exact Cycle.noConfusion
    refine (resetHead_still (s := s.withReply ⟨0x80, [0x0A]⟩) (resetPairing_some hp hd ho) hw hcyc hn).trans ?_
    rw [withdraw_modHead, State.modHead_modHead]
    rfl
  · refine acceptHead_report (resetHead h) h _ s (put { y with cycle := .probed }) ?_ rfl
    have hwin' : ((withdraw h (s.withReply ⟨0x80, [0x0A]⟩)).modHead h Head.wasReset).heads[h].window = .notOpen := by
      rw [State.modHead_self]; exact hwin
    rw [resetHead_probing (s := s.withReply ⟨0x80, [0x0A]⟩) hp hc, enterProbed_closed hwin', State.modHead_modHead]
    rfl
  · intro u
    have hwin' : ((withdraw h (s.withReply ⟨0x80, [0x0A]⟩)).modHead h Head.wasReset).heads[h].window ≠ .notOpen := by
      rw [State.modHead_self]; exact hwin
    have hact : resetHead h (s.withReply ⟨0x80, [0x0A]⟩) = u := by
      rw [resetHead_probing (s := s.withReply ⟨0x80, [0x0A]⟩) hp hc, enterProbed_open hwin', State.modHead_modHead]
      rfl
    rw [← hact]
    rfl

end Sys2Proof.Machine
end

section
/-! PROOF. The checks of the figures the host loads, in their order, and LOAD GAS TABLE and LOAD RECIPE (spec/06 R109, R119,
spec/09 R153 to R155, R162). -/

namespace Sys2Proof.Machine

/-! ## Checks in their order -/

theorem require_of_true {ok : Bool} (h : ok = true) (code : RefusalCode) (f : Nat) : require ok code f = none := if_pos h

theorem require_of_false {ok : Bool} (h : ok = false) (code : RefusalCode) (f : Nat) : require ok code f = some (code, f) :=
  if_neg (ne_true_of_eq_false h)

/-- Checks that pass leave the decision to those behind them. -/
theorem firstFailure_past {a : List Check} (b : List Check) (h : firstFailure a = none) :
    firstFailure (a ++ b) = firstFailure b := by
  rw [firstFailure_append, h]

/-- A check that fails decides whatever stands behind it. -/
theorem firstFailure_before {a : List Check} (b : List Check) {r : RefusalCode × Nat} (h : firstFailure a = some r) :
    firstFailure (a ++ b) = some r := by
  rw [firstFailure_append, h]

/-- The values of every field, written in field order, are the whole record. -/
theorem writeFields_all {n : Nat} (v x : Vector Nat n) : writeFields (List.range n) v.toList x = v := by
  ext f hf
  have hnamed := writeFields_named (List.range n) v.toList x List.nodup_range f f v[f] (by simp [hf]) (by simp [hf]) hf
  simpa [hf] using hnamed

/-! ## LOAD GAS TABLE -/

theorem gasTableOf_toList (p : Vector Nat 17) : gasTableOf p.toList = ⟨p⟩ :=
  congrArg GasTable.mk (writeFields_all p _)

/-- The range check of the i-th point. -/
theorem pointCheck_at (p : Vector Nat 17) (i : Fin 17) :
    (p.toList.zipIdx.map fun x => require (decide (x.1 ≤ densityLimit)) .outOfRange x.2)[i.val]? =
      some (require (decide (p[i] ≤ densityLimit)) .outOfRange i.val) := by
  simp

/-- Points within their range pass the range checks. -/
theorem pointChecks_pass (p : Vector Nat 17) (h : ∀ i : Fin 17, p[i] ≤ 65000) :
    firstFailure (p.toList.zipIdx.map fun x => require (decide (x.1 ≤ densityLimit)) .outOfRange x.2) = none := by
  refine (firstFailure_none _).mpr fun c hc => ?_
  obtain ⟨n, hn⟩ := List.getElem?_of_mem hc
  have hlt : n < 17 := by simpa using (List.getElem?_eq_some_iff.mp hn).1
  rw [pointCheck_at p ⟨n, hlt⟩] at hn
  rw [← Option.some.inj hn]
  exact require_of_true (decide_eq_true (h ⟨n, hlt⟩)) _ _

/-- The rising check of a point and the next. -/
theorem risingChecks_at (ps : List Nat) (k n a b : Nat) (ha : ps[n]? = some a) (hb : ps[n + 1]? = some b) :
    (risingChecks k ps)[n]? = some (require (decide (a < b)) .badField (k + n + 1)) := by
  induction ps generalizing k n with
  | nil => simp at ha
  | cons x ps ih =>
    cases ps with
    | nil => simp at hb
    | cons y ps =>
      cases n with
      | zero =>
        obtain rfl : x = a := by simpa using ha
        obtain rfl : y = b := by simpa using hb
        rfl
      | succ n =>
        have h := ih (k + 1) n (by simpa using ha) (by simpa using hb)
        rw [show k + (n + 1) + 1 = k + 1 + n + 1 by omega]
        simpa [risingChecks] using h

theorem risingChecks_length (ps : List Nat) (k : Nat) : (risingChecks k ps).length = ps.length - 1 := by
  induction ps generalizing k with
  | nil => rfl
  | cons x ps ih =>
    cases ps with
    | nil => rfl
    | cons y ps => simp [risingChecks, ih]

/-- The rising check of the i-th point of a table and the next. -/
theorem risingCheck_at (p : Vector Nat 17) (i : Fin 16) :
    (risingChecks 0 p.toList)[i.val]? =
      some (require (decide (p[i.val]'(by omega) < p[i.val + 1]'(by omega))) .badField (i.val + 1)) := by
  have h := risingChecks_at p.toList 0 i.val (p[i.val]'(by omega)) (p[i.val + 1]'(by omega)) (by simp) (by simp)
  rwa [Nat.zero_add] at h

/-- The check of a rising check's place. -/
theorem risingCheck_of_get {p : Vector Nat 17} {n : Nat} {c : Check} (h : (risingChecks 0 p.toList)[n]? = some c) :
    ∃ hn : n < 16, c = require (decide (p[n]'(by omega) < p[n + 1]'(by omega))) .badField (n + 1) := by
  have hlt : n < 16 := by simpa [risingChecks_length] using (List.getElem?_eq_some_iff.mp h).1
  rw [risingCheck_at p ⟨n, hlt⟩] at h
  exact ⟨hlt, (Option.some.inj h).symm⟩

/-- A table in range that rises passes its checks (spec/06 R109). -/
theorem gasTableCheck_pass (p : Vector Nat 17) (h : GasTableSafe ⟨p⟩) : gasTableCheck p.toList = none := by
  obtain ⟨hrange, hrise⟩ := h
  refine (firstFailure_past _ (pointChecks_pass p hrange)).trans ((firstFailure_none _).mpr fun c hc => ?_)
  obtain ⟨n, hn⟩ := List.getElem?_of_mem hc
  obtain ⟨hlt, rfl⟩ := risingCheck_of_get hn
  exact require_of_true (decide_eq_true (hrise ⟨n, hlt⟩)) _ _

/-- The first point above 65,000 decides. -/
theorem gasTableCheck_outOfRange (p : Vector Nat 17) (i : Fin 17) (hi : 65000 < p[i])
    (hb : ∀ j : Fin 17, j < i → p[j] ≤ 65000) : gasTableCheck p.toList = some (.outOfRange, i.val) := by
  refine firstFailure_before _ (firstFailure_at _ i.val _ ?_ fun m c hm hc => ?_)
  · exact (pointCheck_at p i).trans (congrArg some (require_of_false (decide_eq_false (Nat.not_le.mpr hi)) _ _))
  · rw [pointCheck_at p ⟨m, by omega⟩] at hc
    rw [← Option.some.inj hc]
    exact require_of_true (decide_eq_true (hb _ hm)) _ _

/-- With every point in range the first that is not above the one before it decides. -/
theorem gasTableCheck_notRising (p : Vector Nat 17) (i : Fin 16) (hr : ∀ j : Fin 17, p[j] ≤ 65000)
    (hi : p[i.val + 1]'(by omega) ≤ p[i.val]'(by omega))
    (hb : ∀ j : Fin 16, j < i → p[j.val]'(by omega) < p[j.val + 1]'(by omega)) :
    gasTableCheck p.toList = some (.badField, i.val + 1) := by
  refine (firstFailure_past _ (pointChecks_pass p hr)).trans (firstFailure_at _ i.val _ ?_ fun m c hm hc => ?_)
  · rw [risingCheck_at, require_of_false (decide_eq_false (Nat.not_lt.mpr hi))]
  · obtain ⟨hlt, rfl⟩ := risingCheck_of_get hc
    exact require_of_true (decide_eq_true (hb ⟨m, hlt⟩ hm)) _ _

/-- A gas table that fails a check is refused. -/
theorem handleLoadGasTable_refused (points : List Nat) (s : State) (code : RefusalCode) (f : Nat) (hin : inProcess s = 0)
    (h : gasTableCheck points = some (code, f)) :
    handleLoadGasTable points s = s.withReply ⟨0x81, [0x03, BitVec.ofNat 8 (refusalNumber code), BitVec.ofNat 8 f]⟩ := by
  simp only [handleLoadGasTable, h]
  exact if_neg (not_not.mpr hin)

/-- Settles O25: with no can in process the first check that fails is the refusal; where none does, the new points stand and
the right to adapt is taken from every shot in flight at once. -/
theorem gasTableIsReplaced : Obligations.GasTableIsReplaced := by
  intro p s hs hp refused t
  have hwf : (Request.loadGasTable p.toList).wf = true := by
    refine valuesFit_recipeWidth _ _ (by simp) fun v hv => ?_
    obtain ⟨f, hf, rfl⟩ := List.getElem_of_mem hv
    exact hp ⟨f, by simpa using hf⟩
  have hx : exec (.loadGasTable p.toList) s = .next (handleLoadGasTable p.toList s) := exec_ready _ _ s rfl hwf hs
  refine ⟨fun hin hsafe => hx.trans (congrArg _ ?taken), fun hin => hx.trans (congrArg _ (if_pos hin)),
    fun i hin hi hb => hx.trans (congrArg _ ?range), fun i hin hr hi hb => hx.trans (congrArg _ ?rise)⟩
  case taken =>
    simp only [handleLoadGasTable, gasTableCheck_pass p hsafe, gasTableOf_toList, loseRight, foldl_modCyl, if_true]
    exact if_neg (not_not.mpr hin)
  case range => exact handleLoadGasTable_refused _ s _ _ hin (gasTableCheck_outOfRange p i hi hb)
  case rise => exact handleLoadGasTable_refused _ s _ _ hin (gasTableCheck_notRising p i hr hi hb)

/-! ## LOAD RECIPE -/

/-- A legal recipe passes its checks (spec/09 R154, R155). -/
theorem recipeCheck_safe (r : Recipe) (h : RecipeSafe r) : recipeCheck r = none := by
  rw [recipeCheck_of_ranges r h.ranges]
  simp [crossChecks, require, firstFailure, h.fill, h.dose, h.depth, h.noCup, h.diameter, h.build, h.floor, h.tolerance]

/-- The lowest field out of its range decides (spec/09 R154). -/
theorem recipeCheck_outOfRange (r : Recipe) (f : Fin 25)
    (hf : ¬(recipeRanges[f].1 ≤ r.fields[f] ∧ r.fields[f] ≤ recipeRanges[f].2))
    (hb : ∀ g : Fin 25, g < f → recipeRanges[g].1 ≤ r.fields[g] ∧ r.fields[g] ≤ recipeRanges[g].2) :
    recipeCheck r = some (.outOfRange, f.val) := by
  refine firstFailure_before _ (rangeChecks_fail _ _ _ f.val f.val r.fields[f] (by simp) (by simp) (fun h => hf ?_) ?_)
  · exact h _ (by simp)
  · intro m g v hm hg hv x hx
    obtain ⟨hn, rfl⟩ := List.getElem?_eq_some_iff.mp hg
    obtain ⟨hlt, rfl⟩ := List.getElem?_eq_some_iff.mp hv
    have hm25 : m < 25 := by omega
    have hx : recipeRanges[m] = x := by simpa [hm25] using hx
    simpa [hx] using hb ⟨m, hm25⟩ hm

/-- With no slot PENDING the lower FREE slot is written (spec/09 R153). -/
theorem loadSlot_free (s : State) (i : Fin 2) (hp : ∀ j : Fin 2, s.slots[j].state ≠ .pending) (hi : s.slots[i].state = .free)
    (hb : ∀ j : Fin 2, j < i → s.slots[j].state ≠ .free) : loadSlot s = some i := by
  simp only [loadSlot, pendingSlot_none s hp]
  change List.find? _ [0, 1] = _
  obtain rfl | rfl : i = 0 ∨ i = 1 := by omega
  · exact List.find?_cons_of_pos (by simpa using hi)
  · refine (List.find?_cons_of_neg (by simpa using hb 0 (by decide))).trans (List.find?_cons_of_pos (by simpa using hi))

/-- With no slot PENDING and none FREE there is no slot to write. -/
theorem loadSlot_none (s : State) (h : ∀ j : Fin 2, s.slots[j].state ≠ .pending ∧ s.slots[j].state ≠ .free) :
    loadSlot s = none := by
  simp only [loadSlot, pendingSlot_none s fun j => (h j).1]
  exact List.find?_eq_none.mpr fun j _ => by simpa using (h j).2

/-- With no slot to write the load is refused BUSY (spec/09 R153). -/
theorem handleLoadRecipe_busy (r : Recipe) (s : State) (h : recipeCheck r = none) (hn : loadSlot s = none) :
    handleLoadRecipe r.fields.toList s = s.withReply ⟨0x81, [0x04, 6, 255]⟩ := by
  simp only [handleLoadRecipe, recipeOf_toList, h, hn]
  rfl

/-- Settles O26: the record's checks decide first, then the slot: PENDING, else the lower FREE one, else BUSY. -/
theorem recipeIsLoaded : Obligations.RecipeIsLoaded := by
  intro r s hs hr into
  have hfit : valuesFit recipeWidth (List.range 25) r.fields.toList = true := by
    refine valuesFit_recipeWidth _ _ (by simp) fun v hv => ?_
    obtain ⟨f, hf, rfl⟩ := List.getElem_of_mem hv
    exact hr ⟨f, by simpa using hf⟩
  have hx := exec_loadRecipe_ready _ s hs hfit
  have hinto : ∀ i : Fin 2, RecipeSafe r → loadSlot s = some i → into i := fun i hsafe hi =>
    hx.trans (congrArg _ (handleLoadRecipe_loaded r s i (recipeCheck_safe r hsafe) hi))
  refine ⟨fun i hsafe hi ho => hinto i hsafe (loadSlot_pending s i hi ho),
    fun i hsafe hp hi hb => hinto i hsafe (loadSlot_free s i hp hi hb),
    fun hsafe hn => hx.trans (congrArg _ (handleLoadRecipe_busy r s (recipeCheck_safe r hsafe) (loadSlot_none s hn))),
    fun f hf hb => hx.trans (congrArg _ (handleLoadRecipe_refused r s _ _ (recipeCheck_outOfRange r f hf hb)))⟩

end Sys2Proof.Machine
end

section
/-! PROOF. CONFIGURE and AMEND RECIPE: masked writes and their checks in order (spec/09 R156, R161). -/

namespace Sys2Proof.Machine

/-! ## Masked writes -/

theorem maskFields_length_le {w : Nat} (n : Nat) (mask : BitVec w) : (maskFields n mask).length ≤ n := by
  simpa [maskFields] using List.length_filter_le (fun f => mask.getLsbD f) (List.range n)

/-- A masked write is the one record whose named fields hold the values and whose other fields stand. -/
theorem writeFields_eq {n w : Nat} (mask : BitVec w) (values : List Nat) (x y : Vector Nat n)
    (hl : values.length = (maskFields n mask).length)
    (hnamed : ∀ k f v : Nat, (maskFields n mask)[k]? = some f → values[k]? = some v → y.toList[f]? = some v)
    (hother : ∀ f : Nat, mask.getLsbD f = false → y.toList[f]? = x.toList[f]?) :
    writeFields (maskFields n mask) values x = y := by
  have key : ∀ f : Nat, f < n → (writeFields (maskFields n mask) values x).toList[f]? = y.toList[f]? := by
    intro f hf
    by_cases hm : mask.getLsbD f = true
    · obtain ⟨k, hk⟩ := List.getElem?_of_mem ((mem_maskFields n mask f).mpr ⟨hf, hm⟩)
      have hlt : k < values.length := hl ▸ (List.getElem?_eq_some_iff.mp hk).1
      have hv : values[k]? = some values[k] := List.getElem?_eq_getElem hlt
      rw [writeFields_named _ _ x (maskFields_nodup n mask) k f _ hk hv hf, hnamed k f _ hk hv]
    · have hout : f ∉ maskFields n mask := fun h => hm ((mem_maskFields n mask f).mp h).2
      rw [writeFields_other _ _ x f hout, hother f (by simpa using hm)]
  ext f hf
  simpa [hf] using key f hf

/-- A mask of no field writes nothing. -/
theorem writeFields_nil {n : Nat} (values : List Nat) (x : Vector Nat n) : writeFields [] values x = x := by
  cases values <;> rfl

/-! ## AMEND RECIPE -/

theorem slotRecipe_of_some {s : State} {i : Fin 2} {r : Recipe} (h : s.slots[i].recipe = some r) : slotRecipe s i = r := by
  rw [slotRecipe, h, Option.getD_some]

/-- The fields of a legal recipe stand in the reply in two bytes each (spec/11 R188). -/
theorem recipeFields_items (r : Recipe) (h : RecipeSafe r) :
    r.fields.toList.flatMap (item 2) = r.fields.toList.flatMap fun v => leBytes 2 v := by
  refine List.flatMap_congr fun v hv => ?_
  obtain ⟨f, hf, rfl⟩ := List.getElem_of_mem hv
  have hf : f < 25 := by simpa using hf
  have hlt : r.fields.toList[f] < 65536 := (h.ranges ⟨f, hf⟩).2.trans_lt (recipeRanges_fit ⟨f, hf⟩)
  rw [item, if_pos (by simpa using hlt)]

/-- The data of an accepted AMEND: the slot and its 25 fields as they stand. -/
def amendReply (i : Fin 2) (r : Recipe) : Frame :=
  ⟨0x80, [0x05, BitVec.ofNat 8 i.val] ++ r.fields.toList.flatMap fun v => leBytes 2 v⟩

/-- The reply of AMEND from a state whose slot holds a legal recipe. -/
theorem accept_amended (t : State) (i : Fin 2) (r : Recipe) (hr : t.slots[i].recipe = some r) (h : RecipeSafe r) :
    accept 0x05 (item 1 i.val ++ (slotRecipe t i).fields.toList.flatMap (item 2)) t = t.withReply (amendReply i r) := by
  rw [slotRecipe_of_some hr, recipeFields_items r h, item_one_of_lt (by omega)]
  rfl

/-- A mask with a bit that names no field is refused first. -/
theorem handleAmendRecipe_badMask (mask : BitVec 32) (values : List Nat) (s : State) (code : RefusalCode) (f : Nat)
    (h : maskCheck 25 mask = some (code, f)) :
    handleAmendRecipe mask values s = s.withReply ⟨0x81, [0x05, BitVec.ofNat 8 (refusalNumber code), BitVec.ofNat 8 f]⟩ := by
  simp only [handleAmendRecipe, h]
  rfl

theorem handleAmendRecipe_noSlot (mask : BitVec 32) (values : List Nat) (s : State) (h : maskCheck 25 mask = none)
    (hp : pendingSlot s = none) : handleAmendRecipe mask values s = s.withReply ⟨0x81, [0x05, 5, 255]⟩ := by
  simp only [handleAmendRecipe, h, hp]
  rfl

/-- A mask of no field is accepted and writes nothing. -/
theorem handleAmendRecipe_empty (mask : BitVec 32) (values : List Nat) (s : State) (i : Fin 2) (r : Recipe)
    (h : maskCheck 25 mask = none) (hp : pendingSlot s = some i) (he : maskFields 25 mask = [])
    (hr : s.slots[i].recipe = some r) (hsafe : RecipeSafe r) :
    handleAmendRecipe mask values s = s.withReply (amendReply i r) := by
  simp only [handleAmendRecipe, h, hp, he]
  exact accept_amended s i r hr hsafe

/-- A record that fails its checks as it would stand is refused. -/
theorem handleAmendRecipe_refused (mask : BitVec 32) (values : List Nat) (s : State) (i : Fin 2) (r' : Recipe)
    (code : RefusalCode) (f : Nat) (h : maskCheck 25 mask = none) (hp : pendingSlot s = some i) (he : maskFields 25 mask ≠ [])
    (hw : writeFields (maskFields 25 mask) values (slotRecipe s i).fields = r'.fields) (hc : recipeCheck r' = some (code, f)) :
    handleAmendRecipe mask values s = s.withReply ⟨0x81, [0x05, BitVec.ofNat 8 (refusalNumber code), BitVec.ofNat 8 f]⟩ := by
  simp only [handleAmendRecipe, h, hp, hw, hc]
  exact if_neg (by simpa using he)

/-- A record that passes is written whole. -/
theorem handleAmendRecipe_written (mask : BitVec 32) (values : List Nat) (s : State) (i : Fin 2) (r' : Recipe)
    (h : maskCheck 25 mask = none) (hp : pendingSlot s = some i) (he : maskFields 25 mask ≠ [])
    (hw : writeFields (maskFields 25 mask) values (slotRecipe s i).fields = r'.fields) (hsafe : RecipeSafe r') :
    handleAmendRecipe mask values s =
      State.withReply { s with slots := s.slots.set i { s.slots[i] with recipe := some r' } } (amendReply i r') := by
  simp only [handleAmendRecipe, h, hp, hw, recipeCheck_safe r' hsafe]
  exact (if_neg (by simpa using he)).trans
    (accept_amended { s with slots := s.slots.set i { s.slots[i] with recipe := some r' } } i r' (by simp) hsafe)

/-- Settles O28: the mask, the slot and the record as it would stand are checked in that order, and what the mask names
determines that record. -/
theorem recipeIsAmended : Obligations.RecipeIsAmended := by
  intro mask values s hs hfit done
  have hx : exec (.amendRecipe mask values) s = .next (handleAmendRecipe mask values s) :=
    exec_ready _ (.amendRecipe mask values) s rfl hfit hs
  refine ⟨fun f hf hm hb => hx.trans (congrArg _ (handleAmendRecipe_badMask mask values s _ _ (maskCheck_some 25 mask f hf hm hb))),
    fun hbits => ?_⟩
  have hmask := (maskCheck_none 25 mask).mpr hbits
  refine ⟨fun hn => hx.trans (congrArg _ (handleAmendRecipe_noSlot mask values s hmask (pendingSlot_none s hn))),
    fun i r r' hi ho hr hsafe hnamed hother => ?_⟩
  have hp := pendingSlot_some s i hi ho
  have hw : writeFields (maskFields 25 mask) values (slotRecipe s i).fields = r'.fields := by
    rw [slotRecipe_of_some hr]
    exact writeFields_eq mask values r.fields r'.fields (valuesFit_length _ _ _ hfit) hnamed hother
  have hsame : maskFields 25 mask = [] → r' = r := fun he => by
    rw [he, writeFields_nil, slotRecipe_of_some hr] at hw
    exact (congrArg Recipe.mk hw).symm
  have hrefused : ∀ (code : RefusalCode) (f : Nat), recipeCheck r' = some (code, f) → exec (.amendRecipe mask values) s =
      .next (s.withReply ⟨0x81, [0x05, BitVec.ofNat 8 (refusalNumber code), BitVec.ofNat 8 f]⟩) := fun code f hc => by
    have he : maskFields 25 mask ≠ [] := fun he => by
      rw [hsame he, recipeCheck_safe r hsafe] at hc
      exact absurd hc (by simp)
    exact hx.trans (congrArg _ (handleAmendRecipe_refused mask values s i r' code f hmask hp he hw hc))
  refine ⟨fun h0 => hx.trans (congrArg _ ?none), fun hsafe' => hx.trans (congrArg _ ?written),
    fun f hf hb => hrefused _ _ (recipeCheck_outOfRange r' f hf hb), ?cross⟩
  case none =>
    exact handleAmendRecipe_empty mask values s i r hmask hp (by rw [h0]; decide) hr hsafe
  case written =>
    by_cases he : maskFields 25 mask = []
    · have hset : { s with slots := s.slots.set i { s.slots[i] with recipe := some r' } } = s := by
        rw [hsame he, ← hr]
        exact congrArg (fun v => { s with slots := v }) (Vector.set_getElem_self _)
      rw [handleAmendRecipe_empty mask values s i r hmask hp he hr hsafe, hset, hsame he]
      rfl
    · exact handleAmendRecipe_written mask values s i r' hmask hp he hw hsafe'
  case cross =>
    intro hrange _ checks n p f hn hpf hb
    have hc : recipeCheck r' = some (.badField, f.toNat) :=
      (recipeCheck_of_ranges r' hrange).trans (crossChecks_fail r' n p f hn hpf hb)
    have h := hrefused _ _ hc
    rwa [BitVec.ofNat_toNat, BitVec.setWidth_eq] at h

/-! ## CONFIGURE -/

/-- With no can held and a mask that names fields alone, the values decide. -/
theorem configureCheck_values (s : State) (mask : BitVec 48) (hin : inProcess s = 0)
    (hm : maskCheck 41 mask = none) :
    firstFailure [require (decide (inProcess s = 0)) .wrongState noField, maskCheck 41 mask] = none := by
  rw [require_of_true (decide_eq_true hin), hm]
  rfl

/-- The reject distance is not among the fields, or the reject queue is empty. -/
theorem distanceCheck_pass (s : State) (mask : BitVec 48) (h : mask.getLsbD 34 = true → s.verdicts.rejects = []) :
    (!(mask.getLsbD 34 && !s.verdicts.rejects.isEmpty)) = true := by
  cases hm : mask.getLsbD 34 with
  | false => rfl
  | true => simp [h hm]

theorem distanceCheck_fail (s : State) (mask : BitVec 48) (h : ¬(mask.getLsbD 34 = true → s.verdicts.rejects = [])) :
    (!(mask.getLsbD 34 && !s.verdicts.rejects.isEmpty)) = false := by
  obtain ⟨hm, hr⟩ := Classical.not_imp.mp h
  simp [hm, hr]

/-- The check of the n-th angle and the next. -/
theorem stationChecks_at (c : MachineConfig) (n : Nat) (hn : n < 12) :
    (stationChecks c)[n]? = some (require (decide (c.fields.toList.getD n 0 < c.fields.toList.getD (n + 1) 0)) .badField (n + 1)) := by
  simp [stationChecks, hn]

theorem stationCheck_of_get {c : MachineConfig} {n : Nat} {x : Check} (h : (stationChecks c)[n]? = some x) :
    n < 12 ∧ x = require (decide (c.fields.toList.getD n 0 < c.fields.toList.getD (n + 1) 0)) .badField (n + 1) := by
  have hlt : n < 12 := by simpa [stationChecks] using (List.getElem?_eq_some_iff.mp h).1
  rw [stationChecks_at c n hlt] at h
  exact ⟨hlt, (Option.some.inj h).symm⟩

theorem stationChecks_pass (c : MachineConfig)
    (h : ∀ n : Nat, n < 12 → c.fields.toList.getD n 0 < c.fields.toList.getD (n + 1) 0) :
    firstFailure (stationChecks c) = none := by
  refine (firstFailure_none _).mpr fun x hx => ?_
  obtain ⟨n, hn⟩ := List.getElem?_of_mem hx
  obtain ⟨hlt, rfl⟩ := stationCheck_of_get hn
  exact require_of_true (decide_eq_true (h n hlt)) _ _

/-- The first angle not above the one before it decides (spec/01 R16). -/
theorem stationChecks_fail (c : MachineConfig) (n : Nat) (hlt : n < 12)
    (hb : ∀ m : Nat, m < n → c.fields.toList.getD m 0 < c.fields.toList.getD (m + 1) 0)
    (hn : ¬c.fields.toList.getD n 0 < c.fields.toList.getD (n + 1) 0) :
    firstFailure (stationChecks c) = some (.badField, n + 1) := by
  refine firstFailure_at _ n _ ?_ fun m x hm hx => ?_
  · rw [stationChecks_at c n hlt, require_of_false (decide_eq_false hn)]
  · obtain ⟨_, rfl⟩ := stationCheck_of_get hx
    exact require_of_true (decide_eq_true (hb m hm)) _ _

theorem handleConfigure_refused (mask : BitVec 48) (values : List Nat) (s : State) (code : RefusalCode) (f : Nat)
    (h : configureCheck s mask values = some (code, f)) :
    handleConfigure mask values s = s.withReply ⟨0x81, [0x02, BitVec.ofNat 8 (refusalNumber code), BitVec.ofNat 8 f]⟩ := by
  simp only [handleConfigure, h]
  rfl

theorem handleConfigure_written (mask : BitVec 48) (values : List Nat) (s : State) (h : configureCheck s mask values = none) :
    handleConfigure mask values s = State.withReply { s with config := configured s.config mask values }
      ⟨0x80, [0x02, BitVec.ofNat 8 (maskFields 41 mask).length]⟩ := by
  have hl : (maskFields 41 mask).length < 256 := (maskFields_length_le 41 mask).trans_lt (by decide)
  simp only [handleConfigure, h, item_one_of_lt hl]
  rfl

/-- Settles O24: the six checks stand one behind the other, each deciding where those before it pass. -/
theorem configureWritesNamedFields : Obligations.ConfigureWritesNamedFields := by
  intro mask values s hs hfit c noBadBit inRange allInRange distanceFree rising refused
  have hx : exec (.configure mask values) s = .next (handleConfigure mask values s) :=
    exec_ready _ (.configure mask values) s rfl hfit hs
  have hrefused : ∀ (code : RefusalCode) (f : Nat), configureCheck s mask values = some (code, f) →
      refused (BitVec.ofNat 8 (refusalNumber code)) (BitVec.ofNat 8 f) :=
    fun code f h => hx.trans (congrArg _ (handleConfigure_refused mask values s code f h))
  have past1 := fun hin hbits => configureCheck_values s mask hin ((maskCheck_none 41 mask).mpr hbits)
  have past2 := fun hin hbits (hr : allInRange) =>
    (firstFailure_past _ (past1 hin hbits)).trans ((rangeChecks_none configRanges _ values).mpr hr)
  have past3 := fun hin hbits hr (hd : distanceFree) => (firstFailure_past
    [require (!(mask.getLsbD 34 && !s.verdicts.rejects.isEmpty)) .wrongState 34] (past2 hin hbits hr)).trans
      ((congrArg (fun x => firstFailure [x]) (require_of_true (distanceCheck_pass s mask hd) _ _)))
  have past4 := fun hin hbits hr hd (ha : ∀ n : Nat, n < 12 → rising n) =>
    (firstFailure_past _ (past3 hin hbits hr hd)).trans (stationChecks_pass c ha)
  refine ⟨fun n f v hf hv => ?named, fun f hf => ?other, fun hin hbits hr hd ha ht => ?taken, fun hin => ?held,
    fun f hin hf hm hb => ?badBit, fun n f v hin hbits hf hv hrange hb => ?range, fun hin hbits hr hd => ?distance,
    fun n hn hin hbits hr hd hb hfall => ?angle, fun hin hbits hr hd ha ht => ?throttle⟩
  case named =>
    exact writeFields_named _ _ _ (maskFields_nodup 41 mask) n f v hf hv ((mem_maskFields 41 mask f).mp (List.mem_of_getElem? hf)).1
  case other =>
    exact writeFields_other _ _ _ f fun h => ne_true_of_eq_false hf ((mem_maskFields 41 mask f).mp h).2
  case taken =>
    refine hx.trans (congrArg _ (handleConfigure_written mask values s ((firstFailure_past _ (past4 hin hbits hr hd ha)).trans ?_)))
    exact congrArg (fun x => firstFailure [x]) (require_of_true (decide_eq_true ht) _ _)
  case held =>
    refine hrefused .wrongState noField (firstFailure_before _ (firstFailure_before _ (firstFailure_before _
      (firstFailure_before _ ?_))))
    exact congrArg (fun x => firstFailure [x, maskCheck 41 mask]) (require_of_false (decide_eq_false hin) _ _)
  case badBit =>
    refine hrefused .badField f (firstFailure_before _ (firstFailure_before _ (firstFailure_before _
      (firstFailure_before _ ?_))))
    rw [require_of_true (decide_eq_true hin), maskCheck_some 41 mask f hf hm hb]
    rfl
  case range =>
    exact hrefused .outOfRange f (firstFailure_before _ (firstFailure_before _ (firstFailure_before _
      ((firstFailure_past _ (past1 hin hbits)).trans (rangeChecks_fail configRanges _ values n f v hf hv hrange hb)))))
  case distance =>
    refine hrefused .wrongState 34 (firstFailure_before _ (firstFailure_before _
      ((firstFailure_past _ (past2 hin hbits hr)).trans ?_)))
    exact congrArg (fun x => firstFailure [x]) (require_of_false (distanceCheck_fail s mask hd) _ _)
  case angle =>
    exact hrefused .badField (n + 1) (firstFailure_before _
      ((firstFailure_past _ (past3 hin hbits hr hd)).trans (stationChecks_fail c n hn hb hfall)))
  case throttle =>
    refine hrefused .badField 30 ((firstFailure_past _ (past4 hin hbits hr hd ha)).trans ?_)
    exact congrArg (fun x => firstFailure [x]) (require_of_false (decide_eq_false (Nat.not_lt.mpr ht)) _ _)

end Sys2Proof.Machine
end

section
/-! PROOF. ACTIVATE RECIPE (spec/09 R157, spec/06 R118, R119), and the figures as they read back (spec/09 R160, R161). -/

namespace Sys2Proof.Machine

/-! ## The old ACTIVE slot -/

/-- A slot after another is activated: FREE if it was ACTIVE without cans, RETIRING if it was ACTIVE with some (spec/09
R157). -/
def Slot.retired (x : Slot) : Slot :=
  if x.state = .active ∧ x.refs = 0 then { x with state := .free, recipe := none }
  else if x.state = .active then { x with state := .retiring } else x

theorem Slot.retired_state (x : Slot) : x.retired.state ≠ .active := by
  unfold Slot.retired
  split_ifs with _ h
  · simp
  · simp
  · exact h

theorem Slot.retired_refs (x : Slot) : x.retired.refs = x.refs := by
  unfold Slot.retired
  split_ifs <;> rfl

theorem retireSlot_eq (o : Fin 2) (s : State) : retireSlot o s = { s with
    slots := s.slots.set o s.slots[o].retired
    allowances := if s.slots[o].state = .active ∧ s.slots[o].refs = 0 then s.allowances.set o #v[0, 0, 0, 0] else s.allowances } := by
  unfold retireSlot Slot.retired
  by_cases ha : s.slots[o].state = .active
  · rw [if_pos ha]
    by_cases hr : s.slots[o].refs = 0
    · rw [if_neg (by omega), if_pos ⟨ha, hr⟩, if_pos ⟨ha, hr⟩]
      rfl
    · rw [if_pos (by omega), if_neg (fun h => hr h.2), if_pos ha, if_neg (fun h => hr h.2)]
      rfl
  · rw [if_neg ha, if_neg (fun h => ha h.1), if_neg ha, if_neg (fun h => ha h.1)]
    exact congrArg (fun v => { s with slots := v }) (Vector.set_getElem_self _).symm

theorem otherSlot_of_ne {i o : Fin 2} (h : i ≠ o) : otherSlot i = o := by
  revert h; revert i o; decide

/-! ## The activation -/

/-- A cylinder's shot in flight loses its right to adapt where it names the activated slot (spec/06 R119). -/
def Cylinder.rightLost (i : Fin 2) (x : Cylinder) : Cylinder :=
  { x with shot := x.shot.map fun z => if z.slot = i then { z with mayAdapt := false } else z }

/-- The state after the activation of a slot, before the cylinders are tested for refill. -/
def State.activated (i o : Fin 2) (r : Recipe) (s : State) : State :=
  { s with
    slots := (s.slots.set o s.slots[o].retired).set i { s.slots[i] with state := .active }
    allowances := (if s.slots[o].state = .active ∧ s.slots[o].refs = 0 then s.allowances.set o #v[0, 0, 0, 0]
      else s.allowances).set i (Vector.replicate 4 (initialAllowance r))
    infeed := { s.infeed with withhold := { s.infeed.withhold with noRecipe := false } }
    cylinders := s.cylinders.map (Cylinder.rightLost i) }

theorem activate_eq {i o : Fin 2} {r : Recipe} (s : State) (hne : i ≠ o) (hr : s.slots[i].recipe = some r) :
    activate i s = refillBank (s.activated i o r) := by
  have hset : (s.slots.set o s.slots[o].retired)[i] = s.slots[i] := Vector.getElem_set_ne _ _ (by omega)
  simp only [activate, otherSlot_of_ne hne, retireSlot_eq, slotRecipe_of_some hr, State.modSlot, hset, loseRight,
    foldl_modCyl, decide_eq_true_eq]
  rfl

/-- What the test for refill makes of a cylinder after the activation: its shot does not decide it. -/
theorem rightLost_refilledBy (i : Fin 2) (b : Standby) (p1 : Nat) (cfg : MachineConfig) (x : Cylinder) :
    (x.rightLost i).refilledBy (decide (b = .active)) p1 cfg =
      if b = .active ∧ (x.state = .idle ∨ x.state = .ready ∧ (x.pressure : Int) < (p1 : Int) - (topUpBand cfg : Int)) then
        { x.rightLost i with state := .refilling, refillValve := true, dischargeValve := false
                             refillTimer := .running (refillTimeout cfg), retryTimer := .stopped, settleTimer := .stopped }
      else x.rightLost i := by
  by_cases hb : b = .active
  · rw [decide_eq_true hb, refilledBy_true]
    simp only [hb, true_and]
    rfl
  · rw [if_neg fun h => hb h.1]
    exact if_neg fun h => hb (of_decide_eq_true h.1)

/-- The activated slot is the ACTIVE one. -/
theorem activeSlot_activated (i o : Fin 2) (r : Recipe) (s : State) (hne : i ≠ o) :
    activeSlot (s.activated i o r) = some i := by
  have hi : (s.activated i o r).slots[i].state = .active := by simp [State.activated]
  cases hf : activeSlot (s.activated i o r) with
  | none => exact absurd hi (by simpa using List.find?_eq_none.mp hf i (List.mem_finRange i))
  | some j =>
    by_contra hj
    have hj : j = o := by
      have hji : j ≠ i := fun h => hj (congrArg some h)
      omega
    have hact : (s.activated i o r).slots[j].state = .active := by simpa using List.find?_some hf
    have ho : (s.activated i o r).slots[o].state = s.slots[o].retired.state :=
      congrArg Slot.state ((Vector.getElem_set_ne i.isLt _ (by omega)).trans (Vector.getElem_set_self _))
    subst hj
    exact Slot.retired_state _ (ho.symm.trans hact)

/-- The activated slot's recipe is the one it held. -/
theorem slotRecipe_activated {i : Fin 2} (o : Fin 2) {r : Recipe} (s : State) (hr : s.slots[i].recipe = some r) :
    slotRecipe (s.activated i o r) i = r :=
  slotRecipe_of_some (by simpa [State.activated] using hr)

/-- The bank after the activation: refilled in standby ACTIVE, as it stands in any other. -/
theorem activate_bank {i o : Fin 2} {r : Recipe} (s : State) (hne : i ≠ o) (hr : s.slots[i].recipe = some r) :
    activate i s = { s.activated i o r with
      cylinders := s.cylinders.map fun x => (x.rightLost i).refilledBy (decide (s.gas.standby = .active)) (fillPressure r) s.config } := by
  have hp : activeFillPressure (s.activated i o r) = some (fillPressure r) := by
    rw [activeFillPressure_some _ i (activeSlot_activated i o r s hne), slotRecipe_activated o s hr]
  have hc : refillCondition (s.activated i o r) = decide (s.gas.standby = .active) := by
    rw [refillCondition, activeSlot_activated i o r s hne]
    exact (Bool.true_and _).trans (beq_eq_decide ..)
  rw [activate_eq s hne hr, refillBank_eq _ _ hp, hc]
  simp only [State.activated, Vector.map_map]
  rfl

/-- Settles O29: no PENDING slot, an id that is not its recipe's, or the activation in one act. -/
theorem recipeIsActivated : Obligations.RecipeIsActivated := by
  intro id s hs hid
  have hx : exec (.activateRecipe id) s = .next (handleActivateRecipe id s) :=
    exec_ready _ (.activateRecipe id) s rfl (by simpa [Request.wf] using hid) hs
  refine ⟨fun hn => hx.trans (congrArg _ ?none), fun i o r hne hi ho hr => ⟨fun hid' => hx.trans (congrArg _ ?other), ?same⟩⟩
  case none =>
    simp only [handleActivateRecipe, pendingSlot_none s hn]
    rfl
  all_goals
    have hp : pendingSlot s = some i := pendingSlot_some s i hi fun j hj => by
      by_contra hji
      have hjo : j = o := by omega
      exact ho (hjo ▸ hj)
  case other =>
    simp only [handleActivateRecipe, hp, slotRecipe_of_some hr]
    exact if_pos hid'
  case same =>
    intro hid' hrefs freed old rows t
    refine hx.trans (congrArg _ ?_)
    have hact : activate i s = t := by
      rw [activate_bank s hne hr]
      simp only [rightLost_refilledBy]
      rfl
    have hold : t.slots[o] = old := (Vector.getElem_set_ne i.isLt _ (by omega)).trans (Vector.getElem_set_self _)
    have hrefs' : old.refs < 256 := (Slot.retired_refs s.slots[o]).symm ▸ hrefs
    simp only [handleActivateRecipe, hp, slotRecipe_of_some hr, hact, otherSlot_of_ne hne, hold]
    rw [item_one_of_lt (slotState_code_lt _), item_one_of_lt hrefs', item_one_of_lt (show i.val < 256 by omega)]
    exact if_neg (not_not.mpr hid')

/-! ## The figures read back -/

/-- Values within the widths of their fields fit them. -/
theorem valuesFit_of_lt (width : Nat → Nat) (fs vs : List Nat) (hl : vs.length = fs.length)
    (h : ∀ n f v : Nat, fs[n]? = some f → vs[n]? = some v → v < 256 ^ width f) : valuesFit width fs vs = true := by
  induction fs generalizing vs with
  | nil => rw [List.length_eq_zero_iff.mp hl]; rfl
  | cons f fs ih =>
    cases vs with
    | nil => simp at hl
    | cons v vs =>
      have h0 : v < 256 ^ width f := h 0 f v rfl rfl
      simp [valuesFit, h0, ih vs (by simpa using hl) fun n g w hg hw => h (n + 1) g w hg hw]

/-- Values that fit, each as an item of its field's width, are the bytes a request carries. -/
theorem flatMap_item_eq_valueBytes (width : Nat → Nat) (vs : List Nat) (k : Nat)
    (h : valuesFit width (List.range' k vs.length) vs = true) :
    ((vs.zipIdx k).flatMap fun x => item (width x.2) x.1) = valueBytes width (List.range' k vs.length) vs := by
  induction vs generalizing k with
  | nil => rfl
  | cons v vs ih =>
    obtain ⟨hv, hvs⟩ : v < 256 ^ width k ∧ valuesFit width (List.range' (k + 1) vs.length) vs = true := by
      simpa [valuesFit, List.range'_succ] using h
    rw [List.zipIdx_cons, List.flatMap_cons, ih (k + 1) hvs, item, if_pos hv]
    rfl

/-- In fields of one width the numbers of the fields do not matter. -/
theorem flatMap_item_two (vs : List Nat) : vs.flatMap (item 2) = vs.zipIdx.flatMap fun x => item (recipeWidth x.2) x.1 := by
  conv_lhs => rw [← List.zipIdx_map_fst 0 vs, List.flatMap_map]
  rfl

theorem valueBytes_length (width : Nat → Nat) (fs vs : List Nat) (hl : vs.length = fs.length) :
    (valueBytes width fs vs).length = (fs.map width).sum := by
  induction fs generalizing vs with
  | nil => rw [List.length_eq_zero_iff.mp hl]; rfl
  | cons f fs ih =>
    cases vs with
    | nil => simp at hl
    | cons v vs => simp [valueBytes, leBytes_length, ih vs (by simpa using hl)]

/-- Two-byte values as items are the bytes a request carries, and parse as those values. -/
theorem items_eq_valueBytes {n : Nat} (v : Vector Nat n) (h : ∀ f : Fin n, v[f] < 65536) :
    v.toList.flatMap (item 2) = valueBytes recipeWidth (List.range n) v.toList ∧
      valuesFit recipeWidth (List.range n) v.toList = true := by
  have hfit : valuesFit recipeWidth (List.range n) v.toList = true := by
    refine valuesFit_recipeWidth _ _ (by simp) fun x hx => ?_
    obtain ⟨f, hf, rfl⟩ := List.getElem_of_mem hx
    exact h ⟨f, by simpa using hf⟩
  have hb := flatMap_item_eq_valueBytes recipeWidth v.toList 0
  rw [Vector.length_toList, ← List.range_eq_range'] at hb
  exact ⟨(flatMap_item_two _).trans (hb hfit), hfit⟩

/-- No range of a configuration field passes what its width holds. -/
theorem configRanges_fit (f : Fin 41) : configRanges[f].2 < 256 ^ configWidth f.val := by
  revert f; decide

theorem config_valuesFit (c : MachineConfig) (h : ConfigSafe c) :
    valuesFit configWidth (List.range 41) c.fields.toList = true := by
  refine valuesFit_of_lt _ _ _ (by simp) fun n f v hf hv => ?_
  obtain ⟨hn, rfl⟩ := List.getElem?_eq_some_iff.mp hf
  obtain ⟨hlt, rfl⟩ := List.getElem?_eq_some_iff.mp hv
  have hn : n < 41 := by simpa using hn
  simpa using (h.1 ⟨n, hn⟩).2.trans_lt (configRanges_fit ⟨n, hn⟩)

/-- Settles O23: each answer is the bytes of its values in the widths of R185. -/
theorem figuresReadBack : Obligations.FiguresReadBack := by
  refine ⟨fun c hc => ?config, fun t ht => ?table, fun x r hx hr hrefs => ?recipe⟩
  case config =>
    have hfit := config_valuesFit c hc
    have hb : configItems c = valueBytes configWidth (List.range 41) c.fields.toList := by
      have h := flatMap_item_eq_valueBytes configWidth c.fields.toList 0
      rw [Vector.length_toList, ← List.range_eq_range'] at h
      exact h hfit
    rw [hb]
    refine ⟨parseValues_valueBytes _ _ _ hfit, (valueBytes_length _ _ _ (by simp)).trans (by decide)⟩
  case table =>
    obtain ⟨hb, hfit⟩ := items_eq_valueBytes t.points fun f => (ht.1 f).trans_lt (by decide)
    rw [gasTableItems, hb]
    exact ⟨parseValues_valueBytes _ _ _ hfit, (valueBytes_length _ _ _ (by simp)).trans (by decide)⟩
  case recipe =>
    obtain ⟨hb, hfit⟩ := items_eq_valueBytes r.fields fun f => (hr.ranges f).2.trans_lt (recipeRanges_fit f)
    have hitems : recipeItems x = [BitVec.ofNat 8 x.state.code, BitVec.ofNat 8 x.refs] ++
        valueBytes recipeWidth (List.range 25) r.fields.toList := by
      rw [recipeItems, hx, item_one_of_lt (slotState_code_lt _), item_one_of_lt hrefs, ← hb]
      rfl
    refine ⟨_, _, by rw [hitems]; rfl, ?_, ?_, ?_⟩
    · exact (BitVec.toNat_ofNat ..).trans (Nat.mod_eq_of_lt (slotState_code_lt _))
    · exact (BitVec.toNat_ofNat ..).trans (Nat.mod_eq_of_lt hrefs)
    · rw [hitems]
      exact parseValues_valueBytes _ _ _ hfit

end Sys2Proof.Machine
end

section
/-! PROOF. The contents of READ replies, item by item (spec/11 R178, R188). -/

namespace Sys2Proof.Machine

/-! ## Codes and presence -/

theorem probeStep_item (x : ProbeStep) : item 1 x.code = [BitVec.ofNat 8 (([.idle, .build, .hold] : List ProbeStep).idxOf x)] := by
  cases x <;> rfl

theorem window_item (x : Window) :
    item 1 x.code = [BitVec.ofNat 8 (([.notOpen, .isOpen, .closed] : List Window).idxOf x)] := by
  cases x <;> rfl

theorem standby_item (x : Standby) :
    item 1 x.code = [BitVec.ofNat 8 (([.active, .standby, .waking] : List Standby).idxOf x)] := by
  cases x <;> rfl

theorem slotState_item (x : SlotState) :
    item 1 x.code = [BitVec.ofNat 8 (([.free, .pending, .active, .retiring] : List SlotState).idxOf x)] := by
  cases x <;> rfl

theorem endCause_item (o : Option EndCause) : itemOr 1 (o.map EndCause.code) =
    [match o with
      | none => 0xFF
      | some c => BitVec.ofNat 8 (([.cutoff, .backflow, .chargeClose, .slip, .headReset] : List EndCause).idxOf c)] := by
  cases o with
  | none => rfl
  | some c => cases c <;> rfl

theorem returnState_item (o : Option ReturnState) : itemOr 1 (o.map fun r => r.service.code) =
    [match o with
      | none => 0xFF
      | some .enabled => 0
      | some .zeroing => 3] := by
  cases o with
  | none => rfl
  | some r => cases r <;> rfl

theorem timer_item (t : Timer) : item 1 t.code =
    [match t with
      | .running _ => 0
      | .expired => 1
      | .stopped => 2] := by
  cases t <;> rfl

theorem probeTimer_item (t : ProbeTimer) : item 1 t.code =
    [match t with
      | .build _ => 0
      | .hold _ => 1
      | .stopped => 2] := by
  cases t <;> rfl

/-- A value whose code is 0 for yes, as one byte of the opposite. -/
theorem item_zero_if (b : Bool) : item 1 (if b then 0 else 1) = [if !b then 1 else 0] := by
  cases b <;> rfl

theorem item_one_if (b : Bool) : item 1 (if b then 1 else 0) = [if b then 1 else 0] := by
  cases b <;> rfl

/-- The mark of the end pressure, absent with it. -/
theorem endOver_item (o : Option Nat) (b : Bool) : itemOr 1 (o.map fun _ => if b then 1 else 0) =
    [if o = none then 0xFF else if b then 1 else 0] := by
  cases o with
  | none => rfl
  | some n => exact item_one_if b

/-- A list whose entries take one byte each. -/
theorem flatMap_bytes {α : Type} (f : α → List Byte) (g : α → Byte) (h : ∀ a, f a = [g a]) (l : List α) :
    l.flatMap f = l.map g := by
  induction l with
  | nil => rfl
  | cons a l ih => rw [List.flatMap_cons, h, ih]; rfl

/-- A held can is a presence byte and the bytes of its record. -/
theorem record_items (x : Head) : flag x.holdsCan ++ (x.record.map recordBytes).getD [] =
    match x.record with
    | none => [(0 : Byte)]
    | some r => 1 :: recordBytes r := by
  rw [Head.holdsCan]
  cases x.record <;> rfl

theorem expectedTag_items (o : Option Nat) : expectedTagItem o =
    match o with
    | none => [0, 0, 0]
    | some t => 1 :: item 2 t := by
  cases o <;> rfl

theorem itemOr_eq (w : Nat) (o : Option Nat) : itemOr w o =
    match o with
    | none => List.replicate w 0xFF
    | some n => item w n := by
  cases o <;> rfl

theorem shotDose_items (o : Option Shot) : shotDoseItems o =
    match o with
    | none => []
    | some x => item 2 x.startDensity.toNat ++ item 2 x.volume ++ item 2 x.target.toNat ++ flag x.mayAdapt := by
  cases o <;> rfl

/-- READ HEAD by the head and its sensors: the items of its own, its record, the inspection, the window (spec/02 R46). -/
theorem headItems_eq (s : State) (h : Fin 16) (x : Head) (v : HeadSensors) (hx : s.heads[h] = x)
    (hv : s.sensors.heads[h] = v) : headItems s h =
      item 1 x.service.code ++ itemOr 1 (x.returnState.map fun r => r.service.code) ++ item 1 x.cycle.code ++
      itemOr 1 (x.paired.map Fin.val) ++ itemOr 1 (x.pendingResult.map Fin.val) ++ signedItem x.zeroOffset ++
      item 1 x.noFlowCount ++ item 1 x.zeroCount ++
      flag x.probeTimer.isRunning ++ flag x.dwellTimer.isRunning ++ flag x.flowTimer.isRunning ++
      flag x.headDown ++ flag x.collet ++ flag x.probeValve ++ flag x.ventValve ++ x.inlets.toList.flatMap flag ++
      flag x.holdsCan ++ (x.record.map recordBytes).getD [] ++
      (item 2 (clampReading 2000 v.pressure) ++
      item 2 (clampReading 2000 ((clampReading 2000 v.pressure : Nat) - x.zeroOffset)) ++
      item 2 (clampReading 9999 v.depth) ++ item 2 (clampReading 9999 v.diameter) ++
      item 1 x.probeStep.code ++ item 1 x.probeTimer.code ++ flag x.probeTimer.isRunning ++
      itemOr 2 (if x.probeStep = .hold then x.pa else none)) ++
      item 1 x.window.code ++ flag x.decided ++ flag x.flowDetected ++ itemOr 2 x.firstDwell := by
  subst hx hv
  rfl

/-! ## A READ at a ready link -/

/-- The ACCEPT of a READ (spec/11 R178). -/
theorem acceptRead_eq {code index : Nat} (contents : List Byte) (s : State) (hc : code < 256) (hi : index < 256) :
    acceptRead code index contents s =
      s.withReply ⟨0x80, [0x01, BitVec.ofNat 8 code, BitVec.ofNat 8 index] ++ contents⟩ := by
  rw [acceptRead, item_one_of_lt hc, item_one_of_lt hi]
  rfl

/-- Settles O22: each READ carries what its own layout lists. -/
theorem readsAnswerAndChangeNothing : Obligations.ReadsAnswerAndChangeNothing := by
  refine ⟨fun s hs => ⟨fun i hi => ⟨?status, ?config, ?table, ?allowances⟩, fun h v => ?head, fun c => ?cylinder, ?first, ?second,
    ?third, fun i => ?recipe⟩, fun w n => item_eq_wire, fun v => signedItem_eq_wire, setItem_bits, fun s => ?contents⟩
  case status =>
    exact (exec_ready (.readStatus i) (.read 0 i) s rfl (by simp [Request.wf, hi]) hs).trans
      (congrArg _ (acceptRead_eq _ s (by decide) hi))
  case config =>
    exact (exec_ready (.readConfig i) (.read 5 i) s rfl (by simp [Request.wf, hi]) hs).trans
      (congrArg _ (acceptRead_eq _ s (by decide) hi))
  case table =>
    exact (exec_ready (.readGasTable i) (.read 6 i) s rfl (by simp [Request.wf, hi]) hs).trans
      (congrArg _ (acceptRead_eq _ s (by decide) hi))
  case allowances =>
    exact (exec_ready (.readAllowances i) (.read 7 i) s rfl (by simp [Request.wf, hi]) hs).trans
      (congrArg _ (acceptRead_eq _ s (by decide) hi))
  case head =>
    exact (exec_ready (.readHead h.val v) (.read 1 h.val) s rfl (by simp [Request.wf]; omega) hs).trans
      (congrArg _ ((dif_pos h.isLt).trans (acceptRead_eq _ _ (by decide) (by omega))))
  case cylinder =>
    exact (exec_ready (.readCylinder c.val) (.read 2 c.val) s rfl (by simp [Request.wf]; omega) hs).trans
      (congrArg _ ((dif_pos c.isLt).trans (acceptRead_eq _ s (by decide) (by omega))))
  case first =>
    exact (exec_ready (.readQueues 0) (.read 3 0) s rfl rfl hs).trans (congrArg _ (acceptRead_eq _ s (by decide) (by decide)))
  case second =>
    exact (exec_ready (.readQueues 1) (.read 3 1) s rfl rfl hs).trans (congrArg _ (acceptRead_eq _ s (by decide) (by decide)))
  case third =>
    exact (exec_ready (.readQueues 2) (.read 3 2) s rfl rfl hs).trans (congrArg _ (acceptRead_eq _ s (by decide) (by decide)))
  case recipe =>
    exact (exec_ready (.readRecipe i.val) (.read 4 i.val) s rfl (by simp [Request.wf]; omega) hs).trans
      (congrArg _ ((dif_pos i.isLt).trans (acceptRead_eq _ s (by decide) (by omega))))
  case contents =>
    intro yes code orNone timer services cycles cylinders stores k i w g u withheld expected shot
    have horNone (w : Nat) (o : Option Nat) : itemOr w o = orNone w o := itemOr_eq w o
    have hyes (b : Bool) : flag b = [yes b] := rfl
    have hnot (b : Bool) : item 1 (if b then 0 else 1) = [yes !b] := item_zero_if b
    have htimer (t : Timer) : item 1 t.code = [timer t] := timer_item t
    have hexpected : expectedTagItem s.infeed.expectedTag = expected := expectedTag_items _
    have hwithheld : withholdItem s = withheld := rfl
    have hstates : (s.slots.toList.flatMap fun x => item 1 x.state.code) = s.slots.toList.map fun x => code stores x.state :=
      flatMap_bytes _ _ (fun (x : Slot) => slotState_item x.state) _
    have hshot (o : Option Shot) : shotItems o = shot o := by
      cases o with
      | none => rfl
      | some z =>
        simp only [shotItems, shot, endCause_item, endOver_item]
        simp only [horNone, hyes, List.append_assoc, List.cons_append, List.nil_append]
        rfl
    refine ⟨?status, fun h => ?head, fun c => ?cylinder, ?first, ?second, ?third, ?allowances⟩
    case status =>
      have hcyl : (s.cylinders.toList.flatMap fun c => item 1 c.state.code) =
          s.cylinders.toList.map fun y => code cylinders y.state :=
        flatMap_bytes _ _ (fun (y : Cylinder) => cylState_item y.state) _
      have hsource : item 1 s.tracker.source.code = [code [.primary, .secondary, .simulated] k.source] := source_item _
      have hstate : item 1 s.tracker.state.code = [code [.unlocked, .seeking, .locked, .slipped] k.state] := trackerState_item _
      have hmotion : item 1 s.tracker.motion.code = [code [.running, .stopped] k.motion] := motion_item _
      have hstandby : item 1 s.gas.standby.code = [code [.active, .standby, .waking] g.standby] := standby_item _
      simp only [statusItems, trackerItems, infeedStatusItems, gasItems, verdictStatusItems, slotStatusItems,
        conditionStatusItems, hsource, hstate, hmotion, hstandby, firstIndexCode, throttleCode, tempStateCode,
        hnot, htimer, hwithheld, hexpected, hstates, hcyl, horNone, hyes, conditionsItem_eq,
        List.append_assoc, List.cons_append, List.nil_append]
      rfl
    case head =>
      intro x v raw
      have hinlets : x.inlets.toList.flatMap flag = x.inlets.toList.map yes := flatMap_bytes _ _ (fun _ => rfl) _
      have hservice : item 1 x.service.code = [code services x.service] := service_item _
      have hcycle : item 1 x.cycle.code = [code cycles x.cycle] := cycle_item _
      have hstep : item 1 x.probeStep.code = [code [.idle, .build, .hold] x.probeStep] := probeStep_item _
      have hwindow : item 1 x.window.code = [code [.notOpen, .isOpen, .closed] x.window] := window_item _
      rw [headItems_eq s h x v rfl rfl, hinlets, hservice, hcycle, hstep, hwindow, returnState_item, probeTimer_item]
      rw [List.append_assoc _ (flag x.holdsCan) _, record_items]
      simp only [horNone, hyes, List.append_assoc, List.cons_append, List.nil_append]
      rfl
    case cylinder =>
      intro y
      have hstate : item 1 s.cylinders[c].state.code = [code cylinders y.state] := cylState_item _
      simp only [cylinderItems, hstate, hshot, shotDose_items, horNone, hyes, List.append_assoc, List.cons_append, List.nil_append]
      rfl
    case first =>
      have hentries : fillEntryBytes = fun e => item 2 e.tag ++ orNone 2 e.mass := funext fun e => by rw [fillEntryBytes, horNone]
      simp only [queues0, hwithheld, hexpected, counted, hyes, hentries, List.append_assoc, List.cons_append, List.nil_append]
      rfl
    case second =>
      have hgrants : (s.grantQueue.flatMap fun h => item 1 h.val) = s.grantQueue.map fun h => BitVec.ofNat 8 h.val :=
        flatMap_bytes _ _ (fun (h : Fin 16) => item_one_of_lt (by omega)) _
      simp only [queues1, counted, hgrants, List.append_assoc]
      rfl
    case third =>
      have hentries : rejectEntryBytes = fun e => item 3 e.seq ++ item 6 e.due ++ [yes e.fired] ++
          item 1 ((e.confirmEnd.map fun q => q - e.due).getD 0) :=
        funext fun e => by rw [rejectEntryBytes, entryStateCode, item_one_if]
      simp only [queues2, counted, hentries, hyes, List.append_assoc, List.cons_append, List.nil_append]
      rfl
    case allowances =>
      rw [allowanceItems, hstates]

end Sys2Proof.Machine
end

section
/-! PROOF. FILL: each entry of a report, the whole report, and its reply (spec/03 R55 to R59, R62). -/

namespace Sys2Proof.Machine

/-! ## One entry -/

/-- A head once an entry is bound to the can it may still hold (spec/03 R58): a mass with its tag, or the mark of a lost
binding. -/
def boundHead (a : AwaitEntry) (e : FillEntry) (x : Head) : Head :=
  { x with record := x.record.map fun r =>
      if r.seq ≠ a.seq then r
      else match e.mass with
        | some m => { r with tag := some e.tag, fillMass := some m }
        | none => { r with boundLost := true } }

theorem boundHead_eq (a : AwaitEntry) (e : FillEntry) (x : Head) :
    boundHead a e x = { x with record := x.record.map fun r => if r.seq = a.seq then r.bind e else r } := by
  refine congrArg (fun f => { x with record := x.record.map f }) (funext fun r => ?_)
  by_cases h : r.seq = a.seq
  · rw [if_neg (not_not.mpr h), if_pos h]
    rfl
  · rw [if_pos h, if_neg h]

/-- Against a debt an entry is discarded; a real one is late (spec/03 R58). -/
theorem applyEntry_discarded (e : FillEntry) (y : FillTally) (u : State) (h : 0 < u.infeed.debt) :
    applyEntry (u, y) e =
      (if e.mass = none then { u with infeed := { u.infeed with debt := u.infeed.debt - 1 } }
        else setCondition .lateFill { u with infeed := { u.infeed with debt := u.infeed.debt - 1 } },
       { y with discarded := y.discarded + 1 }) := by
  have h1 : applyEntry (u, y) e = (if e.mass.isSome = true then
      setCondition .lateFill { u with infeed := { u.infeed with debt := u.infeed.debt - 1 } }
      else { u with infeed := { u.infeed with debt := u.infeed.debt - 1 } }, { y with discarded := y.discarded + 1 }) :=
    if_pos h
  rw [h1]
  cases e.mass <;> rfl

/-- The debt raised by what leaves the list, held at 16 (spec/03 R62). -/
theorem raiseDebt_eq (n : Nat) (s : State) :
    raiseDebt n s =
      if s.infeed.debt + n ≤ 16 then { s with infeed := { s.infeed with debt := min 16 (s.infeed.debt + n) } }
      else setCondition .fillSequence { s with infeed := { s.infeed with debt := min 16 (s.infeed.debt + n) } } := by
  unfold raiseDebt
  by_cases hn : s.infeed.debt + n ≤ 16
  · rw [if_pos hn, Nat.min_eq_right hn]
    exact if_pos hn
  · rw [if_neg hn, Nat.min_eq_left (by omega)]
    exact if_neg hn

/-- Without a debt an entry is bound to the oldest awaiting can, and the settled ones behind it leave (spec/03 R58, R62). -/
theorem applyEntry_bound (e : FillEntry) (y : FillTally) (u : State) (a : AwaitEntry) (rest : List AwaitEntry)
    (hd : u.infeed.debt = 0) (ha : u.infeed.awaiting = a :: rest) {owes : Nat}
    (ho : a.owed + ((rest.takeWhile AwaitEntry.settled).map fun g => g.owed + 1).sum = owes) {v : State}
    (hv : { u with
      infeed := { u.infeed with awaiting := rest.dropWhile AwaitEntry.settled, debt := min 16 owes }
      heads := u.heads.set a.head (boundHead a e u.heads[a.head]) } = v) :
    applyEntry (u, y) e =
      (if owes ≤ 16 then v else setCondition .fillSequence v, { y with bound := y.bound + 1, lastSeq := a.seq }) := by
  have hstep : applyEntry (u, y) e =
      (releaseSettled a.owed ((u.modInfeed fun i => { i with awaiting := rest }).modHead a.head (boundHead a e)),
        { y with bound := y.bound + 1, lastSeq := a.seq }) := by
    have hno : ¬0 < u.infeed.debt := by omega
    simp only [applyEntry, ha, funext (boundHead_eq a e)]
    exact if_neg hno
  have hdebt : (a.owed + (dropSettled rest).1) = owes := by
    rw [dropSettled_eq, ← ho]
    rfl
  have hrest : (dropSettled rest).2 = rest.dropWhile AwaitEntry.settled := by rw [dropSettled_eq]
  rw [hstep]
  refine congrArg (·, _) ((raiseDebt_eq _ _).trans ?_)
  rw [← hv, ← hrest, ← hdebt, ← Nat.zero_add (a.owed + (dropSettled rest).1), ← hd]
  rfl

/-- With no debt and no can waiting an entry joins the queue (spec/03 R58). -/
theorem applyEntry_joined (e : FillEntry) (y : FillTally) (u : State) (hd : u.infeed.debt = 0) (ha : u.infeed.awaiting = []) :
    applyEntry (u, y) e =
      ({ u with infeed := { u.infeed with fillQueue := u.infeed.fillQueue ++ [e] } }, { y with joined := y.joined + 1 }) := by
  have hno : ¬0 < u.infeed.debt := by omega
  simp only [applyEntry, ha, if_neg hno, State.modInfeed]

/-! ## The entries of a report -/

/-- Placeholders within the debt are discarded. -/
theorem foldl_discarded (es : List FillEntry) (y : FillTally) (u : State) (hm : ∀ e ∈ es, e.mass = none)
    (hd : es.length ≤ u.infeed.debt) :
    es.foldl applyEntry (u, y) = ({ u with infeed := { u.infeed with debt := u.infeed.debt - es.length } },
      { y with discarded := y.discarded + es.length }) := by
  induction es generalizing y u with
  | nil => rfl
  | cons e es ih =>
    obtain ⟨he, hes⟩ := List.forall_mem_cons.mp hm
    rw [List.length_cons] at hd
    rw [List.foldl_cons, applyEntry_discarded e y u (by omega), if_pos he, ih _ _ hes (show es.length ≤ u.infeed.debt - 1 by omega),
      List.length_cons, Nat.add_comm es.length 1, ← Nat.sub_sub, ← Nat.add_assoc]

/-- The awaiting cans to which entries are bound, in order. -/
def boundHeads (waiting : List AwaitEntry) (es : List FillEntry) (heads : Vector Head 16) : Vector Head 16 :=
  (waiting.zip es).foldl (fun v x => v.set x.1.head (boundHead x.1 x.2 v[x.1.head])) heads

/-- The last can bound. -/
def lastBound (waiting : List AwaitEntry) (n : Nat) (last : Nat) : Nat :=
  ((waiting.take n).getLast?.map AwaitEntry.seq).getD last

theorem lastBound_cons (a : AwaitEntry) (rest : List AwaitEntry) (n last : Nat) :
    lastBound (a :: rest) (n + 1) last = lastBound rest n a.seq := by
  rw [lastBound, List.take_succ_cons, List.getLast?_cons, lastBound]
  cases (rest.take n).getLast? <;> rfl

/-- Without a debt, and with no awaiting can settled, entries are bound to the oldest cans and then join the queue. -/
theorem foldl_taken (es : List FillEntry) (y : FillTally) (u : State) (hd : u.infeed.debt = 0)
    (ha : ∀ a ∈ u.infeed.awaiting, a.settled = false ∧ a.owed = 0) :
    es.foldl applyEntry (u, y) =
      ({ u with
          infeed := { u.infeed with
            awaiting := u.infeed.awaiting.drop es.length
            fillQueue := u.infeed.fillQueue ++ es.drop u.infeed.awaiting.length }
          heads := boundHeads u.infeed.awaiting es u.heads },
       { y with
          bound := y.bound + min u.infeed.awaiting.length es.length
          lastSeq := lastBound u.infeed.awaiting es.length y.lastSeq
          joined := y.joined + (es.length - u.infeed.awaiting.length) }) := by
  induction es generalizing y u with
  | nil => simp [boundHeads, lastBound]
  | cons e es ih =>
    rw [List.foldl_cons]
    cases hw : u.infeed.awaiting with
    | nil =>
      rw [applyEntry_joined e y u hd hw]
      refine (ih _ { u with infeed := { u.infeed with fillQueue := u.infeed.fillQueue ++ [e] } } hd (by simp [hw])).trans ?_
      simp [boundHeads, lastBound, hw, Nat.add_comm, Nat.add_left_comm]
    | cons a rest =>
      rw [hw] at ha
      obtain ⟨⟨-, howed⟩, hrest⟩ := List.forall_mem_cons.mp ha
      have hhead : dropSettled rest = (0, rest) := dropSettled_none rest fun b hb => (hrest b (List.mem_of_mem_head? hb)).1
      rw [dropSettled_eq] at hhead
      obtain ⟨hsum, hdrop⟩ := Prod.mk.inj hhead
      have howes : a.owed + ((rest.takeWhile AwaitEntry.settled).map fun g => g.owed + 1).sum = 0 := by
        rw [howed, Nat.zero_add]
        exact hsum
      rw [applyEntry_bound e y u a rest hd hw howes rfl, if_pos (Nat.zero_le 16), hdrop]
      refine (ih _ { u with
        infeed := { u.infeed with awaiting := rest, debt := min 16 0 }
        heads := u.heads.set a.head (boundHead a e u.heads[a.head]) } rfl hrest).trans ?_
      simp only [List.length_cons, lastBound_cons, List.drop_succ_cons, Nat.add_min_add_right, Nat.add_sub_add_right,
        Nat.add_assoc, Nat.add_comm 1, Nat.min_zero]
      rw [← hd]
      rfl

/-! ## The whole report -/

/-- A report that fits is applied behind its reply. -/
theorem handleFill_taken {tag mass k : Nat} (s : State) (hm : mass ≤ 9999) (hk : skipped s.infeed.expectedTag tag = k)
    (hk8 : k ≤ 8) (hfit : k + 1 - (s.infeed.debt + s.infeed.awaiting.length) + s.infeed.fillQueue.length ≤ 8) :
    handleFill tag mass s = acceptAround 0x08 (fillAct tag mass k) s := by
  have h1 : ¬massLimit < mass := Nat.not_lt.mpr hm
  have h2 : ¬skipLimit < k := Nat.not_lt.mpr hk8
  have h3 : fillFits s.infeed (k + 1) = true := decide_eq_true hfit
  simp only [handleFill, hk, if_neg h1, if_neg h2, h3, if_true]

/-- A report that does not fit is refused FULL (spec/03 R57). -/
theorem handleFill_full {tag mass k : Nat} (s : State) (hm : mass ≤ 9999) (hk : skipped s.infeed.expectedTag tag = k)
    (hk8 : k ≤ 8) (hfit : 8 < k + 1 - (s.infeed.debt + s.infeed.awaiting.length) + s.infeed.fillQueue.length) :
    handleFill tag mass s = setCondition .fillQueueFull (s.withReply ⟨0x81, [0x08, 7, 0]⟩) := by
  have h1 : ¬massLimit < mass := Nat.not_lt.mpr hm
  have h2 : ¬skipLimit < k := Nat.not_lt.mpr hk8
  have h3 : fillFits s.infeed (k + 1) = false := decide_eq_false (Nat.not_le.mpr hfit)
  simp only [handleFill, hk, if_neg h1, if_neg h2, h3]
  rfl

/-- The queueing of a report commutes with a change of a part that reports do not depend on. -/
theorem report_comm (r : ReportKind) (p : List Byte) {g : State → State} {s : State} (hconds : (g s).conds = s.conds)
    (hlink : (g s).link = s.link) (hmod : ∀ f, g (s.modLink f) = (g s).modLink f) :
    report r p (g s) = g (report r p s) := by
  unfold report
  rw [hconds, hlink]
  split_ifs
  · exact (hmod _).symm
  · rfl

/-- A condition is set alike before and after a change of a part that its report does not show. -/
theorem setCondition_comm (k : Condition) {g : State → State} (hconds : ∀ s, (g s).conds = s.conds)
    (hlink : ∀ s, (g s).link = s.link) (hmodConds : ∀ f s, g (s.modConds f) = (g s).modConds f)
    (hmodLink : ∀ f s, g (s.modLink f) = (g s).modLink f) (hstop : ∀ s, g (updateStop s) = updateStop (g s))
    (hcause : ∀ s, causePresent (g s) k = causePresent s k) (s : State) : setCondition k (g s) = g (setCondition k s) := by
  have hreport (u : State) : conditionReport k (g u) = g (conditionReport k u) := by
    unfold conditionReport
    rw [hconds, hcause]
    by_cases hmask : u.conds.mask.getLsbD k.num.val = true
    · rw [if_pos hmask, if_pos hmask]
      exact report_comm _ _ (hconds u) (hlink u) fun f => hmodLink f u
    · rw [if_neg hmask, if_neg hmask]
  unfold setCondition
  rw [hconds]
  by_cases hset : s.conds.has k = true
  · rw [if_pos hset, if_pos hset]
  · rw [if_neg hset, if_neg hset]
    simp only [← hmodConds]
    by_cases hk : k.isStop = true
    · rw [if_pos hk, if_pos hk, ← hstop, hreport]
    · rw [if_neg hk, if_neg hk, hreport]

/-- LATE_FILL is set alike before and after the expected tag moves. -/
theorem setCondition_lateFill_expectedTag (t : Option Nat) (s : State) :
    (setCondition .lateFill s).modInfeed (fun i => { i with expectedTag := t }) =
      setCondition .lateFill (s.modInfeed fun i => { i with expectedTag := t }) :=
  (setCondition_comm .lateFill (g := State.modInfeed fun i => { i with expectedTag := t }) (fun _ => rfl) (fun _ => rfl)
    (fun _ _ => rfl) (fun _ _ => rfl) (fun _ => rfl) (fun _ => rfl) s).symm

/-- The reply of an applied report (spec/03 R59). -/
def fillFrame (k : Nat) (y : FillTally) (tag debt queued : Nat) : Frame :=
  ⟨0x80, [0x08, BitVec.ofNat 8 k] ++ item 1 y.discarded ++ item 1 y.bound ++ item 3 y.lastSeq ++ item 1 y.joined ++ [1] ++
    leBytes 2 tag ++ item 1 debt ++ item 1 queued⟩

/-- A report applied: its entries behind the place of the reply, the expected tag moved, the reply's items then filled in. -/
theorem acceptAround_fillAct {tag mass k : Nat} (s u : State) (y : FillTally) (hk8 : k ≤ 8)
    (hu : (reportEntries tag mass k).foldl applyEntry (s.withReply ⟨0x80, [0x08]⟩, ⟨0, 0, 0, 0⟩) = (u, y)) :
    acceptAround 0x08 (fillAct tag mass k) s =
      fillReply s.link.tx.length (fillFrame k y ((tag + 1) % 65536) u.infeed.debt u.infeed.fillQueue.length)
        (u.modInfeed fun i => { i with expectedTag := some ((tag + 1) % 65536) }) := by
  have hitem : item 1 k = [BitVec.ofNat 8 k] := item_one_of_lt (by omega)
  have htag : item 2 ((tag + 1) % 65536) = leBytes 2 ((tag + 1) % 65536) := by
    rw [item, if_pos (by simpa using Nat.mod_lt _ (by decide))]
  have hdata : (fillAct tag mass k (s.withReply ⟨0x80, [0x08]⟩)).2 = item 1 k ++ item 1 y.discarded ++ item 1 y.bound ++
      item 3 y.lastSeq ++ item 1 y.joined ++ (1 :: item 2 ((tag + 1) % 65536)) ++ item 1 u.infeed.debt ++
      item 1 u.infeed.fillQueue.length := by
    simp only [fillAct, hu]
    rfl
  have hstate : (fillAct tag mass k (s.withReply ⟨0x80, [0x08]⟩)).1 =
      u.modInfeed fun i => { i with expectedTag := some ((tag + 1) % 65536) } := by
    simp only [fillAct, hu]
  have haccept : accept 0x08 [] s = s.withReply ⟨0x80, [0x08]⟩ := rfl
  simp only [acceptAround, haccept, hdata, hstate, hitem, htag, acceptFrame, fillReply, fillFrame, List.append_assoc,
    List.cons_append, List.nil_append]

/-- A report whose real entry is taken, from the state its entries leave. -/
theorem acceptAround_fillAct_taken {tag mass k : Nat} {s w t : State} {y : FillTally} (hk8 : k ≤ 8)
    (hu : (reportEntries tag mass k).foldl applyEntry (s.withReply ⟨0x80, [0x08]⟩, ⟨0, 0, 0, 0⟩) = (w, y))
    (hw : (w.modInfeed fun i => { i with expectedTag := some ((tag + 1) % 65536) }) = t.withReply ⟨0x80, [0x08]⟩)
    (hl : t.link = s.link) :
    acceptAround 0x08 (fillAct tag mass k) s =
      t.withReply (fillFrame k y ((tag + 1) % 65536) w.infeed.debt w.infeed.fillQueue.length) := by
  rw [acceptAround_fillAct s w y hk8 hu, hw, ← hl, fillReply_withReply]

/-- A report whose real entry is late: the condition's report stands behind the reply. -/
theorem acceptAround_fillAct_late {tag mass k : Nat} {s w t : State} {y : FillTally} (hk8 : k ≤ 8)
    (hu : (reportEntries tag mass k).foldl applyEntry (s.withReply ⟨0x80, [0x08]⟩, ⟨0, 0, 0, 0⟩) =
      (setCondition .lateFill w, y))
    (hw : (w.modInfeed fun i => { i with expectedTag := some ((tag + 1) % 65536) }) = t.withReply ⟨0x80, [0x08]⟩)
    (hl : t.link = s.link) :
    acceptAround 0x08 (fillAct tag mass k) s =
      setCondition .lateFill (t.withReply (fillFrame k y ((tag + 1) % 65536) w.infeed.debt w.infeed.fillQueue.length)) := by
  obtain ⟨b, hb⟩ := setCondition_infeed .lateFill w
  rw [acceptAround_fillAct s _ y hk8 hu, hb, setCondition_lateFill_expectedTag, hw, ← hl]
  rw [← setCondition_fill _ _ _ _ (replyAt_withReply t _), fillReply_withReply]

theorem reportEntries_length (tag mass k : Nat) : (reportEntries tag mass k).length = k + 1 := by
  simp [reportEntries]

/-- Every entry before the last is a placeholder. -/
theorem reportEntries_take (tag mass k d : Nat) (hd : d ≤ k) : ∀ e ∈ (reportEntries tag mass k).take d, e.mass = none := by
  intro e he
  rw [reportEntries, List.take_append_of_le_length (by simpa using hd)] at he
  obtain ⟨i, -, rfl⟩ := List.mem_map.mp (List.mem_of_mem_take he)
  rfl

/-- With a debt of the whole report every entry is discarded, the real one late. -/
theorem foldl_reportEntries_late (tag mass k : Nat) (u : State) (hd : k + 1 ≤ u.infeed.debt) :
    (reportEntries tag mass k).foldl applyEntry (u, ⟨0, 0, 0, 0⟩) =
      (setCondition .lateFill { u with infeed := { u.infeed with debt := u.infeed.debt - (k + 1) } }, ⟨k + 1, 0, 0, 0⟩) := by
  rw [reportEntries, List.foldl_append, foldl_discarded _ _ u (by simp) (by simp; omega), List.length_map, List.length_range,
    List.foldl_cons, List.foldl_nil, applyEntry_discarded _ _ _ (show 0 < u.infeed.debt - k by omega), if_neg (by simp)]
  simp only [Nat.sub_sub, Nat.zero_add]

/-- With a smaller debt the entries behind it are bound and queued. -/
theorem foldl_reportEntries_taken (tag mass k : Nat) (u : State) (hd : u.infeed.debt ≤ k)
    (ha : ∀ a ∈ u.infeed.awaiting, a.settled = false ∧ a.owed = 0) :
    (reportEntries tag mass k).foldl applyEntry (u, ⟨0, 0, 0, 0⟩) =
      ({ u with
          infeed := { u.infeed with
            debt := 0
            awaiting := u.infeed.awaiting.drop (k + 1 - u.infeed.debt)
            fillQueue := u.infeed.fillQueue ++ (reportEntries tag mass k).drop (u.infeed.debt + u.infeed.awaiting.length) }
          heads := boundHeads u.infeed.awaiting ((reportEntries tag mass k).drop u.infeed.debt) u.heads },
       ⟨u.infeed.debt, min u.infeed.awaiting.length (k + 1 - u.infeed.debt),
        lastBound u.infeed.awaiting (k + 1 - u.infeed.debt) 0, k + 1 - u.infeed.debt - u.infeed.awaiting.length⟩) := by
  have hlen := reportEntries_length tag mass k
  have htake : ((reportEntries tag mass k).take u.infeed.debt).length = u.infeed.debt := by
    rw [List.length_take, hlen]; omega
  have hsplit := List.take_append_drop u.infeed.debt (reportEntries tag mass k)
  conv_lhs => rw [← hsplit]
  rw [List.foldl_append, foldl_discarded _ _ u (reportEntries_take tag mass k _ hd) htake.le, htake]
  refine (foldl_taken _ _ { u with infeed := { u.infeed with debt := u.infeed.debt - u.infeed.debt } } (Nat.sub_self _) ha).trans ?_
  simp only [List.length_drop, List.drop_drop, hlen, Nat.sub_self, Nat.zero_add]

/-- The last can bound is the one the count of them reaches. -/
theorem lastBound_eq (waiting : List AwaitEntry) (n : Nat) :
    lastBound waiting n 0 =
      if min waiting.length n = 0 then 0 else (waiting[min waiting.length n - 1]?.map AwaitEntry.seq).getD 0 := by
  rw [lastBound, List.getLast?_eq_getElem?, List.length_take, Nat.min_comm]
  by_cases h : min waiting.length n = 0
  · have hnil : waiting.take n = [] := List.eq_nil_of_length_eq_zero (by rw [List.length_take]; omega)
    rw [if_pos h, hnil]
    rfl
  · rw [if_neg h, List.getElem?_take_of_lt (by omega)]

theorem lastBound_lt (waiting : List AwaitEntry) (n : Nat) (h : ∀ a ∈ waiting, a.seq < 16777216) :
    lastBound waiting n 0 < 16777216 := by
  rw [lastBound]
  cases hl : (waiting.take n).getLast? with
  | none => exact (by decide : 0 < 16777216)
  | some a => exact h a (List.mem_of_mem_take (List.mem_of_getLast? hl))

/-- A reply whose items all fit their widths. -/
theorem fillFrame_eq (k discarded bound last joined tag debt queued : Nat) (hdisc : discarded < 256) (hb : bound < 256)
    (hl : last < 16777216) (hj : joined < 256) (hd : debt < 256) (hq : queued < 256) :
    fillFrame k ⟨discarded, bound, last, joined⟩ tag debt queued =
      ⟨0x80, [0x08, BitVec.ofNat 8 k, BitVec.ofNat 8 discarded, BitVec.ofNat 8 bound] ++ leBytes 3 last ++
        [BitVec.ofNat 8 joined, 1] ++ leBytes 2 tag ++ [BitVec.ofNat 8 debt, BitVec.ofNat 8 queued]⟩ := by
  have hl3 : item 3 last = leBytes 3 last := by rw [item, if_pos (by simpa using hl)]
  simp only [fillFrame, item_one_of_lt hdisc, item_one_of_lt hb, item_one_of_lt hj, item_one_of_lt hd, item_one_of_lt hq, hl3,
    List.append_assoc, List.cons_append, List.nil_append]

/-- Settles O31: a report that fits runs entry by entry; in closed form it is discarded whole against a debt not below its
length, or its first entries are discarded and the rest bound and queued. -/
theorem fillReportIsApplied : Obligations.FillReportIsApplied := by
  intro tag mass s hs ht hm k n d waiting entries bound joined hk8
  have hx : exec (.fill tag mass) s = .next (handleFill tag mass s) := exec_fill_ready s hs ht (by omega)
  have hk : skipped s.infeed.expectedTag tag = k := rfl
  have hjoined : k + 1 - (s.infeed.debt + s.infeed.awaiting.length) = joined := (Nat.sub_sub ..).symm
  refine ⟨fun hfit => ?entrywise, fun e y u => ⟨fun h => ?discarded, fun a rest hd ha => ?bound, fun hd ha => ?joined⟩,
    fun hfit hd256 hopen => ?closed, fun hfull => ?full⟩
  case entrywise =>
    intro r t
    refine hx.trans (congrArg _ ((handleFill_taken s hm hk hk8 (hjoined ▸ hfit)).trans ?_))
    exact acceptAround_fillAct s r.1 r.2 hk8 rfl
  case discarded => exact applyEntry_discarded e y u h
  case bound =>
    intro owes v
    exact applyEntry_bound e y u a rest hd ha rfl rfl
  case joined => exact applyEntry_joined e y u hd ha
  case full => exact hx.trans (congrArg _ (handleFill_full s hm hk hk8 (hjoined ▸ hfull)))
  case closed =>
    intro t last u
    refine hx.trans (congrArg _ ((handleFill_taken s hm hk hk8 (hjoined ▸ hfit)).trans ?_))
    have hlast : lastBound waiting (k + 1 - d) 0 = last := lastBound_eq waiting (k + 1 - d)
    have hlt : last < 16777216 := hlast ▸ lastBound_lt waiting _ fun a ha => (hopen a ha).2.2
    have hlen : entries.length = n := reportEntries_length tag mass k
    have hqueued : (s.infeed.fillQueue ++ entries.drop (d + waiting.length)).length = s.infeed.fillQueue.length + joined := by
      rw [List.length_append, List.length_drop, hlen, ← Nat.sub_sub]
    by_cases hnd : n ≤ d
    · have hu := foldl_reportEntries_late tag mass k (s.withReply ⟨0x80, [0x08]⟩) hnd
      have hzero : n - d = 0 := by omega
      have hbound : bound = 0 := by omega
      have hj : joined = 0 := by omega
      have hlast0 : last = 0 := if_pos hbound
      have hdrop : entries.drop d = [] := List.drop_eq_nil_of_le (by omega)
      have hdrop' : entries.drop (d + waiting.length) = [] := List.drop_eq_nil_of_le (by omega)
      have ht : t = { s with infeed := { s.infeed with debt := d - n, expectedTag := some ((tag + 1) % 65536) } } := by
        simp only [t, hdrop, hdrop', hzero, List.drop_zero, List.append_nil, List.zip_nil_right, List.foldl_nil, waiting]
      rw [if_pos hnd, acceptAround_fillAct_late (t := t) hk8 hu (by rw [ht]; rfl) rfl]
      refine congrArg (fun f => setCondition .lateFill (t.withReply f)) ?_
      rw [hbound, hj, hlast0, Nat.min_eq_left hnd]
      exact fillFrame_eq k n 0 0 0 _ (d - n) s.infeed.fillQueue.length (by omega) (by omega) (by omega) (by omega) (by omega)
        (by omega)
    · have hu := foldl_reportEntries_taken tag mass k (s.withReply ⟨0x80, [0x08]⟩) (Nat.le_of_lt_succ (Nat.not_le.mp hnd))
        fun a ha => ⟨(hopen a ha).1, (hopen a ha).2.1⟩
      have hzero : d - n = 0 := by omega
      have ht : t = { s with
          infeed := { s.infeed with
            debt := 0
            awaiting := waiting.drop (n - d)
            fillQueue := s.infeed.fillQueue ++ entries.drop (d + waiting.length)
            expectedTag := some ((tag + 1) % 65536) }
          heads := boundHeads waiting (entries.drop d) s.heads } := by
        simp only [t, hzero]
        rfl
      rw [if_neg hnd, acceptAround_fillAct_taken (t := t) hk8 hu (by rw [ht]; rfl) rfl]
      refine congrArg (fun f => t.withReply f) ?_
      rw [Nat.min_eq_right (by omega : d ≤ n), hzero, ← hqueued, ← hlast]
      exact fillFrame_eq k d bound (lastBound waiting (k + 1 - d) 0) joined _ 0
        (s.infeed.fillQueue ++ entries.drop (d + waiting.length)).length (by omega) (by omega) (by omega) (by omega) (by omega)
        (by omega)

end Sys2Proof.Machine
end

section
/-! PROOF. The leak probe (spec/04 R74 to R77, spec/02 R35, R36). -/

namespace Sys2Proof.Machine

/-! ## The record of a held can -/

theorem modRecord_some {h : Fin 16} {s : State} {r : CanRecord} (hr : s.heads[h].record = some r) (f : CanRecord → CanRecord) :
    modRecord h f s = s.modHead h fun x => { x with record := some (f r) } := by
  simp only [modRecord, State.modHead, hr, Option.map_some]

theorem addReason_some {h : Fin 16} {s : State} {r : CanRecord} (hr : s.heads[h].record = some r)
    (hc : s.heads[h].cycle ≠ .waiting) (k : Reason) :
    addReason h k s = s.modHead h fun x => { x with record := some (r.withReason k) } := by
  rw [addReason_settled h k s hc]
  simp only [State.modHead, hr, Option.map_some]

/-- Of two readings of one transducer the later one shows. -/
theorem showPressure_again (h : Fin 16) (a b : Int) (s : State) :
    (s.showPressure h a).showPressure h b = s.showPressure h b := by
  simp [State.showPressure]

/-! ## The end of a probe -/

/-- The head PROBED: the charge decision at once where its window is open (spec/02 R36, log 16). -/
def probedWith (h : Fin 16) (t : State) (y : Head) : State :=
  if y.window = .notOpen then { t with heads := t.heads.set h { y with cycle := .probed } }
  else chargeDecision h { t with heads := t.heads.set h { y with cycle := .probed } }

theorem enterProbed_modHead (h : Fin 16) (f : Head → Head) (t : State) :
    enterProbed h (t.modHead h f) = probedWith h t (f t.heads[h]) := by
  have hx : (t.modHead h f).heads[h] = f t.heads[h] := State.modHead_self ..
  have hput : ((t.modHead h f).modHead h fun x => { x with cycle := .probed }) =
      { t with heads := t.heads.set h { f t.heads[h] with cycle := .probed } } := by
    rw [State.modHead_modHead]
    rfl
  by_cases hw : (f t.heads[h]).window = .notOpen
  · rw [probedWith, if_pos hw, enterProbed_closed (by rw [hx]; exact hw), hput]
  · rw [probedWith, if_neg hw, enterProbed_open (by rw [hx]; exact hw), hput]

/-- The probe's result (spec/04 R77). -/
theorem probeResult_settled {h : Fin 16} {pa pb : Nat} {s : State} {r : CanRecord} (hr : s.heads[h].record = some r)
    (hc : s.heads[h].cycle ≠ .waiting) :
    probeResult h pa pb s = s.modHead h fun x => { x with record := some (
      if pa < probeBuildMin (slotRecipe s r.slot) ∨ (probeDecayLimit (slotRecipe s r.slot) : Int) < (pa : Int) - (pb : Int) then
        ({ r with probeDecay := some ((pa : Int) - (pb : Int)) } : CanRecord).withReason .crimpLeak
      else { r with probeDecay := some ((pa : Int) - (pb : Int)) }) } := by
  have hread := modRecord_some hr fun r => { r with probeDecay := some ((pa : Int) - (pb : Int)) }
  have hrec : (s.modHead h fun x =>
      { x with record := some { r with probeDecay := some ((pa : Int) - (pb : Int)) } }).heads[h].record =
      some { r with probeDecay := some ((pa : Int) - (pb : Int)) } := by rw [State.modHead_self]
  have hcyc : (s.modHead h fun x =>
      { x with record := some { r with probeDecay := some ((pa : Int) - (pb : Int)) } }).heads[h].cycle ≠ .waiting := by
    rw [State.modHead_self]; exact hc
  simp only [probeResult, headRecipe_some hr, hread]
  split_ifs with hleak
  · rw [addReason_some hrec hcyc, State.modHead_modHead]
  · rfl

/-- Settles O49: what starts a probe, what each of its three ends does, and what none of them does out of its step. -/
theorem probeRuns : Obligations.ProbeRuns := by
  refine ⟨fun h raw two s => ?_, fun h raw two s r hr => ?_⟩
  · intro shown
    refine ⟨fun hn => ?_, fun hb => ⟨congrArg _ (if_neg fun hc => hb hc.1), congrArg _ (if_neg hb)⟩,
      fun hh => congrArg _ (if_neg hh)⟩
    refine if_neg fun hc => ?_
    obtain hrec | hcyc := hn
    · exact holdsCan_iff.mp hc.1 hrec
    · exact hcyc hc.2
  · intro x rcp corrected put shown probed ended p
    have hrcp : headRecipe s h = rcp := headRecipe_some hr
    have hprobed : ∀ t y, y.window = x.window → probedWith h t y = probed t y := fun t y hy => by
      by_cases hw : x.window = .notOpen
      · exact (if_pos (hy.trans hw)).trans (if_pos hw).symm
      · exact (if_neg fun e => hw (hy.symm.trans e)).trans (if_neg hw).symm
    have hstart : ∀ hcyc : x.cycle = .crimped, stationPhase h .probe s = if s.heads[h].marked then enterProbed h s else
        if probePressure rcp ≤ p then put s { x with
          cycle := .probing, probeStep := .hold, pa := some p, probeTimer := .hold (probeHold rcp) }
        else put s { x with cycle := .probing, probeStep := .build, probeValve := true, probeTimer := .build 100 } := by
      intro hcyc
      refine (if_pos ⟨holdsCan_some hr, hcyc⟩).trans ?_
      rw [hrcp]
      rfl
    refine ⟨fun hcyc hm => ?_, fun hcyc hm hp => ?_, fun hcyc hm hp => ?_, fun hstep hp => ?_, fun hp => ?_,
      fun hcyc hstep => ?_, fun pa hcyc hstep hpa => ?_⟩
    · rw [hstart hcyc, if_pos ((marked_some hr).mpr hm)]
      rfl
    · rw [hstart hcyc, if_neg (mt (marked_some hr).mp (not_not.mpr hm)), if_pos hp]
    · rw [hstart hcyc, if_neg (mt (marked_some hr).mp (not_not.mpr hm)), if_neg (Nat.not_le.mpr hp)]
    · have hreach : probePressure (headRecipe (s.showPressure h two.reached) h) ≤
          headPressure (s.showPressure h two.reached) h := by
        rw [headPressure_shown, headRecipe_some (s := s.showPressure h two.reached) (r := r) hr]
        exact hp
      refine congrArg _ ((if_pos ⟨hstep, hreach⟩).trans ?_)
      simp only [showPressure_again, headPressure_shown, headRecipe_some (s := s.showPressure h two.closing) (r := r) hr]
      rfl
    · refine congrArg _ (if_neg fun hc => ?_)
      rw [headPressure_shown, headRecipe_some (s := s.showPressure h two.reached) (r := r) hr] at hc
      exact Nat.not_le.mpr hp hc.2
    · have hcyc' : (endProbe h s).heads[h].cycle ≠ .waiting := by
        rw [endProbe, State.modHead_self]
        exact fun e => Cycle.noConfusion (hcyc.symm.trans e)
      have hrec' : (endProbe h s).heads[h].record = some r := by rw [endProbe, State.modHead_self]; exact hr
      refine congrArg _ ((if_pos hstep).trans ?_)
      rw [addReason_some hrec' hcyc', endProbe, State.modHead_modHead, enterProbed_modHead]
      exact hprobed _ _ rfl
    · intro decay read
      have hcyc' : (shown raw).heads[h].cycle ≠ .waiting := fun e => Cycle.noConfusion (hcyc.symm.trans e)
      have hended : ∀ r' : CanRecord, (if pa < probeBuildMin rcp ∨ (probeDecayLimit rcp : Int) < decay then
          read.withReason .crimpLeak else read) = r' →
          exec (.probeHoldExpiry h raw) s = .next (probed (shown raw) (ended r')) := by
        rintro r' rfl
        refine congrArg _ ((if_pos hstep).trans ?_)
        have hpa' : (s.showPressure h raw).heads[h].pa = some pa := hpa
        rw [headPressure_shown, hpa', Option.getD_some,
          probeResult_settled (s := s.showPressure h raw) (r := r) hr hcyc', endProbe, State.modHead_modHead, enterProbed_modHead]
        exact hprobed _ _ rfl
      exact ⟨fun hleak => hended _ (if_pos hleak), fun hmin hdecay =>
        hended _ (if_neg fun hleak => hleak.elim (fun h1 => Nat.not_lt.mpr hmin h1) fun h2 => Int.not_lt.mpr hdecay h2)⟩

end Sys2Proof.Machine
end

section
/-! PROOF. CHARGE_OPEN and the charge decision (spec/03 R62, R63, spec/06 R111, spec/07 R123). -/

namespace Sys2Proof.Machine

/-! ## FILL_SEQUENCE does not depend on the heads -/

theorem setCondition_fillSequence_modHead (h : Fin 16) (f : Head → Head) (s : State) :
    setCondition .fillSequence (s.modHead h f) = (setCondition .fillSequence s).modHead h f :=
  setCondition_comm .fillSequence (g := State.modHead h f) (fun _ => rfl) (fun _ => rfl) (fun _ _ => rfl) (fun _ _ => rfl)
    (fun _ => rfl) (fun _ => rfl) s

/-! ## The settlement -/

/-- What a can that stays unbound at its decision makes of the awaiting list: it is noted, and the settled cans at its head
leave (spec/03 R62). -/
def State.unbound (h : Fin 16) (q : Nat) (s : State) : State :=
  let noted := s.infeed.awaiting.map fun e => if e.head = h ∧ e.seq = q then { e with settled := true } else e
  let gone := ((noted.takeWhile AwaitEntry.settled).map fun e => e.owed + 1).sum
  let settled := { s with infeed := { s.infeed with
    awaiting := noted.dropWhile AwaitEntry.settled, debt := min 16 (s.infeed.debt + gone) } }
  if s.infeed.debt + gone ≤ 16 then settled else setCondition .fillSequence settled

theorem settleUnbound_eq (h : Fin 16) (q : Nat) (s : State) : settleUnbound h q s = s.unbound h q := by
  unfold settleUnbound releaseSettled
  rw [raiseDebt_eq, dropSettled_eq]
  simp only [State.modInfeed, dropSettled_eq, Nat.zero_add]
  rfl

theorem raiseDebt_modHead (n : Nat) (j : Fin 16) (f : Head → Head) (s : State) :
    raiseDebt n (s.modHead j f) = (raiseDebt n s).modHead j f := by
  by_cases hn : s.infeed.debt + n ≤ debtLimit
  · rw [show raiseDebt n s = s.modInfeed fun i => { i with debt := i.debt + n } from if_pos hn]
    exact if_pos hn
  · rw [show raiseDebt n s = setCondition .fillSequence (s.modInfeed fun i => { i with debt := debtLimit }) from if_neg hn,
      ← setCondition_fillSequence_modHead]
    exact if_neg hn

theorem unbound_modHead (h j : Fin 16) (q : Nat) (f : Head → Head) (s : State) :
    (s.modHead j f).unbound h q = (s.unbound h q).modHead j f := by
  rw [← settleUnbound_eq, ← settleUnbound_eq]
  unfold settleUnbound releaseSettled
  rw [← raiseDebt_modHead]
  rfl

theorem unbound_heads (h : Fin 16) (q : Nat) (s : State) : (s.unbound h q).heads = s.heads := by
  rw [← settleUnbound_eq]; simp

theorem unbound_grantQueue (h : Fin 16) (q : Nat) (s : State) : (s.unbound h q).grantQueue = s.grantQueue := by
  rw [← settleUnbound_eq]; simp

/-! ## The settlement of a can (spec/03 R63) -/

theorem settlementOf_weighed {r : CanRecord} {rcp : Recipe} {m : Nat} (hf : r.fillMass = some m)
    (hm : fillMin rcp ≤ m ∧ m ≤ fillMax rcp) : settlementOf r rcp = .mass .weighed m := by
  simp only [settlementOf, hf, if_pos hm]

theorem settlementOf_outOfRange {r : CanRecord} {rcp : Recipe} {m : Nat} (hf : r.fillMass = some m)
    (hm : ¬(fillMin rcp ≤ m ∧ m ≤ fillMax rcp)) : settlementOf r rcp = .reason .fillOutOfRange := by
  simp only [settlementOf, hf, if_neg hm]

theorem settlementOf_nominal {r : CanRecord} {rcp : Recipe} (hf : r.fillMass = none) (hl : r.boundLost = false)
    (hp : policyRejects rcp = false) : settlementOf r rcp = .mass .nominal (nominalMass rcp) := by
  simp only [settlementOf, hf, hl, hp, Bool.false_eq_true, if_false]

theorem settlementOf_unbound {r : CanRecord} {rcp : Recipe} (hf : r.fillMass = none)
    (hn : ¬(r.boundLost = false ∧ policyRejects rcp = false)) :
    settlementOf r rcp = .reason (if r.boundLost then .fillLost else .noFillReport) := by
  cases hl : r.boundLost with
  | true => simp only [settlementOf, hf, hl, if_true]
  | false =>
    have hp : policyRejects rcp = true := by simpa [hl] using hn
    simp only [settlementOf, hf, hl, hp, Bool.false_eq_true, if_false, if_true]

/-! ## What the settlement writes -/

/-- A mass, and a can left unmarked: its basis and target dose (spec/06 R111). -/
theorem writeBasis_unmarked {h : Fin 16} {b : DoseBasis} {m : Nat} {rcp : Recipe} {s : State} {r : CanRecord}
    (hr : s.heads[h].record = some r) (hm : r.reasons = []) :
    writeBasis h (.mass b m) rcp s =
      s.modHead h fun x => { x with record := some { r with basis := some b, target := some (targetDose rcp m) } } := by
  have hmark : s.heads[h].marked = false := by
    rw [← Bool.not_eq_true, marked_some hr]
    exact not_not.mpr hm
  rw [← modRecord_some hr fun r => { r with basis := some b, target := some (targetDose rcp m) }]
  simp only [writeBasis, hmark]

/-- A mass, and a marked can: basis NONE. -/
theorem writeBasis_marked {h : Fin 16} {b : DoseBasis} {m : Nat} {rcp : Recipe} {s : State} {r : CanRecord}
    (hr : s.heads[h].record = some r) (hm : r.reasons ≠ []) :
    writeBasis h (.mass b m) rcp s = s.modHead h fun x => { x with record := some { r with basis := some .none } } := by
  have hmark : s.heads[h].marked = true := (marked_some hr).mpr hm
  rw [← modRecord_some hr fun r => { r with basis := some .none }]
  simp only [writeBasis, hmark]

/-- A fill reason: the reason, and basis NONE. -/
theorem writeBasis_reason {h : Fin 16} {k : Reason} {rcp : Recipe} {s : State} {r : CanRecord}
    (hr : s.heads[h].record = some r) (hc : s.heads[h].cycle ≠ .waiting) :
    writeBasis h (.reason k) rcp s =
      s.modHead h fun x => { x with record := some { r.withReason k with basis := some .none } } := by
  have hrec : (addReason h k s).heads[h].record = some (r.withReason k) := by
    rw [addReason_some hr hc, State.modHead_self]
  have hwrite : writeBasis h (.reason k) rcp s = modRecord h (fun r => { r with basis := some .none }) (addReason h k s) := rfl
  rw [hwrite, modRecord_some hrec, addReason_some hr hc, State.modHead_modHead]

/-- A reason leaves its can marked. -/
theorem withReason_reasons_ne (r : CanRecord) (k : Reason) : (r.withReason k).reasons ≠ [] := by
  unfold CanRecord.withReason
  split_ifs with hk hl
  · exact List.ne_nil_of_mem hk
  · simp
  · intro he
    exact hl (by rw [show r.reasons = [] from he]; decide)

/-! ## The decision -/

/-- The decision of a can the settlement leaves unmarked: its request joins the queue, at which the arbiter looks. -/
theorem chargeDecision_mass {h : Fin 16} {b : DoseBasis} {m : Nat} {s : State} {r : CanRecord}
    (hr : s.heads[h].record = some r) (hd : s.heads[h].decided = false)
    (hset : settlementOf r (slotRecipe s r.slot) = .mass b m) (hm : r.reasons = []) (hq : h ∉ s.grantQueue) :
    chargeDecision h s = arbitrate { (s.unbound h r.seq).modHead h fun x => { x with
      record := some { r with basis := some b, target := some (targetDose (slotRecipe s r.slot) m) }
      decided := true, cycle := .waiting } with grantQueue := s.grantQueue ++ [h] } := by
  have hr' : (s.unbound h r.seq).heads[h].record = some r := by rw [unbound_heads]; exact hr
  have hq' : h ∉ (s.unbound h r.seq).grantQueue := by rw [unbound_grantQueue]; exact hq
  unfold chargeDecision
  simp only [hr, hd, hset, settleUnbound_eq, writeBasis_unmarked hr' hm, State.modHead_modHead]
  have hmark : ((s.unbound h r.seq).modHead h fun x => { x with
      record := some { r with basis := some b, target := some (targetDose (slotRecipe s r.slot) m) }
      decided := true }).heads[h].marked = false := by
    rw [State.modHead_self, ← Bool.not_eq_true, marked_some rfl]
    exact not_not.mpr hm
  simp only [hmark, requestGas]
  rw [if_neg Bool.false_ne_true, if_neg Bool.false_ne_true, joinQueue_absent (by exact hq'), State.modHead_modHead]
  rw [← unbound_grantQueue h r.seq s]
  rfl

/-- The decision of a can left marked: charged with nothing to come. -/
theorem chargeDecision_charged {h : Fin 16} {s : State} {r r' : CanRecord} (hr : s.heads[h].record = some r)
    (hd : s.heads[h].decided = false)
    (hw : writeBasis h (settlementOf r (slotRecipe s r.slot)) (slotRecipe s r.slot) (s.unbound h r.seq) =
      (s.unbound h r.seq).modHead h fun x => { x with record := some r' })
    (hm : r'.reasons ≠ []) :
    chargeDecision h s = (s.unbound h r.seq).modHead h fun x =>
      { x with record := some r', decided := true, cycle := .charged, pendingResult := none } := by
  unfold chargeDecision
  simp only [hr, hd, settleUnbound_eq, hw, State.modHead_modHead]
  have hmark : ((s.unbound h r.seq).modHead h fun x => { x with record := some r', decided := true }).heads[h].marked = true := by
    rw [State.modHead_self, marked_some rfl]
    exact hm
  rw [if_neg Bool.false_ne_true, if_pos hmark]

/-- The state a decision at CHARGE_OPEN leaves: the settlement, and the head. -/
theorem opened_unbound (h : Fin 16) (q : Nat) (f : Head → Head) (s : State) :
    ((s.modHead h fun x => { x with window := .isOpen }).unbound h q).modHead h f =
      { s.unbound h q with heads := s.heads.set h (f { s.heads[h] with window := .isOpen }) } := by
  rw [unbound_modHead, State.modHead_modHead]
  simp only [State.modHead, unbound_heads]

/-- The target dose of a mass (spec/06 R111). -/
theorem targetDose_eq (rcp : Recipe) (m : Nat) :
    targetDose rcp m = min (doseMax rcp) (max (doseMin rcp) ((m * gasRatio rcp * 2 + 100) / 200)) := by
  have hround : (roundHalfUp ((m * gasRatio rcp : Nat) : Int) 100).toNat = (m * gasRatio rcp * 2 + 100) / 200 := by
    unfold roundHalfUp
    omega
  rw [targetDose, hround]

/-- Settles O50: CHARGE_OPEN opens the window; a PROBED can not yet decided is settled, and decided by what that gives. -/
theorem chargeIsDecided : Obligations.ChargeIsDecided := by
  constructor
  · intro h s hn
    refine if_neg fun ⟨hcan, hdec, hcyc⟩ => ?_
    obtain hrec | hc | hd := hn
    · exact holdsCan_iff.mp hcan hrec
    · exact hc hcyc
    · exact ne_true_of_eq_false hdec hd
  · intro h s r hr hcyc x rcp noted gone settled counted put open_ mass fault target
    generalize hs1 : (s.modHead h fun x => { x with window := .isOpen }) = s1
    have hself : s1.heads[h] = { x with window := .isOpen } := by rw [← hs1, State.modHead_self]
    have hopen : x.decided = false → stationPhase h .chargeOpen s = chargeDecision h s1 := fun hd =>
      hs1 ▸ if_pos ⟨holdsCan_some hr, hd, hcyc⟩
    have hr' : s1.heads[h].record = some r := by rw [hself]; exact hr
    have hd' : x.decided = false → s1.heads[h].decided = false := fun hd => by rw [hself]; exact hd
    have hrcp : slotRecipe s1 r.slot = rcp := by rw [← hs1]; rfl
    have hru : (s1.unbound h r.seq).heads[h].record = some r := by rw [unbound_heads]; exact hr'
    have hcu : (s1.unbound h r.seq).heads[h].cycle ≠ .waiting := by
      rw [unbound_heads, hself]
      exact fun e => Cycle.noConfusion (hcyc.symm.trans e)
    have hput (f : Head → Head) : (s1.unbound h r.seq).modHead h f = put (f { x with window := .isOpen }) := by
      rw [← hs1, opened_unbound]
      rfl
    have hsettled : ∀ b m, mass = some (b, m) → settlementOf r rcp = .mass b m := by
      intro b m hm
      cases hf : r.fillMass with
      | some n =>
        simp only [mass, hf, Option.ite_none_right_eq_some, Option.some.injEq, Prod.mk.injEq] at hm
        obtain ⟨hrange, rfl, rfl⟩ := hm
        exact settlementOf_weighed hf hrange
      | none =>
        simp only [mass, hf, Option.ite_none_right_eq_some, Option.some.injEq, Prod.mk.injEq] at hm
        obtain ⟨⟨hlost, hpolicy⟩, rfl, rfl⟩ := hm
        exact settlementOf_nominal hf hlost hpolicy
    have hreason : mass = none → settlementOf r rcp = .reason fault := by
      intro hm
      cases hf : r.fillMass with
      | some n =>
        simp only [mass, hf, ite_eq_right_iff, reduceCtorEq, imp_false] at hm
        simp only [fault, hf]
        exact settlementOf_outOfRange hf hm
      | none =>
        simp only [mass, hf, ite_eq_right_iff, reduceCtorEq, imp_false] at hm
        simp only [fault, hf]
        exact settlementOf_unbound hf hm
    refine ⟨fun b m hd hm hnone hq => ?_, fun b m hd hm hmark => ?_, fun hd hm => ?_⟩
    · have hq' : h ∉ s1.grantQueue := by rw [← hs1]; exact hq
      rw [hopen hd, chargeDecision_mass hr' (hd' hd) (hrcp ▸ hsettled b m hm) hnone hq', hput, hrcp, targetDose_eq, ← hs1]
      rfl
    · rw [hopen hd, chargeDecision_charged (r' := { r with basis := some .none }) hr' (hd' hd)
        (by rw [hrcp, hsettled b m hm, writeBasis_marked hru hmark]) hmark, hput]
    · rw [hopen hd, chargeDecision_charged (r' := { r.withReason fault with basis := some .none }) hr' (hd' hd)
        (by rw [hrcp, hreason hm, writeBasis_reason hru hcu]) (withReason_reasons_ne r fault), hput]

end Sys2Proof.Machine
end

section
/-! PROOF. The end of the charge window, the dwell test and the lift (spec/02 R37 to R39, spec/04 R78, spec/07 R132, R134,
R135). -/

namespace Sys2Proof.Machine

/-! ## What the end of the window leaves -/

theorem enterProbed_keeps (h : Fin 16) (s : State) :
    (enterProbed h s).heads[h].window = s.heads[h].window ∧
      (enterProbed h s).heads[h].record.isSome = s.heads[h].record.isSome := by
  have hself := State.modHead_self s h fun x => { x with cycle := .probed }
  by_cases hw : s.heads[h].window = .notOpen
  · rw [enterProbed_closed hw, hself]
    exact ⟨rfl, rfl⟩
  · obtain ⟨hwin, hrec, -⟩ := chargeDecision_keeps h (s.modHead h fun x => { x with cycle := .probed })
    rw [enterProbed_open hw, hwin, hrec, hself]
    exact ⟨rfl, rfl⟩

theorem endDischarge_keeps (c : Fin 4) (k : EndCause) (s : State) (h : Fin 16) :
    (endDischarge c k s).heads[h].window = s.heads[h].window ∧
      (endDischarge c k s).heads[h].record.isSome = s.heads[h].record.isSome := by
  rw [endDischarge_heads]
  split_ifs <;> exact ⟨rfl, rfl⟩

/-- After the end of the window it is CLOSED, and the can held stands. -/
theorem closeWindow_keeps (h : Fin 16) (s : State) :
    (closeWindow h s).heads[h].window = .closed ∧
      (closeWindow h s).heads[h].record.isSome = s.heads[h].record.isSome := by
  have hself := State.modHead_self s h fun x => { x with window := .closed }
  have hplain : (s.modHead h fun x => { x with window := .closed }).heads[h].window = .closed ∧
      (s.modHead h fun x => { x with window := .closed }).heads[h].record.isSome = s.heads[h].record.isSome := by
    rw [hself]; exact ⟨rfl, rfl⟩
  unfold closeWindow
  simp only
  split
  · obtain ⟨hwin, hrec⟩ := enterProbed_keeps h
      (addReason h .probeLate (endProbe h (s.modHead h fun x => { x with window := .closed })))
    have hkept := kept_addReason h .probeLate (endProbe h (s.modHead h fun x => { x with window := .closed }))
    rw [hwin, hrec, hkept.win, hkept.rc, endProbe, State.modHead_self]
    exact hplain
  · have hkept : Kept (s.modHead h fun x => { x with window := .closed })
        ((withdraw h (s.modHead h fun x => { x with window := .closed })).modHead h fun x =>
          { x with cycle := .charged, pendingResult := none }) :=
      (kept_withdraw h _).trans (kept_modHead _ _ _ fun _ => ⟨rfl, rfl, rfl⟩)
    split
    · have hadd := hkept.trans (kept_addReason h .noCharge _)
      rw [hadd.win, hadd.rc]
      exact hplain
    · have hjudge := hkept.trans (kept_judgeDose h _)
      rw [hjudge.win, hjudge.rc]
      exact hplain
  · split
    · obtain ⟨hwin, hrec⟩ := endDischarge_keeps _ .chargeClose (s.modHead h fun x => { x with window := .closed }) h
      rw [hwin, hrec]
      exact hplain
    · exact hplain
  all_goals exact hplain

/-- A decision taken leaves nothing late. -/
theorem lateDecision_decided {h : Fin 16} {s : State} (hd : s.heads[h].decided = true) : lateDecision h s = s :=
  if_neg fun hc => ne_true_of_eq_false hc.2 hd

theorem lateDecision_undecided {h : Fin 16} {s : State} {r : CanRecord} (hr : s.heads[h].record = some r)
    (hd : s.heads[h].decided = false) : lateDecision h s = chargeDecision h (addReason h .noCharge s) :=
  if_pos ⟨holdsCan_some hr, hd⟩

/-- After CHARGE_CLOSE the window is CLOSED, the can held stands, and its decision is taken. -/
theorem chargeClose_keeps {h : Fin 16} {s : State} (hr : s.heads[h].record.isSome = true) :
    (chargeCloseStation h s).heads[h].window = .closed ∧ (chargeCloseStation h s).heads[h].record.isSome = true ∧
      (chargeCloseStation h s).heads[h].decided = true := by
  obtain ⟨hwin, hrec⟩ := closeWindow_keeps h s
  have hsome : (closeWindow h s).heads[h].record.isSome = true := hrec.trans hr
  by_cases hd : (closeWindow h s).heads[h].decided = true
  · rw [chargeCloseStation, lateDecision_decided hd]
    exact ⟨hwin, hsome, hd⟩
  · have hlate : chargeCloseStation h s = chargeDecision h (addReason h .noCharge (closeWindow h s)) :=
      if_pos ⟨hsome, by simpa using hd⟩
    have hkept := kept_addReason h .noCharge (closeWindow h s)
    obtain ⟨hwin', hrec', hdec'⟩ := chargeDecision_keeps h (addReason h .noCharge (closeWindow h s))
    rw [hlate, hwin', hrec', hkept.win, hkept.rc]
    exact ⟨hwin, hsome, hdec' (by rw [hkept.rc]; exact hsome)⟩

/-! ## CHARGE_CLOSE by cycle state -/

theorem closeWindow_plain {h : Fin 16} {s : State} (hp : s.heads[h].cycle ≠ .probing) (hw : s.heads[h].cycle ≠ .waiting)
    (hc : s.heads[h].cycle ≠ .charging) : closeWindow h s = s.modHead h fun x => { x with window := .closed } := by
  unfold closeWindow
  split
  · contradiction
  · contradiction
  · contradiction
  all_goals rfl

theorem closeWindow_waiting {h : Fin 16} {s : State} {r : CanRecord} (hr : s.heads[h].record = some r)
    (hw : s.heads[h].cycle = .waiting) : closeWindow h s =
      if r.shots.isEmpty then addReason h .noCharge ((withdraw h s).modHead h fun x =>
        { x with window := .closed, cycle := .charged, pendingResult := none })
      else judgeDose h ((withdraw h s).modHead h fun x =>
        { x with window := .closed, cycle := .charged, pendingResult := none }) := by
  simp only [closeWindow, hw, hr, withdraw_modHead, State.modHead_modHead, Option.map_some, Option.getD_some]

theorem closeWindow_charging {h : Fin 16} {c : Fin 4} {s : State} (hc : s.heads[h].cycle = .charging)
    (hp : s.heads[h].paired = some c) :
    closeWindow h s = endDischarge c .chargeClose (s.modHead h fun x => { x with window := .closed }) := by
  simp only [closeWindow, hc, hp]

theorem closeWindow_probing {h : Fin 16} {s : State} (hc : s.heads[h].cycle = .probing) :
    closeWindow h s = enterProbed h (addReason h .probeLate (s.modHead h fun x =>
      { x with window := .closed, probeValve := false, probeTimer := .stopped, probeStep := .idle, pa := none })) := by
  simp only [closeWindow, hc, endProbe, State.modHead_modHead]

/-! ## DWELL, LIFT and OUTFEED once the window is closed -/

theorem catchUp_closed {h : Fin 16} {s : State} (hw : s.heads[h].window = .closed) (hd : s.heads[h].decided = true) :
    catchUp h s = s := by
  by_cases hc : s.heads[h].holdsCan = true
  · rw [catchUp, if_pos hc, if_pos hw, lateDecision_decided hd]
  · exact if_neg hc

/-- Where CHARGE_CLOSE was missed it is taken first. -/
theorem catchUp_missed {h : Fin 16} {s : State} (hr : s.heads[h].record.isSome = true) (hw : s.heads[h].window ≠ .closed) :
    catchUp h s = catchUp h (chargeCloseStation h s) := by
  obtain ⟨hwin, -, hdec⟩ := chargeClose_keeps hr
  rw [catchUp_closed hwin hdec, catchUp, if_pos (by exact hr), if_neg hw, chargeCloseStation]

theorem dwellStation_congr {h : Fin 16} {s t : State} (hc : catchUp h s = catchUp h t) : dwellStation h s = dwellStation h t := by
  unfold dwellStation; rw [hc]

theorem liftStation_congr {h : Fin 16} {s t : State} (hc : catchUp h s = catchUp h t) : liftStation h s = liftStation h t := by
  unfold liftStation; rw [hc]

/-- Settles O57: an EMPTY head; CHARGE_CLOSE by cycle state; the phases that catch it up; and DWELL and LIFT once the window is
closed and the decision taken. -/
theorem windowClosesAndCansDwell : Obligations.WindowClosesAndCansDwell := by
  refine ⟨fun h s hr hc => ?empty, fun h s r hr => ?can⟩
  case empty =>
    have hcan : ¬s.heads[h].holdsCan = true := fun hcan => holdsCan_iff.mp hcan hr
    have hcatch : catchUp h s = s := if_neg hcan
    have hclose : closeWindow h s = s.modHead h fun x => { x with window := .closed } :=
      closeWindow_plain (by rw [hc]; exact Cycle.noConfusion) (by rw [hc]; exact Cycle.noConfusion)
        (by rw [hc]; exact Cycle.noConfusion)
    refine ⟨?_, ?_, ?_⟩
    · show lateDecision h (closeWindow h s) = _
      rw [hclose]
      refine if_neg fun hd => hcan ?_
      have hd := hd.1
      rw [State.modHead_self] at hd
      exact hd
    · show dwellStation h s = s
      unfold dwellStation
      rw [hcatch]
      exact if_neg fun hd => hcan hd.1
    · show liftStation h s = s
      unfold liftStation
      rw [hcatch]
      exact if_neg hcan
  case can =>
    intro x rcp put closed ended p close
    have hsome : s.heads[h].record.isSome = true := by rw [hr]; rfl
    have hclosed : (s.modHead h fun x => { x with window := .closed }) = put closed := rfl
    have hself : (s.modHead h fun x => { x with window := .closed }).heads[h] = closed := State.modHead_self ..
    have hended (f : Head → Head) : (withdraw h s).modHead h f =
        { put (f x) with grantQueue := s.grantQueue.filter (· ≠ h) } := rfl
    have hendedHead (w : CanRecord) : (ended w).heads[h].decided = x.decided :=
      (congrArg Head.decided (Vector.getElem_set_self h.isLt)).trans rfl
    have hurec : ((withdraw h s).modHead h fun x =>
        { x with window := .closed, cycle := .charged, pendingResult := none }).heads[h].record = some r := by
      rw [State.modHead_self]; exact hr
    have hucyc : ((withdraw h s).modHead h fun x =>
        { x with window := .closed, cycle := .charged, pendingResult := none }).heads[h].cycle ≠ .waiting := by
      rw [State.modHead_self]; exact Cycle.noConfusion
    refine ⟨fun hd hp hw hc => ?plain, fun hd hw hs => ?noShot, fun t hd hw hs hm ht => ?judged,
      fun c z hd hc hp hst ho hz => ?charging, fun hd hc => ?probing, fun hd hc => ?early, fun hw => ?missed,
      fun hw hd => ?after⟩
    case plain =>
      show lateDecision h (closeWindow h s) = _
      rw [closeWindow_plain hp hw hc, lateDecision_decided (by rw [hself]; exact hd)]
      rfl
    case noShot =>
      show lateDecision h (closeWindow h s) = _
      have hclose : closeWindow h s = ended (r.withReason .noCharge) := by
        rw [closeWindow_waiting hr hw, if_pos (by rw [hs]; rfl), addReason_some hurec hucyc, State.modHead_modHead, hended]
      rw [hclose, lateDecision_decided ((hendedHead _).trans hd)]
    case judged =>
      show lateDecision h (closeWindow h s) = _
      have hjudged : r.judged rcp t = if (r.total : Int) < (t : Int) - (toleranceLow rcp : Int) then r.withReason .doseLow
          else if (t : Int) + (toleranceHigh rcp : Int) < (r.total : Int) then r.withReason .doseHigh else r := by
        simp only [CanRecord.judged, hm, true_and]
      have hclose : closeWindow h s = ended (r.judged rcp t) := by
        rw [closeWindow_waiting hr hw, if_neg (by simpa using hs), judgeDose_settled hurec ht hucyc, State.modHead_modHead,
          hended]
        rfl
      rw [hclose, lateDecision_decided ((hendedHead _).trans hd), hjudged]
    case charging =>
      show lateDecision h (closeWindow h s) = _
      rw [closeWindow_charging hc hp,
        endDischarge_owned (s := s.modHead h fun x => { x with window := .closed }) .chargeClose hst ho,
        lateDecision_decided (by rw [State.modHead_self]; exact (congrArg Head.decided hself).trans hd),
        State.modHead_modCyl, State.modHead_modHead]
      simp only [State.modCyl, Cylinder.discharged, hz, Option.map_some]
      rfl
    case probing =>
      show lateDecision h (closeWindow h s) = _
      have hclose : closeWindow h s = chargeDecision h (put { closed with
          cycle := .probed, probeValve := false, probeTimer := .stopped, probeStep := .idle, pa := none
          record := some (r.withReason .probeLate) }) := by
        rw [closeWindow_probing hc, addReason_some (r := r) (by rw [State.modHead_self]; exact hr)
          (by rw [State.modHead_self]; exact fun e => Cycle.noConfusion (hc.symm.trans e)), State.modHead_modHead,
          enterProbed_modHead]
        exact if_neg Window.noConfusion
      obtain ⟨-, -, hdec⟩ := chargeDecision_keeps h (put { closed with
        cycle := .probed, probeValve := false, probeTimer := .stopped, probeStep := .idle, pa := none
        record := some (r.withReason .probeLate) })
      rw [hclose, lateDecision_decided (hdec ?_)]
      exact congrArg (fun y : Head => y.record.isSome) (Vector.getElem_set_self h.isLt)
    case early =>
      show lateDecision h (closeWindow h s) = _
      have hne : ∀ c : Cycle, c ≠ .seated → c ≠ .crimped → c ≠ .probed → x.cycle ≠ c := by
        rintro c h1 h2 h3 rfl
        obtain e | e | e := hc
        · exact h1 e
        · exact h2 e
        · exact h3 e
      have hrec : (s.modHead h fun x => { x with window := .closed }).heads[h].record = some r := by rw [hself]; exact hr
      rw [closeWindow_plain (hne _ (by decide) (by decide) (by decide)) (hne _ (by decide) (by decide) (by decide))
        (hne _ (by decide) (by decide) (by decide)), lateDecision_undecided hrec (by rw [hself]; exact hd),
        addReason_some hrec (by rw [hself]; exact hne _ (by decide) (by decide) (by decide)), State.modHead_modHead]
      rfl
    case missed =>
      have hcatch := catchUp_missed hsome hw
      obtain ⟨-, hrec, -⟩ := chargeClose_keeps hsome
      refine ⟨dwellStation_congr hcatch, liftStation_congr hcatch, ?_⟩
      refine (if_pos (by exact hsome)).trans ((congrArg (fun t => handOn h (doseUnknown h t)) hcatch).trans ?_)
      exact (if_pos (by exact hrec)).symm
    case after =>
      have hcatch : catchUp h s = s := catchUp_closed hw hd
      have hcan : s.heads[h].holdsCan = true := holdsCan_some hr
      refine ⟨fun hc hm => ?_, fun hc hm => ?_, fun hc => ?_, fun ht => ?_, fun n ht hc => ?_⟩
      · show dwellStation h s = _
        unfold dwellStation
        rw [hcatch]
        refine (if_pos ⟨hcan, hc⟩).trans ((if_neg (mt (marked_some hr).mp (not_not.mpr hm))).trans ?_)
        rw [headRecipe_some hr]
        rfl
      · show dwellStation h s = _
        unfold dwellStation
        rw [hcatch]
        exact (if_pos ⟨hcan, hc⟩).trans (if_pos ((marked_some hr).mpr hm))
      · show dwellStation h s = _
        unfold dwellStation
        rw [hcatch]
        exact if_neg fun hn => hc hn.2
      · show liftStation h s = _
        unfold liftStation
        rw [hcatch]
        refine (if_pos hcan).trans ?_
        rw [if_neg (isRunning_eq_false (.inl ht))]
        rfl
      · show liftStation h s = _
        unfold liftStation
        rw [hcatch]
        refine (if_pos hcan).trans ?_
        have hrun : s.heads[h].dwellTimer.isRunning = true := by rw [show s.heads[h].dwellTimer = .running n from ht]; rfl
        rw [if_pos hrun, addReason_some (r := r) (by rw [State.modHead_self]; exact hr) (by rw [State.modHead_self]; exact hc),
          State.modHead_modHead, State.modHead_modHead]
        rfl

end Sys2Proof.Machine
end

section
/-! PROOF. OUTFEED, the reject queue and its gate (spec/02 R40, spec/08 R139 to R145, spec/09 R158). -/

namespace Sys2Proof.Machine

/-! ## OUTFEED -/

/-- The record as it is handed on: DOSE_UNKNOWN where a result was still to come (spec/07 R133). -/
def handedRecord (x : Head) (r : CanRecord) : CanRecord :=
  if x.pendingResult = none then r else r.withReason .doseUnknown

theorem withReason_seq (r : CanRecord) (k : Reason) : (r.withReason k).seq = r.seq := by
  unfold CanRecord.withReason
  split_ifs <;> rfl

theorem withReason_slot (r : CanRecord) (k : Reason) : (r.withReason k).slot = r.slot := by
  unfold CanRecord.withReason
  split_ifs <;> rfl

theorem handedRecord_seq (x : Head) (r : CanRecord) : (handedRecord x r).seq = r.seq := by
  unfold handedRecord
  split_ifs
  · rfl
  · exact withReason_seq r _

theorem handedRecord_slot (x : Head) (r : CanRecord) : (handedRecord x r).slot = r.slot := by
  unfold handedRecord
  split_ifs
  · rfl
  · exact withReason_slot r _

/-- A result still to come is dropped, and the record says so (spec/07 R133). -/
theorem doseUnknown_eq {h : Fin 16} {s : State} {r : CanRecord} (hr : s.heads[h].record = some r)
    (hc : s.heads[h].cycle ≠ .waiting) : doseUnknown h s = s.modHead h fun x =>
      { x with record := some (handedRecord s.heads[h] r), pendingResult := none } := by
  by_cases hp : s.heads[h].pendingResult = none
  · have hstays : doseUnknown h s = s := if_neg (by rw [hp]; exact Bool.false_ne_true)
    rw [hstays, handedRecord, if_pos hp]
    refine (State.modHead_id s h _ ?_).symm
    rw [← hr, ← hp]
  · have hsome : s.heads[h].pendingResult.isSome = true := Option.isSome_iff_ne_none.mpr hp
    rw [doseUnknown, if_pos hsome, handedRecord, if_neg hp, addReason_some hr hc, State.modHead_modHead]

/-- OUTFEED once the window is closed and the decision taken. -/
theorem outfeed_eq {h : Fin 16} {s : State} {r : CanRecord} (hr : s.heads[h].record = some r)
    (hw : s.heads[h].window = .closed) (hd : s.heads[h].decided = true) (hc : s.heads[h].cycle ≠ .waiting) :
    stationPhase h .outfeed s = handOn h (s.modHead h fun x =>
      { x with record := some (handedRecord s.heads[h] r), pendingResult := none }) := by
  refine (if_pos (holdsCan_some hr)).trans ?_
  rw [catchUp_closed hw hd, doseUnknown_eq hr hc]

/-- Hands on alike from states that differ in the awaiting list alone, once the can has left it. -/
theorem handOn_congr {h : Fin 16} {s t : State} {r : CanRecord} (hs : s.heads[h].record = some r)
    (ht : t.heads[h].record = some r) (hx : s.heads[h].service = t.heads[h].service)
    (hd : departAwaiting h r.seq s = departAwaiting h r.seq t) : handOn h s = handOn h t := by
  simp only [handOn, hs, ht, hx, hd]

/-- The record's verdict (spec/08 R139). -/
theorem verdictOf_eq (w : CanRecord) : verdictOf w = if w.reasons = [] ∧ w.more = false then .good else .reject := by
  refine if_congr ?_ rfl rfl
  simp

/-- A hand-on of a can that stands in the awaiting list no more. -/
theorem handOn_absent {h : Fin 16} {s : State} {w : CanRecord} (hw : s.heads[h].record = some w)
    (hn : ∀ b ∈ s.infeed.awaiting, ¬(b.head = h ∧ b.seq = w.seq)) :
    handOn h s = dropReference w.slot (
      if s.heads[h].service = .disabling then
        headReport h .disableComplete ((takeRecord w (s.modHead h fun x =>
          { x with record := none, cycle := .empty, headDown := false })).modHead h fun x =>
            { x with service := .disabled, returnState := none, ventValve := false })
      else takeRecord w (s.modHead h fun x => { x with record := none, cycle := .empty, headDown := false })) := by
  simp only [handOn, hw, departAwaiting_none h w.seq s hn]

/-- The verdict unit's act on a record (spec/08 R139 to R141). -/
theorem takeRecord_eq (w : CanRecord) (s : State) : takeRecord w s = { s with verdicts := { s.verdicts with
    log := s.verdicts.log ++ [{ w with verdict := some (if w.reasons = [] ∧ w.more = false then .good else .reject) }]
    rejects := if w.reasons = [] ∧ w.more = false then s.verdicts.rejects
      else s.verdicts.rejects ++ [{ seq := w.seq, due := s.tracker.absolute + rejectDistance s.config, fired := false
                                    confirmEnd := none }] } } := by
  simp only [takeRecord, verdictOf_eq]
  by_cases hg : w.reasons = [] ∧ w.more = false
  · simp only [if_pos hg]
    rfl
  · simp only [if_neg hg]
    rfl

/-- A can behind another one in the awaiting list leaves it, and the one before owes its debt (log 18). -/
theorem departAwaiting_owed {h : Fin 16} {q : Nat} {s : State} {before rest : List AwaitEntry} {a e : AwaitEntry}
    (hl : s.infeed.awaiting = before ++ a :: e :: rest) (he : e.head = h ∧ e.seq = q)
    (hone : ∀ b ∈ before ++ [a], ¬(b.head = h ∧ b.seq = q))
    (hold : ∀ b : AwaitEntry, s.infeed.awaiting.head? = some b → b.settled = false) (hdebt : s.infeed.debt ≤ 16) :
    departAwaiting h q s = s.modInfeed fun i =>
      { i with awaiting := before ++ { a with owed := a.owed + e.owed + 1 } :: rest } := by
  have hany : (s.infeed.awaiting.any fun e => decide (e.head = h ∧ e.seq = q)) = true :=
    List.any_eq_true.mpr ⟨e, by rw [hl]; simp, decide_eq_true he⟩
  rw [departAwaiting, if_pos hany, hl, dropDeparted_owed h q before rest a e hone he]
  refine releaseSettled_none _ (fun b hb => ?_) hdebt
  cases before with
  | nil =>
    obtain rfl : { a with owed := a.owed + e.debt } = b := by simpa [State.modInfeed] using hb
    exact hold a (by rw [hl]; rfl)
  | cons c cs => exact hold b (by rw [hl]; simpa [State.modInfeed] using hb)

/-! ## The reject queue -/

theorem setCondition_rejectUnconfirmed_modVerdicts (f : VerdictUnit → VerdictUnit) (s : State) :
    setCondition .rejectUnconfirmed (s.modVerdicts f) = (setCondition .rejectUnconfirmed s).modVerdicts f :=
  setCondition_comm .rejectUnconfirmed (g := State.modVerdicts f) (fun _ => rfl) (fun _ => rfl) (fun _ _ => rfl)
    (fun _ _ => rfl) (fun _ => rfl) (fun _ => rfl) s

/-- The entry is FIRED and its confirm end is the position (spec/08 R145). -/
abbrev RejectEntry.endsAt (now : Nat) (e : RejectEntry) : Prop := e.fired = true ∧ e.confirmEnd = some now

/-- The entry is QUEUED and due at the position (spec/08 R142). -/
abbrev RejectEntry.dueAt (now : Nat) (e : RejectEntry) : Prop := e.fired = false ∧ e.due = now

/-- The entries whose confirm end is the present position leave; if there is one the condition is set (spec/08 R145). -/
theorem reachConfirmEnds_eq (s : State) :
    reachConfirmEnds s =
      { if ∃ e : RejectEntry, e ∈ s.verdicts.rejects ∧ e.endsAt s.tracker.absolute then setCondition .rejectUnconfirmed s
        else s with
        verdicts := { s.verdicts with
          rejects := s.verdicts.rejects.filter fun e => ¬e.endsAt s.tracker.absolute } } := by
  have hhit : (fun e : RejectEntry => e.fired && decide (e.confirmEnd = some s.tracker.absolute)) =
      fun e => decide (e.endsAt s.tracker.absolute) :=
    funext fun e => by simp only [Bool.decide_and, Bool.decide_eq_true]
  have hkept : (fun e : RejectEntry => !(e.fired && decide (e.confirmEnd = some s.tracker.absolute))) =
      fun e => decide (¬e.endsAt s.tracker.absolute) :=
    funext fun e => by simp only [decide_not, Bool.decide_and, Bool.decide_eq_true]
  simp only [reachConfirmEnds]
  by_cases h : ∃ e : RejectEntry, e ∈ s.verdicts.rejects ∧ e.endsAt s.tracker.absolute
  · obtain ⟨e, he, hends⟩ := h
    have hany : (s.verdicts.rejects.any fun e => e.fired && decide (e.confirmEnd = some s.tracker.absolute)) = true :=
      List.any_eq_true.mpr ⟨e, he, by simpa using hends⟩
    have hverdicts : (setCondition .rejectUnconfirmed s).verdicts = s.verdicts := by simp
    rw [if_pos hany, if_pos ⟨e, he, hends⟩, setCondition_rejectUnconfirmed_modVerdicts]
    simp only [State.modVerdicts, hverdicts, hkept]
  · have hany : ¬(s.verdicts.rejects.any fun e => e.fired && decide (e.confirmEnd = some s.tracker.absolute)) = true := by
      intro hany
      obtain ⟨e, he, hends⟩ := List.any_eq_true.mp hany
      exact h ⟨e, he, by simpa using hends⟩
    have hall : (s.verdicts.rejects.filter fun e => ¬e.endsAt s.tracker.absolute) = s.verdicts.rejects :=
      List.filter_eq_self.mpr fun e he => decide_eq_true fun hends => h ⟨e, he, hends⟩
    rw [if_neg hany, if_neg h, hall]

/-- The entries due at the present position fire the gate (spec/08 R142). -/
theorem fireRejects_eq (s : State) :
    fireRejects s = { s with verdicts := { s.verdicts with
      gateOn := if ∃ e : RejectEntry, e ∈ s.verdicts.rejects ∧ e.dueAt s.tracker.absolute then true else s.verdicts.gateOn
      gateTimer := if ∃ e : RejectEntry, e ∈ s.verdicts.rejects ∧ e.dueAt s.tracker.absolute then
        .running (gatePulse s.config) else s.verdicts.gateTimer
      rejects := s.verdicts.rejects.map fun e => if e.dueAt s.tracker.absolute then
        { e with fired := true, confirmEnd := some (s.tracker.absolute + confirmWindow s.config) } else e } } := by
  have hdue (e : RejectEntry) : (!e.fired && decide (e.due = s.tracker.absolute)) = true ↔ e.dueAt s.tracker.absolute := by simp
  have hfired (e : RejectEntry) : (if (!e.fired && decide (e.due = s.tracker.absolute)) = true then
      { e with fired := true, confirmEnd := some (e.due + confirmWindow s.config) } else e) =
      if e.dueAt s.tracker.absolute then
        { e with fired := true, confirmEnd := some (s.tracker.absolute + confirmWindow s.config) } else e := by
    by_cases he : e.dueAt s.tracker.absolute
    · rw [if_pos ((hdue e).mpr he), if_pos he, he.2]
    · rw [if_neg (mt (hdue e).mp he), if_neg he]
  simp only [fireRejects]
  by_cases h : ∃ e : RejectEntry, e ∈ s.verdicts.rejects ∧ e.dueAt s.tracker.absolute
  · obtain ⟨e, he, hat⟩ := h
    rw [if_pos (List.any_eq_true.mpr ⟨e, he, (hdue e).mpr hat⟩), if_pos ⟨e, he, hat⟩, if_pos ⟨e, he, hat⟩]
    simp only [State.modVerdicts, hfired]
  · have hany : ¬(s.verdicts.rejects.any fun e => !e.fired && decide (e.due = s.tracker.absolute)) = true := by
      intro hany
      obtain ⟨e, he, hat⟩ := List.any_eq_true.mp hany
      exact h ⟨e, he, (hdue e).mp hat⟩
    have hall : (s.verdicts.rejects.map fun e => if e.dueAt s.tracker.absolute then
        { e with fired := true, confirmEnd := some (s.tracker.absolute + confirmWindow s.config) } else e) =
        s.verdicts.rejects := by
      refine (List.map_congr_left fun e he => ?_).trans (List.map_id _)
      exact if_neg fun hat => h ⟨e, he, hat⟩
    rw [if_neg hany, if_neg h, if_neg h, hall]

/-- Settles O58: the hand-on with and without an entry in the awaiting list, the gate at a position, and its two commands. -/
theorem verdictsAndRejects : Obligations.VerdictsAndRejects := by
  refine ⟨fun h s r hr hw hd hc => ⟨fun before rest a e ha heh hes hone hold hdebt => ?departs, fun hn => ?handed⟩,
    fun h s hr => if_neg fun hcan => holdsCan_iff.mp hcan hr, fun raised pos s => ?position,
    fun before rest e s hq hf hb => ?confirmed, fun s hn => ?unmatched, fun n s ht => ?pulse, fun s ht => ?still⟩
  case departs =>
    have hne : ∀ b ∈ before ++ [a], ¬(b.head = h ∧ b.seq = r.seq) := fun b hb => hone b (by
      rw [List.mem_append, List.mem_singleton] at hb
      exact List.mem_append.mpr (hb.imp id fun hba => List.mem_cons.mpr (.inl hba)))
    rw [outfeed_eq hr hw hd hc, outfeed_eq (s := { s with infeed := { s.infeed with
      awaiting := before ++ { a with owed := a.owed + e.owed + 1 } :: rest } }) hr hw hd hc]
    refine handOn_congr (r := handedRecord s.heads[h] r) (by rw [State.modHead_self]) (by rw [State.modHead_self])
      (by rw [State.modHead_self, State.modHead_self]) ?_
    rw [handedRecord_seq]
    refine (departAwaiting_owed (s := s.modHead h _) ha ⟨heh, hes⟩ hne hold hdebt).trans (departAwaiting_none _ _ _ ?_).symm
    intro b hb
    have hb : b ∈ before ++ { a with owed := a.owed + e.owed + 1 } :: rest := hb
    simp only [List.mem_append, List.mem_cons] at hb
    obtain hb | rfl | hb := hb
    · exact hone b (by simp [hb])
    · exact hone a (by simp)
    · exact hone b (by simp [hb])
  case handed =>
    intro x w good entry gone on handed slot
    have hw' : handedRecord s.heads[h] r = w := rfl
    have hself := State.modHead_self s h fun x => { x with record := some w, pendingResult := none }
    have hrec : (s.modHead h fun x => { x with record := some w, pendingResult := none }).heads[h].record = some w := by
      rw [hself]
    have hservice : (s.modHead h fun x => { x with record := some w, pendingResult := none }).heads[h].service = x.service := by
      rw [hself]
    have htaken : takeRecord w ((s.modHead h fun x => { x with record := some w, pendingResult := none }).modHead h fun x =>
        { x with record := none, cycle := .empty, headDown := false }) = on gone := by
      have hseq : w.seq = r.seq := handedRecord_seq _ _
      rw [takeRecord_eq, State.modHead_modHead]
      simp only [on, entry, ← hseq]
      rfl
    have hhanded : (if x.service = .disabling then headReport h .disableComplete ((on gone).modHead h fun x =>
        { x with service := .disabled, returnState := none, ventValve := false }) else on gone) = handed := by
      have hgone : ((on gone).modHead h fun x => { x with service := .disabled, returnState := none, ventValve := false }) =
          on { gone with service := .disabled, returnState := none, ventValve := false } :=
        State.modHead_of_set rfl _
      rw [hgone]
    have hslots : handed.slots = s.slots := by
      simp only [handed]
      split_ifs
      · simp [on]
      · rfl
    have hallow : handed.allowances = s.allowances := by
      simp only [handed]
      split_ifs
      · simp [on]
      · rfl
    have hslot : w.slot = r.slot := handedRecord_slot _ _
    rw [outfeed_eq hr hw hd hc, hw', handOn_absent hrec (fun b hb => by
      rw [← hw', handedRecord_seq]; exact hn b hb), hservice, htaken, hhanded, dropReference_eq, hslots, hallow, hslot]
  case position =>
    intro now ends due u noted fires
    have hnoted : noted.tracker = s.tracker ∧ noted.config = s.config := by
      simp only [noted]
      split_ifs <;> simp
    have hdue : (∃ e : RejectEntry, e ∈ (u.rejects.filter fun e => ¬ends e) ∧ e.dueAt now) ↔ fires := by
      refine exists_congr fun e => ⟨fun ⟨he, hat⟩ => ⟨(List.mem_filter.mp he).1, hat⟩, fun ⟨he, hat⟩ => ⟨?_, hat⟩⟩
      exact List.mem_filter.mpr ⟨he, decide_eq_true fun hends => ne_true_of_eq_false hat.1 hends.1⟩
    have hreach : reachConfirmEnds s = { noted with verdicts := { u with rejects := u.rejects.filter fun e => ¬ends e } } :=
      reachConfirmEnds_eq s
    show fireRejects (reachConfirmEnds s) = _
    rw [hreach, fireRejects_eq]
    clear_value noted
    obtain ⟨htracker, hconfig⟩ := hnoted
    simp only [htracker, hconfig]
    by_cases hf : fires
    · rw [if_pos (hdue.mpr hf), if_pos (hdue.mpr hf), if_pos hf, if_pos hf]
    · rw [if_neg (mt hdue.mp hf), if_neg (mt hdue.mp hf), if_neg hf, if_neg hf]
  case confirmed =>
    have hany : s.verdicts.rejects.any RejectEntry.fired = true :=
      List.any_eq_true.mpr ⟨e, by rw [hq]; simp, hf⟩
    refine congrArg _ ((if_pos hany).trans ?_)
    simp only [State.modVerdicts, hq, withoutFired_eq before rest e hf hb]
  case unmatched =>
    have hany : s.verdicts.rejects.any RejectEntry.fired = false :=
      List.any_eq_false.mpr fun d hdq => by rw [hn d hdq]; exact Bool.false_ne_true
    exact congrArg _ (if_neg (by rw [hany]; exact Bool.false_ne_true))
  case pulse => exact congrArg _ (if_pos (by rw [ht]; rfl))
  case still => exact congrArg _ (if_neg (isRunning_eq_false (.inl ht)))

end Sys2Proof.Machine
end

section
/-! PROOF. GATE and INFEED (spec/02 R25, R32, spec/03 R50 to R54, spec/05 R104, R105). -/

namespace Sys2Proof.Machine

/-! ## The gate decision -/

theorem withhold_any_false (w : Withhold) : w.any = false ↔ w.noRecipe = false ∧ w.holdRequest = false ∧ w.gas = false ∧
    w.wake = false ∧ w.temp = false ∧ w.position = false ∧ w.simulated = false ∧ w.stop = false ∧ w.noCylinder = false := by
  simp only [Withhold.any, Bool.or_eq_false_iff, and_assoc]

theorem gateAdmits_iff (h : Fin 16) (s : State) : gateAdmits h s = true ↔
    s.infeed.withhold.any = false ∧ s.heads[h].service = .enabled ∧ s.heads[h].cycle = .empty ∧ roomTaken s < 64 := by
  simp only [gateAdmits, Bool.and_eq_true, Bool.not_eq_true', beq_iff_eq, decide_eq_true_eq, and_assoc]
  exact Iff.rfl

/-! ## The hand-on before INFEED -/

/-- A record handed on leaves its head EMPTY (spec/02 R40). -/
theorem handOn_emptied {h : Fin 16} {s : State} (hr : s.heads[h].record.isSome = true) :
    (handOn h s).heads[h].record = none ∧ (handOn h s).heads[h].cycle = .empty := by
  obtain ⟨r, hr⟩ := Option.isSome_iff_exists.mp hr
  simp only [handOn, hr]
  split_ifs
  · simp
  · simp

theorem catchUp_record {h : Fin 16} {s : State} (hr : s.heads[h].record.isSome = true) :
    (catchUp h s).heads[h].record.isSome = true := by
  by_cases hw : s.heads[h].window = .closed
  · rw [catchUp, if_pos (by exact hr), if_pos hw]
    by_cases hd : s.heads[h].decided = true
    · rw [lateDecision_decided hd]; exact hr
    · have hkept := kept_addReason h .noCharge s
      obtain ⟨-, hrec, -⟩ := chargeDecision_keeps h (addReason h .noCharge s)
      rw [show lateDecision h s = chargeDecision h (addReason h .noCharge s) from if_pos ⟨hr, by simpa using hd⟩, hrec, hkept.rc]
      exact hr
  · obtain ⟨hwin, hrec, hdec⟩ := chargeClose_keeps hr
    rw [catchUp_missed hr hw, catchUp_closed hwin hdec]
    exact hrec

theorem doseUnknown_record {h : Fin 16} {s : State} (hr : s.heads[h].record.isSome = true) :
    (doseUnknown h s).heads[h].record.isSome = true := by
  unfold doseUnknown
  split_ifs
  · rw [State.modHead_self]
    exact ((kept_addReason h .doseUnknown s).rc h).trans hr
  · exact hr

/-- After OUTFEED a head that held a can is EMPTY. -/
theorem outfeed_emptied {h : Fin 16} {s : State} (hr : s.heads[h].record ≠ none) :
    (stationPhase h .outfeed s).heads[h].record = none ∧ (stationPhase h .outfeed s).heads[h].cycle = .empty := by
  have hcan : s.heads[h].record.isSome = true := Option.isSome_iff_ne_none.mpr hr
  have hout : stationPhase h .outfeed s = handOn h (doseUnknown h (catchUp h s)) := if_pos hcan
  rw [hout]
  exact handOn_emptied (doseUnknown_record (catchUp_record hcan))

/-! ## The pocket at INFEED -/

/-- The head as INFEED meets its pocket (spec/02 R32, R41). -/
def Head.atInfeed (x : Head) : Head := { x with ventValve := false, window := .notOpen, decided := false, flowDetected := false }

/-- The infeed with the pocket's admission used. -/
def Infeed.admissionUsed (h : Fin 16) (i : Infeed) : Infeed := { i with admitted := i.admitted.set h false }

/-- The state as INFEED meets the pocket. -/
def State.atInfeed (h : Fin 16) (s : State) : State := (s.modHead h Head.atInfeed).modInfeed (Infeed.admissionUsed h)

theorem infeed_empty {h : Fin 16} {s : State} (hr : s.heads[h].record = none) :
    stationPhase h .infeed s = infeedStation h s := by
  have hout : outfeedStation h s = s := if_neg fun hcan => holdsCan_iff.mp hcan hr
  exact congrArg (infeedStation h) hout

theorem emptyInfeed_eq {h : Fin 16} {s : State} : emptyInfeed h s =
    if s.heads[h].service = .disabling ∧ s.heads[h].cycle = .empty then
      headReport h .disableComplete (s.modHead h fun x =>
        { x with service := .disabled, returnState := none, ventValve := false })
    else s := rfl

/-- No can present. -/
theorem infeedStation_none {h : Fin 16} {s : State} (hp : s.sensors.pocket = false) :
    infeedStation h s = emptyInfeed h (s.atInfeed h) := if_neg (ne_true_of_eq_false hp)

/-- How often a property holds in a vector once one place is rewritten. -/
theorem countP_toList_set {α : Type} {n : Nat} (p : α → Bool) (v : Vector α n) (i : Fin n) (x : α) :
    (v.set i x).toList.countP p + (if p v[i] then 1 else 0) = v.toList.countP p + (if p x then 1 else 0) := by
  have hlt : i.val < v.toList.length := by simp
  have hget : v.toList[i.val] = v[i] := by simp
  have hpos : (if p v[i] = true then 1 else 0) ≤ v.toList.countP p := by
    split_ifs with hp
    · exact List.countP_pos_iff.mpr ⟨v[i], by rw [← hget]; exact List.getElem_mem hlt, hp⟩
    · exact Nat.zero_le _
  rw [Vector.toList_set, List.countP_set hlt, hget]
  omega

/-- The number of cans in process once one head is rewritten. -/
theorem inProcess_modHead (h : Fin 16) (f : Head → Head) (s : State) (hf : (f s.heads[h]).holdsCan = s.heads[h].holdsCan) :
    inProcess (s.modHead h f) = inProcess s := by
  have hcount := countP_toList_set Head.holdsCan s.heads h (f s.heads[h])
  rw [hf] at hcount
  exact Nat.add_right_cancel hcount

/-- The pocket was admitted, or room remains (spec/03 R52). -/
theorem admitted_or_room (h : Fin 16) (s : State) :
    (s.infeed.admitted[h] = true ∨ roomTaken (s.atInfeed h) < logRoom) ↔ (s.infeed.admitted[h] = true ∨ roomTaken s < 64) := by
  by_cases ha : s.infeed.admitted[h] = true
  · exact iff_of_true (.inl ha) (.inl ha)
  · have hsame : s.atInfeed h = s.modHead h Head.atInfeed := by
      have ha' : s.infeed.admitted[h] = false := by simpa using ha
      have hset : s.infeed.admitted.set h false = s.infeed.admitted := by
        rw [← ha']; exact Vector.set_getElem_self _
      simp only [State.atInfeed, State.modInfeed, Infeed.admissionUsed, State.modHead_infeed, hset]
      rfl
    have hroom : roomTaken (s.atInfeed h) = roomTaken s := by
      rw [hsame, roomTaken, inProcess_modHead h _ s rfl]
      rfl
    rw [hroom]
    exact Iff.rfl

/-- A can that is not recorded is a stray (spec/03 R52). -/
theorem infeedStation_stray {h : Fin 16} {s : State} (hp : s.sensors.pocket = true)
    (hn : activeSlot s = none ∨ ¬(s.infeed.admitted[h] = true ∨ roomTaken s < 64)) :
    infeedStation h s = emptyInfeed h ((s.atInfeed h).modInfeed fun i =>
      { i with strayCount := min countLimit (i.strayCount + 1) }) := by
  refine (if_pos hp).trans ?_
  split
  · rename_i slot ha
    exact if_neg fun hroom => hn.elim (fun he => absurd (he.symm.trans ha) (by simp))
      fun hno => hno ((admitted_or_room h s).mp hroom)
  · rfl

/-- A can that is recorded (spec/03 R52). -/
theorem infeedStation_taken {h : Fin 16} {s : State} {slot : Fin 2} (hp : s.sensors.pocket = true)
    (ha : activeSlot s = some slot) (hroom : s.infeed.admitted[h] = true ∨ roomTaken s < 64) :
    infeedStation h s = takeCan h (createRecord h slot (s.atInfeed h)) := by
  refine (if_pos hp).trans ?_
  split
  · rename_i slot' ha'
    obtain rfl : slot = slot' := Option.some.inj (ha.symm.trans ha')
    exact if_pos ((admitted_or_room h s).mpr hroom)
  · rename_i ha'
    exact absurd (ha.symm.trans ha') (by simp)

/-! ## The can taken -/

theorem takeCan_plain {h : Fin 16} {s : State} (hv : s.heads[h].service = .enabled ∨ s.heads[h].service = .disabling) :
    takeCan h s = s := by
  unfold takeCan
  obtain hv | hv := hv <;> rw [hv]

theorem takeCan_fault {h : Fin 16} {s : State} (hv : s.heads[h].service = .zeroing ∨ s.heads[h].service = .outOfService) :
    takeCan h s = addReason h .headFault s := by
  unfold takeCan
  obtain hv | hv := hv <;> rw [hv]

theorem takeCan_disabled {h : Fin 16} {s : State} (hv : s.heads[h].service = .disabled) :
    takeCan h s = headReport h .disableRequest
      ((addReason h .headFault s).modHead h fun x => { x with service := .disabling, returnState := some .zeroing }) := by
  unfold takeCan
  rw [hv]

/-- Settles O47: the gate's decision; the hand-on of a record still held; and the pocket met by an EMPTY head. -/
theorem cansEnterAtInfeed : Obligations.CansEnterAtInfeed := by
  refine ⟨fun h s => ?gate, fun h s hr => ?held, fun h s hr => ?pocket⟩
  case gate =>
    intro w admits admitted
    have hadmits : gateAdmits h s = true ↔ admits := by
      rw [gateAdmits_iff, withhold_any_false]
      simp only [admits, and_assoc]
      exact Iff.rfl
    refine ⟨fun ha hb => ?_, fun ha hb => ?_, fun hn => if_neg (mt hadmits.mp hn)⟩
    · exact (if_pos (hadmits.mpr ha)).trans (if_neg hb)
    · exact (if_pos (hadmits.mpr ha)).trans (if_pos hb)
  case held =>
    obtain ⟨hnone, hempty⟩ := outfeed_emptied hr
    refine ⟨?_, hnone, hempty⟩
    exact (infeed_empty hnone).symm
  case pocket =>
    intro x i put left room infeed
    have hinfeed : infeed = infeedStation h s := infeed_empty hr
    have hleft (j : Infeed) : emptyInfeed h (put x j) = left j := by
      have hself : (put x j).heads[h] = x := Vector.getElem_set_self h.isLt
      have hput : ((put x j).modHead h fun x => { x with service := .disabled, returnState := none, ventValve := false }) =
          put { x with service := .disabled, returnState := none, ventValve := false } j :=
        State.modHead_of_set rfl _
      rw [emptyInfeed_eq, hself, hput]
    have hat : s.atInfeed h = put x i := rfl
    rw [hinfeed]
    refine ⟨fun hp => ?_, fun hp hn => ?_, fun slot hp ha hroom => ?_⟩
    · rw [infeedStation_none hp, hat, hleft]
    · rw [infeedStation_stray hp hn, hat, ← hleft]
      rfl
    · intro r bound j put fault
      have hcreate : createRecord h slot (s.atInfeed h) = put { x with cycle := .seated, record := some bound } := by
        have hgive (r : CanRecord) (k : Infeed) :
            (({ s with
              heads := s.heads.set h x, infeed := k
              slots := s.slots.set slot { s.slots[slot] with refs := s.slots[slot].refs + 1 } } : State).modHead h fun y =>
                { y with record := some r, cycle := .seated }) =
            { s with
              heads := s.heads.set h { x with cycle := .seated, record := some r }, infeed := k
              slots := s.slots.set slot { s.slots[slot] with refs := s.slots[slot].refs + 1 } } :=
          State.modHead_of_set rfl _
        cases hq : s.infeed.fillQueue with
        | nil =>
          have hq' : (s.atInfeed h).infeed.fillQueue = [] := hq
          have hqi : i.fillQueue = [] := hq
          simp only [createRecord, hq', put, j, bound, hqi, nextSequence]
          exact (hgive r { i with
            nextSeq := nextSequence i.nextSeq
            awaiting := i.awaiting ++ [{ head := h, seq := i.nextSeq, settled := false, owed := 0 }] }).trans
            (by rw [hqi, if_pos trivial]; rfl)
        | cons e rest =>
          have hq' : (s.atInfeed h).infeed.fillQueue = e :: rest := hq
          have hqi : i.fillQueue = e :: rest := hq
          simp only [createRecord, hq', put, j, bound, hqi, nextSequence]
          cases hm : e.mass with
          | none =>
            have hb (r : CanRecord) : r.bind e = { r with boundLost := true } := by rw [CanRecord.bind, hm]
            rw [hb]
            exact hgive { r with boundLost := true } { i with nextSeq := nextSequence i.nextSeq, fillQueue := rest }
          | some m =>
            have hb (r : CanRecord) : r.bind e = { r with tag := some e.tag, fillMass := some m } := by rw [CanRecord.bind, hm]
            rw [hb]
            exact hgive { r with tag := some e.tag, fillMass := some m } { i with nextSeq := nextSequence i.nextSeq, fillQueue := rest }
      have hself (y : Head) : (put y).heads[h] = y := Vector.getElem_set_self h.isLt
      have hmod (y : Head) (f : Head → Head) : (put y).modHead h f = put (f y) := State.modHead_of_set rfl f
      have hfault : bound.withReason .headFault = fault := by
        have hreasons : bound.reasons = [] := by
          simp only [bound]
          split
          · rfl
          · split <;> rfl
        have hnew : bound.withReason .headFault = { bound with reasons := bound.reasons ++ [.headFault] } :=
          (if_neg (by rw [hreasons]; simp)).trans (if_pos (by rw [hreasons]; decide))
        rw [hnew, hreasons]
        rfl
      have hadd : addReason h .headFault (put { x with cycle := .seated, record := some bound }) =
          put { x with cycle := .seated, record := some fault } := by
        rw [addReason_some (r := bound) (by rw [hself]) (by rw [hself]; exact Cycle.noConfusion), hmod, hfault]
      rw [infeedStation_taken hp ha hroom, hcreate]
      refine ⟨fun hv => takeCan_plain (by rw [hself]; exact hv), fun hv => ?_, fun hv => ?_⟩
      · rw [takeCan_fault (by rw [hself]; exact hv), hadd]
      · rw [takeCan_disabled (by rw [hself]; exact hv), hadd, hmod]

end Sys2Proof.Machine
end

section
/-! PROOF. What one act of the part does, for the laws that every step keeps. `Act` lists the acts at the grain at which every
law holds between two of them; each operation of the model is a run of such acts, and each law is then proved act by act. Where
an act is legal only because a law holds, its premise says what the law gives: `HeadShape`, the part of the pairing law that
speaks of one head alone. -/

namespace Sys2Proof.Machine

/-! ## Edits of one part -/

/-- What the infeed block and the recipe store know of a can: its slot, its sequence number and its binding. -/
def CanRecord.filing (r : CanRecord) : Fin 2 × Nat × Option Nat × Option Nat × Bool :=
  (r.slot, r.seq, r.tag, r.fillMass, r.boundLost)

def Head.can (x : Head) : Option (Fin 2 × Nat × Option Nat × Option Nat × Bool) := x.record.map CanRecord.filing

/-- The clauses of the pairing law about one head. -/
structure HeadShape (x : Head) : Prop where
  charging   : x.cycle = .charging → ∃ c : Fin 4, x.paired = some c
  paired     : ∀ c : Fin 4, x.paired = some c → x.cycle = .charging
  inlets     : ∀ c : Fin 4, x.inlets[c] = true ↔ x.paired = some c
  empty      : x.record = none ↔ x.cycle = .empty
  probing    : x.probeStep = .idle ↔ x.cycle ≠ .probing
  probeValve : x.probeValve = true → x.probeStep = .build
  asks       : x.cycle = .waiting ∨ x.cycle = .charging →
    (∃ r t, x.record = some r ∧ r.target = some t) ∧ x.window = .isOpen ∧ x.decided = true ∧ x.pendingResult = none
  result     : x.pendingResult ≠ none → (x.cycle = .charged ∨ x.cycle = .dwelling ∨ x.cycle = .lifted) ∧ x.decided = true
  early      : x.cycle = .seated ∨ x.cycle = .crimped ∨ x.cycle = .probing ∨ x.cycle = .probed →
    x.decided = false ∧ x.window ≠ .closed

/-- A head as the pairing law has it, with its place in the grant queue. -/
structure HeadFits (s : State) (h : Fin 16) : Prop where
  shape  : HeadShape s.heads[h]
  queued : h ∈ s.grantQueue ↔ s.heads[h].cycle = .waiting

/-- A legal change of one head, with the grant queue after it: the can stays, and where the head was in shape and its items in
range they are so again. -/
structure HeadEdit (s : State) (h : Fin 16) (y : Head) (q : List (Fin 16)) : Prop where
  can    : y.can = s.heads[h].can
  shape  : HeadFits s h → HeadShape y
  queued : HeadFits s h → (h ∈ q ↔ y.cycle = .waiting)
  others : ∀ j : Fin 16, j ≠ h → (j ∈ q ↔ j ∈ s.grantQueue)
  nodup  : s.grantQueue.Nodup → q.Nodup
  ranges : FiguresSafe s → HeadFits s h → HeadRanges s.heads[h] → HeadRanges y

/-- One head and the grant queue written. -/
def State.withHead (h : Fin 16) (y : Head) (q : List (Fin 16)) (s : State) : State :=
  { s with heads := s.heads.set h y, grantQueue := q }

/-- A legal change of one cylinder that moves it neither into nor out of DISCHARGING. -/
structure CylinderEdit (x y : Cylinder) : Prop where
  safe        : CylinderSafe x → CylinderSafe y
  discharging : y.state = .discharging ↔ x.state = .discharging
  owner       : x.state = .discharging → y.owner = x.owner ∧ y.shot.isSome = x.shot.isSome
  ranges      : x.pressure ≤ 4000 ∧ x.failures ≤ 3 → y.pressure ≤ 4000 ∧ y.failures ≤ 3

/-- A change of the gas supply monitor with the withhold reasons it owns. -/
structure SupplyEdit (g g' : Gas) (w w' : Withhold) : Prop where
  gas      : w.gas = g.throttleOn → w'.gas = g'.throttleOn
  wake     : (w.wake = true ↔ g.standby = .waking) → (w'.wake = true ↔ g'.standby = .waking)
  temp     : (g.tempGood = true ↔ g.holdTimer = .stopped) → (w.temp = true ↔ g.holdTimer = .expired) →
    (w'.temp = true ↔ g'.holdTimer = .expired)
  tempGood : (g.tempGood = true ↔ g.holdTimer = .stopped) → (g'.tempGood = true ↔ g'.holdTimer = .stopped)
  others   : w' = { w with gas := w'.gas, wake := w'.wake, temp := w'.temp }
  buffer   : g.buffer ≤ 6000 → g'.buffer ≤ 6000
  heldTemp : -400 ≤ g.heldTemp ∧ g.heldTemp ≤ 800 → -400 ≤ g'.heldTemp ∧ g'.heldTemp ≤ 800

/-- A change of the tracker that neither enters nor leaves LOCKED and keeps the source. -/
structure TrackerEdit (x y : Tracker) : Prop where
  locked   : y.state = .locked ↔ x.state = .locked
  source   : y.source = x.source
  position : x.position < 4096 → y.position < 4096
  revolution : x.revolution < 4294967296 → y.revolution < 4294967296

/-- A change of the infeed's counters and queues that moves no admission and no awaiting can. -/
structure InfeedEdit (i j : Infeed) : Prop where
  withhold : j.withhold = i.withhold
  admitted : j.admitted = i.admitted
  gateOpen : j.gateOpen = i.gateOpen
  awaiting : j.awaiting = i.awaiting
  queue    : j.fillQueue = i.fillQueue ∨ j.fillQueue = []
  ranges   : InfeedRanges i → InfeedRanges j

/-- A change of the verdict unit that writes no record. -/
structure VerdictEdit (u v : VerdictUnit) : Prop where
  log       : v.log.Sublist u.log
  unmatched : u.unmatched ≤ 65535 → v.unmatched ≤ 65535

/-! ## Acts -/

/-- The pocket of a head has used its admission. -/
def State.admissionUsed (h : Fin 16) (s : State) : State :=
  s.modInfeed fun i => { i with admitted := i.admitted.set h false }

/-- The slots, allowances and withhold set of an activation (spec/09 R157, spec/06 R118). -/
def slotsActivated (i : Fin 2) (s : State) : State :=
  ((((retireSlot (otherSlot i) s).modSlot i fun x => { x with state := .active }).setSlotAllowances i
    (initialAllowance (slotRecipe s i))).modWithhold fun w => { w with noRecipe := false })

/-- One act of the part other than a reset; `free` where the host may move HOLD_REQUEST. -/
inductive Act (free : Bool) : State → State → Prop where
  | link (s : State) (l : Link) : Act free s { s with link := l }
  | sensors (s : State) (v : Sensors) : Act free s { s with sensors := v }
  | mask (s : State) (m : BitVec 16) : Act free s (s.modConds fun c => { c with mask := m })
  | condition (s : State) (k : Condition) : Act free s (setCondition k s)
  | cleared (s : State) (m : BitVec 16) : Act free s (clearNamed m s)
  | hold (s : State) (v : Bool) (hf : free = true) : Act free s (s.modWithhold fun w => { w with holdRequest := v })
  | tracker (s : State) (y : Tracker) (he : TrackerEdit s.tracker y) : Act free s { s with tracker := y }
  | locked (s : State) : Act free s (enterLocked s)
  | slipped (s : State) : Act free s (setPosition (s.modTracker fun t => { t with state := .slipped }))
  | source (s : State) (x : Source) : Act free s (selectSource x s)
  | supply (s : State) (g : Gas) (w : Withhold) (he : SupplyEdit s.gas g s.infeed.withhold w) :
      Act free s { s with gas := g, infeed := { s.infeed with withhold := w } }
  | cylinder (s : State) (c : Fin 4) (y : Cylinder) (he : CylinderEdit s.cylinders[c] y)
      (ho : y.isOut = s.cylinders[c].isOut) : Act free s (s.modCyl c fun _ => y)
  | tested (s : State) (c : Fin 4) (y : Cylinder) (he : CylinderEdit s.cylinders[c] y) :
      Act free s (allOutTest (s.modCyl c fun _ => y))
  | head (s : State) (h : Fin 16) (y : Head) (q : List (Fin 16)) (he : HeadEdit s h y q)
      (hp : y.paired = s.heads[h].paired) (hd : y.decided = s.heads[h].decided ∨ s.heads[h].record = none) :
      Act free s (s.withHead h y q)
  | decided (s : State) (h : Fin 16) (r : CanRecord) (y : Head) (q : List (Fin 16)) (he : HeadEdit s h y q)
      (hp : y.paired = s.heads[h].paired) (hr : s.heads[h].record = some r) (hd : s.heads[h].decided = false)
      (hy : y.decided = true) : Act free s ((s.unbound h r.seq).withHead h y q)
  | discharged (s : State) (c : Fin 4) (k : EndCause) : Act free s (endDischarge c k s)
  | ended (s : State) (c : Fin 4) (k : EndCause) (h : Fin 16) (y : Head) (q : List (Fin 16))
      (hp : s.heads[h].paired = some c) (hcan : y.can = s.heads[h].can) (hd : y.decided = s.heads[h].decided)
      (he : s.cylinders[c].state = .discharging → s.cylinders[c].owner = some h → HeadEdit s h y q ∧ y.paired = none) :
      Act free s ((endDischarge c k s).withHead h y q)
  | noFlow (s : State) (c : Fin 4) (h : Fin 16) (y : Head) (q : List (Fin 16)) (he : HeadEdit s h y q)
      (hp : s.heads[h].paired = some c) (hc : s.cylinders[c].state = .discharging) (hy : y.paired = none)
      (hd : y.decided = s.heads[h].decided) :
      Act free s ((s.flowFreed h c).withHead h y q)
  | granted (s : State) (c : Fin 4) (h : Fin 16) (z : Shot) (y : Head) (q : List (Fin 16)) (he : HeadEdit s h y q)
      (hc : s.cylinders[c].state = .ready) (hm : h ∈ s.grantQueue) (hy : y.paired = some c)
      (hd : y.decided = s.heads[h].decided) :
      Act free s ((s.modCyl c fun x => { x.enter .discharging with owner := some h, shot := some z }).withHead h y q)
  | infeed (s : State) (j : Infeed) (he : InfeedEdit s.infeed j) : Act free s { s with infeed := j }
  | gateRefused (s : State) (h : Fin 16) (g : Bool) (hg : g = false ∨ g = s.infeed.gateOpen) :
      Act free s (s.modInfeed fun i => { i with admitted := i.admitted.set h false, gateOpen := g })
  | gateAdmitted (s : State) (h : Fin 16) (hg : gateAdmits h s = true) :
      Act free s (s.modInfeed fun i => { i with admitted := i.admitted.set h true, gateOpen := true })
  | created (s : State) (h : Fin 16) (i : Fin 2) (hr : s.heads[h].record = none) (hw : s.heads[h].window = .notOpen)
      (hd : s.heads[h].decided = false) (ha : activeSlot s = some i)
      (hroom : s.infeed.admitted[h] = true ∨ roomTaken (s.admissionUsed h) < 64) :
      Act free s (createRecord h i (s.admissionUsed h))
  | handedOn (s : State) (h : Fin 16) (hw : s.heads[h].window = .closed) (hp : s.heads[h].pendingResult = none) :
      Act free s (handOn h s)
  | filled (s : State) (es : List FillEntry) (z : FillTally) (hfit : fillFits s.infeed es.length = true)
      (hes : ∀ e ∈ es, e.tag < 65536 ∧ ∀ m : Nat, e.mass = some m → m ≤ 9999) :
      Act free s (es.foldl applyEntry (s, z)).1
  | verdicts (s : State) (u : VerdictUnit) (he : VerdictEdit s.verdicts u) : Act free s { s with verdicts := u }
  | loaded (s : State) (i : Fin 2) (r : Recipe) (hi : loadSlot s = some i) (hr : recipeCheck r = none) :
      Act free s (s.modSlot i fun x => { x with state := .pending, recipe := some r })
  | activated (s : State) (i : Fin 2) (hi : pendingSlot s = some i) : Act free s (slotsActivated i s)
  | discarded (s : State) (i : Fin 2) (hi : pendingSlot s = some i) : Act free s (discardSlot i s)
  | configured (s : State) (m : BitVec 48) (vs : List Nat) (hc : configureCheck s m vs = none) :
      Act free s { s with config := configured s.config m vs }
  | gasTable (s : State) (ps : List Nat) (hl : ps.length = 17) (hc : gasTableCheck ps = none) :
      Act free s { s with gasTable := gasTableOf ps }
  | allowance (s : State) (i : Fin 2) (c : Fin 4) (v : Nat) (hv : v ≤ 2000)
      (hi : s.slots[i].state = .active ∨ s.slots[i].state = .retiring) : Act free s (s.setAllowance i c v)

/-- A run of acts. -/
def Acts (free : Bool) : State → State → Prop := Relation.ReflTransGen (Act free)

theorem Acts.refl {b : Bool} (s : State) : Acts b s s := Relation.ReflTransGen.refl

theorem Act.acts {b : Bool} {s t : State} (h : Act b s t) : Acts b s t := Relation.ReflTransGen.single h

theorem Acts.then {b : Bool} {s t u : State} (h : Acts b s t) (k : Act b t u) : Acts b s u := Relation.ReflTransGen.tail h k

theorem Acts.trans {b : Bool} {s t u : State} (h : Acts b s t) (k : Acts b t u) : Acts b s u := Relation.ReflTransGen.trans h k

end Sys2Proof.Machine
end

section
/-! PROOF. The shared operations as runs of acts: reports and conditions, reasons, the grant queue and the arbiter, the cylinder
bank, the gas supply and the charge decision. -/

namespace Sys2Proof.Machine

variable {b : Bool} {s0 s : State}

/-! ## Link, conditions, tracker -/

theorem Acts.modLink (ha : Acts b s0 s) (f : Link → Link) : Acts b s0 (s.modLink f) := ha.then (.link s (f s.link))

theorem Acts.report (ha : Acts b s0 s) (k : ReportKind) (p : List Byte) : Acts b s0 (report k p s) := by
  unfold Machine.report
  split
  · exact ha.modLink _
  · exact ha

theorem Acts.headReport (ha : Acts b s0 s) (h : Fin 16) (k : HeadCause) : Acts b s0 (headReport h k s) := ha.report _ _

theorem Acts.cylinderReport (ha : Acts b s0 s) (c : Fin 4) (k : CylCause) : Acts b s0 (cylinderReport c k s) := ha.report _ _

theorem Acts.trackerReport (ha : Acts b s0 s) : Acts b s0 (trackerReport s) := ha.report _ _

theorem Acts.accept (ha : Acts b s0 s) (k : Byte) (d : List Byte) : Acts b s0 (accept k d s) :=
  ha.modLink fun l => { l with tx := l.tx ++ [⟨false, acceptFrame k d⟩] }

theorem Acts.refuse (ha : Acts b s0 s) (k : Byte) (c : RefusalCode) (f : Nat) : Acts b s0 (refuse k c f s) :=
  ha.modLink fun l => { l with tx := l.tx ++ [⟨false, refuseFrame k c f⟩] }

theorem Acts.acceptAround (ha : Acts b s0 s) (k : Byte) (act : State → State × List Byte)
    (hact : ∀ t : State, Acts b s0 t → t.infeed = s.infeed → Acts b s0 (act t).1) : Acts b s0 (acceptAround k act s) :=
  (hact _ (ha.accept k []) rfl).modLink fun l =>
    { l with tx := l.tx.set s.link.tx.length ⟨false, acceptFrame k (act (Machine.accept k [] s)).2⟩ }

theorem Acts.setCondition (ha : Acts b s0 s) (k : Condition) : Acts b s0 (setCondition k s) := ha.then (.condition s k)

theorem Acts.modTracker (ha : Acts b s0 s) (f : Tracker → Tracker) (he : TrackerEdit s.tracker (f s.tracker)) :
    Acts b s0 (s.modTracker f) := ha.then (.tracker s (f s.tracker) he)

/-! ## One head -/

/-- The grant queue stands where the head neither joins nor leaves WAITING. -/
theorem HeadEdit.standing {h : Fin 16} {y : Head} (hcan : y.can = s.heads[h].can)
    (hcyc : HeadFits s h → (y.cycle = .waiting ↔ s.heads[h].cycle = .waiting)) (hshape : HeadFits s h → HeadShape y)
    (hranges : FiguresSafe s → HeadFits s h → HeadRanges s.heads[h] → HeadRanges y) : HeadEdit s h y s.grantQueue where
  can := hcan
  shape := hshape
  queued hf := hf.queued.trans (hcyc hf).symm
  others _ _ := Iff.rfl
  nodup hq := hq
  ranges := hranges

/-- The head's request leaves the queue. -/
theorem HeadEdit.leaving {h : Fin 16} {y : Head} (hcan : y.can = s.heads[h].can)
    (hcyc : HeadFits s h → y.cycle ≠ .waiting) (hshape : HeadFits s h → HeadShape y)
    (hranges : FiguresSafe s → HeadFits s h → HeadRanges s.heads[h] → HeadRanges y) :
    HeadEdit s h y (s.grantQueue.filter (· ≠ h)) where
  can := hcan
  shape := hshape
  queued hf := by simp [hcyc hf]
  others j hj := by simp [hj]
  nodup hq := hq.filter _
  ranges := hranges

/-- The head's request joins the queue. -/
theorem HeadEdit.joining {h : Fin 16} {y : Head} (hcan : y.can = s.heads[h].can)
    (hcyc : y.cycle = .waiting) (hshape : HeadFits s h → HeadShape y)
    (hranges : FiguresSafe s → HeadFits s h → HeadRanges s.heads[h] → HeadRanges y) :
    HeadEdit s h y (if h ∈ s.grantQueue then s.grantQueue else s.grantQueue ++ [h]) where
  can := hcan
  shape := hshape
  queued hf := by split <;> simp_all
  others j hj := by split <;> simp [hj]
  nodup hq := by
    split
    · exact hq
    · rename_i hn
      exact List.nodup_append.mpr ⟨hq, List.nodup_singleton h, by grind⟩
  ranges := hranges

/-- A change of one head that keeps its can, its pairing, its decision and whether it is WAITING. -/
theorem Acts.modHead (ha : Acts b s0 s) (h : Fin 16) (f : Head → Head) (hcan : (f s.heads[h]).can = s.heads[h].can)
    (hp : (f s.heads[h]).paired = s.heads[h].paired)
    (hd : (f s.heads[h]).decided = s.heads[h].decided ∨ s.heads[h].record = none)
    (hcyc : HeadFits s h → ((f s.heads[h]).cycle = .waiting ↔ s.heads[h].cycle = .waiting))
    (hshape : HeadFits s h → HeadShape (f s.heads[h]))
    (hranges : FiguresSafe s → HeadFits s h → HeadRanges s.heads[h] → HeadRanges (f s.heads[h])) :
    Acts b s0 (s.modHead h f) :=
  ha.then (.head s h (f s.heads[h]) s.grantQueue (.standing hcan hcyc hshape hranges) hp hd)

/-- Items that no law but the ranges speaks of. -/
theorem Acts.quietHead (ha : Acts b s0 s) (h : Fin 16) (f : Head → Head)
    (hf : ∀ x, (f x).cycle = x.cycle ∧ (f x).record = x.record ∧ (f x).paired = x.paired ∧
      (f x).pendingResult = x.pendingResult ∧ (f x).decided = x.decided ∧ (f x).window = x.window ∧
      (f x).probeStep = x.probeStep ∧ (f x).probeValve = x.probeValve ∧ (f x).inlets = x.inlets)
    (hranges : FiguresSafe s → HeadRanges s.heads[h] →
      (f s.heads[h]).noFlowCount ≤ 3 ∧ (f s.heads[h]).zeroCount ≤ 3 ∧
        -50 ≤ (f s.heads[h]).zeroOffset ∧ (f s.heads[h]).zeroOffset ≤ 50) : Acts b s0 (s.modHead h f) := by
  obtain ⟨hcyc, hrec, hpair, hres, hdec, hwin, hstep, hvalve, hinl⟩ := hf s.heads[h]
  refine ha.modHead h f (by simp only [Head.can, hrec]) hpair (.inl hdec) (fun _ => by rw [hcyc]) (fun hx => ?_)
    fun hs _ hr => ?_
  · have hx := hx.shape
    constructor
    · rw [hcyc, hpair]; exact hx.charging
    · rw [hcyc, hpair]; exact hx.paired
    · rw [hinl, hpair]; exact hx.inlets
    · rw [hcyc, hrec]; exact hx.empty
    · rw [hcyc, hstep]; exact hx.probing
    · rw [hvalve, hstep]; exact hx.probeValve
    · rw [hcyc, hrec, hwin, hdec, hres]; exact hx.asks
    · rw [hcyc, hdec, hres]; exact hx.result
    · rw [hcyc, hwin, hdec]; exact hx.early
  · obtain ⟨hn, hz, ho⟩ := hranges hs hr
    refine ⟨hn, hz, ho, ?_, ?_, ?_⟩
    · rw [hrec]; exact hr.record
    · rw [hrec, hdec]; exact hr.undecided
    · rw [hrec, hcyc, hres]; exact hr.toCome

/-! ## Records and reasons -/

/-- A record as it may become while its can stays: filed alike, the same shots, the same target once it has one. -/
structure CanRecord.Grew (r r' : CanRecord) : Prop where
  filing : r'.filing = r.filing
  target : ∀ t : Nat, r.target = some t → ∃ u : Nat, r'.target = some u
  shots  : r'.shots = r.shots
  ranges : RecordRanges r → RecordRanges r'

theorem CanRecord.Grew.refl (r : CanRecord) : r.Grew r := ⟨rfl, fun t ht => ⟨t, ht⟩, rfl, id⟩

theorem CanRecord.Grew.trans {r r' r'' : CanRecord} (h : r.Grew r') (k : r'.Grew r'') : r.Grew r'' where
  filing := k.filing.trans h.filing
  target t ht := by
    obtain ⟨u, hu⟩ := h.target t ht
    exact k.target u hu
  shots := k.shots.trans h.shots
  ranges hr := k.ranges (h.ranges hr)

theorem CanRecord.grew_withReason (r : CanRecord) (k : Reason) : r.Grew (r.withReason k) := by
  unfold CanRecord.withReason
  split_ifs with hk hl
  · exact .refl r
  · refine ⟨rfl, fun t ht => ⟨t, ht⟩, rfl, fun hr => ⟨hr.sequence, ⟨?_, ?_⟩, hr.shots⟩⟩
    · have : r.reasons.length < 4 := hl
      simp; omega
    · exact List.nodup_append.mpr ⟨hr.reasons.2, List.nodup_singleton k, by grind⟩
  · exact ⟨rfl, fun t ht => ⟨t, ht⟩, rfl, fun hr => ⟨hr.sequence, hr.reasons, hr.shots⟩⟩

/-- A held record that grew leaves the head in shape. -/
theorem HeadShape.withRecord {x : Head} {r r' : CanRecord} (hx : HeadShape x) (hr : x.record = some r) (hg : r.Grew r') :
    HeadShape { x with record := some r' } where
  charging := hx.charging
  paired := hx.paired
  inlets := hx.inlets
  empty := by
    have := hx.empty
    rw [hr] at this
    simpa using this
  probing := hx.probing
  probeValve := hx.probeValve
  asks hc := by
    obtain ⟨⟨q, t, hq, ht⟩, hrest⟩ := hx.asks hc
    obtain rfl : r = q := Option.some.inj (hr.symm.trans hq)
    obtain ⟨u, hu⟩ := hg.target t ht
    exact ⟨⟨r', u, rfl, hu⟩, hrest⟩
  result := hx.result
  early := hx.early

theorem HeadRanges.withRecord {x : Head} {r r' : CanRecord} (hx : HeadRanges x) (hr : x.record = some r) (hg : r.Grew r') :
    HeadRanges { x with record := some r' } where
  noFlow := hx.noFlow
  zeros := hx.zeros
  offset := hx.offset
  record q hq := by
    obtain rfl : r' = q := Option.some.inj hq
    exact hg.ranges (hx.record r hr)
  undecided q hq hd := by
    obtain rfl : r' = q := Option.some.inj hq
    exact hg.shots.trans (hx.undecided r hr hd)
  toCome q hq hc := by
    obtain rfl : r' = q := Option.some.inj hq
    rw [hg.shots]
    exact hx.toCome r hr hc

/-- A head that is CHARGED with nothing to come, after a charge it was waiting for. -/
theorem HeadShape.charged {x : Head} (hx : HeadShape x) (hr : x.record ≠ none) (hp : x.probeStep = .idle)
    (hc : x.cycle ≠ .charging) : HeadShape { x with cycle := .charged, pendingResult := none } where
  charging h := nomatch h
  paired c h := absurd (hx.paired c h) hc
  inlets := hx.inlets
  empty := ⟨fun h => absurd h hr, fun h => (nomatch h)⟩
  probing := ⟨fun _ h => (nomatch h), fun _ => hp⟩
  probeValve := hx.probeValve
  asks h := by rcases h with h | h <;> exact nomatch h
  result h := absurd rfl h
  early h := by rcases h with h | h | h | h <;> exact nomatch h

theorem HeadShape.idle_of_waiting {x : Head} (hx : HeadShape x) (hw : x.cycle = .waiting) : x.probeStep = .idle :=
  hx.probing.mpr (by rw [hw]; exact Cycle.noConfusion)

theorem HeadShape.record_of_waiting {x : Head} (hx : HeadShape x) (hw : x.cycle = .waiting) : x.record ≠ none := by
  rw [Ne, hx.empty, hw]
  exact Cycle.noConfusion

theorem HeadShape.charged_of_waiting {x : Head} (hx : HeadShape x) (hw : x.cycle = .waiting) :
    HeadShape { x with cycle := .charged, pendingResult := none } :=
  hx.charged (hx.record_of_waiting hw) (hx.idle_of_waiting hw) (by rw [hw]; exact Cycle.noConfusion)

theorem HeadRanges.charged {x : Head} (hx : HeadRanges x) : HeadRanges { x with cycle := .charged, pendingResult := none } where
  noFlow := hx.noFlow
  zeros := hx.zeros
  offset := hx.offset
  record := hx.record
  undecided := hx.undecided
  toCome _ _ h := by rcases h with h | h | h <;> simp at h

/-- The held record grows. -/
theorem Acts.modRecord (ha : Acts b s0 s) (h : Fin 16) (f : CanRecord → CanRecord)
    (hf : ∀ r, s.heads[h].record = some r → r.Grew (f r)) : Acts b s0 (modRecord h f s) := by
  cases hr : s.heads[h].record with
  | none =>
    have hid : Machine.modRecord h f s = s := State.modHead_id s h _ (by cases hx : s.heads[h]; rw [hx] at hr; subst hr; rfl)
    rw [hid]
    exact ha
  | some r =>
    rw [modRecord_some hr]
    exact ha.modHead h _ (by simp only [Head.can, hr, Option.map_some, (hf r hr).filing]) rfl (.inl rfl) (fun _ => Iff.rfl)
      (fun hx => hx.shape.withRecord hr (hf r hr)) fun _ _ hx => hx.withRecord hr (hf r hr)

theorem Acts.addReason (ha : Acts b s0 s) (h : Fin 16) (k : Reason) : Acts b s0 (addReason h k s) := by
  cases hr : s.heads[h].record with
  | none =>
    rw [show Machine.addReason h k s = s by simp only [Machine.addReason, hr]]
    exact ha
  | some r =>
    by_cases hw : s.heads[h].cycle = .waiting
    · rw [addReason_waiting h k s r hr hw]
      refine ha.then (.head s h { s.heads[h] with record := some (r.withReason k), cycle := .charged, pendingResult := none }
        (s.grantQueue.filter (· ≠ h)) (.leaving ?_ (fun _ => Cycle.noConfusion) (fun hx => ?_) fun _ _ hx => ?_) rfl (.inl rfl))
      · simp only [Head.can, hr, Option.map_some, (r.grew_withReason k).filing]
      · exact (hx.shape.charged_of_waiting hw).withRecord hr (r.grew_withReason k)
      · exact hx.charged.withRecord hr (r.grew_withReason k)
    · rw [addReason_some hr hw, ← modRecord_some hr fun r => r.withReason k]
      exact ha.modRecord h _ fun r _ => r.grew_withReason k

theorem Acts.judgeDose (ha : Acts b s0 s) (h : Fin 16) : Acts b s0 (judgeDose h s) := by
  unfold Machine.judgeDose
  split
  · exact ha
  · split
    · exact ha
    · split_ifs
      · exact ha
      · exact ha.addReason h _
      · exact ha.addReason h _
      · exact ha

/-! ## The arbiter -/

/-- A request leaves the queue, and the head is CHARGED with nothing to come. -/
theorem Acts.released (ha : Acts b s0 s) (h : Fin 16) (f : Head → Head)
    (hf : ∀ x, f x = { x with cycle := .charged, pendingResult := none, window := (f x).window })
    (hw : HeadFits s h → s.heads[h].cycle = .waiting) : Acts b s0 ((withdraw h s).modHead h f) := by
  refine ha.then (.head s h (f s.heads[h]) (s.grantQueue.filter (· ≠ h))
    (.leaving (by rw [hf]; rfl) (fun _ => by rw [hf]; exact Cycle.noConfusion) (fun hx => ?_) fun _ _ hx => ?_) (by rw [hf])
    (.inl (by rw [hf])))
  · rw [hf]
    exact { hx.shape.charged_of_waiting (hw hx) with
      asks := fun h => by rcases h with h | h <;> exact nomatch h
      early := fun h => by rcases h with h | h | h | h <;> exact nomatch h }
  · rw [hf]
    exact { hx.charged with }

/-- A request leaves the queue of a head that does not wait. -/
theorem Acts.withdraw (ha : Acts b s0 s) (h : Fin 16) (hw : HeadFits s h → s.heads[h].cycle ≠ .waiting) :
    Acts b s0 (withdraw h s) := by
  have hact : Act b s (s.withHead h s.heads[h] (s.grantQueue.filter (· ≠ h))) :=
    .head s h _ _ (.leaving rfl hw HeadFits.shape fun _ _ hx => hx) rfl (.inl rfl)
  have hwrite : s.withHead h s.heads[h] (s.grantQueue.filter (· ≠ h)) = Machine.withdraw h s := by
    have hset : s.heads.set h s.heads[h] = s.heads := Vector.set_getElem_self h.isLt
    unfold State.withHead
    rw [hset]
    rfl
  exact hwrite ▸ ha.then hact

theorem lowestReady_ready {c : Fin 4} (hc : lowestReady s = some c) : s.cylinders[c].state = .ready := by
  simpa using List.find?_some hc

theorem Acts.grant (ha : Acts b s0 s) {h : Fin 16} {c : Fin 4} (hm : h ∈ s.grantQueue)
    (hc : s.cylinders[c].state = .ready) (i : Fin 2) (t : Int) : Acts b s0 (grant h c i t s) := by
  let y : Head := { s.heads[h] with
    cycle := .charging, paired := some c, inlets := s.heads[h].inlets.set c true, flowDetected := false
    flowTimer := .running (flowDetectTime s.config) }
  refine ha.then (.granted s c h (newShot s h c i t) y (s.grantQueue.filter (· ≠ h))
    (.leaving rfl (fun _ => Cycle.noConfusion) (fun hx => ?_) fun _ hx hr => ?_) hc hm rfl rfl)
  · have hw := hx.queued.mp hm
    have hn : ∀ d, s.heads[h].paired ≠ some d := fun d hd => by
      rw [hx.shape.paired d hd] at hw
      exact nomatch hw
    exact {
      charging := fun _ => ⟨c, rfl⟩
      paired := fun _ _ => rfl
      inlets := fun d => by
        have := hx.shape.inlets d
        simp only [y, getFin_set, Option.some.injEq]
        split
        · simp_all
        · simp_all
      empty := ⟨fun h => absurd h (hx.shape.record_of_waiting hw), fun h => nomatch h⟩
      probing := ⟨fun _ h => (nomatch h), fun _ => hx.shape.idle_of_waiting hw⟩
      probeValve := hx.shape.probeValve
      asks := fun _ => hx.shape.asks (.inl hw)
      result := fun h => absurd (hx.shape.asks (.inl hw)).2.2.2 h
      early := fun h => by rcases h with h | h | h | h <;> exact nomatch h }
  · exact { hr with toCome := fun r e _ => hr.toCome r e (.inl (hx.queued.mp hm)) }

theorem Acts.offer (ha : Acts b s0 s) {h : Fin 16} {c : Fin 4} (hm : h ∈ s.grantQueue) (hc : s.cylinders[c].state = .ready) :
    Acts b s0 (offer h c s) := by
  have hasks (hn : ¬∃ r t, s.heads[h].record = some r ∧ r.target = some t) (hx : HeadFits s h) :
      s.heads[h].cycle ≠ .waiting := fun hw => hn (hx.shape.asks (.inl hw)).1
  unfold Machine.offer
  split
  · rename_i hr
    exact ha.withdraw h (hasks fun ⟨q, t, hq, _⟩ => nomatch hr.symm.trans hq)
  · rename_i r hr
    split
    · rename_i ht
      refine ha.withdraw h (hasks fun ⟨q, t, hq, hqt⟩ => ?_)
      obtain rfl : r = q := Option.some.inj (hr.symm.trans hq)
      exact nomatch ht.symm.trans hqt
    · split_ifs
      · exact ha.grant hm hc _ _
      · exact (ha.released h _ (fun _ => rfl) fun hx => hx.queued.mp hm).judgeDose h

theorem Acts.offers (ha : Acts b s0 s) (n : Nat) : Acts b s0 (offers n s) := by
  induction n generalizing s with
  | zero => exact ha
  | succ n ih =>
    unfold Machine.offers
    split
    · rename_i h rest c hq hc
      exact ih (ha.offer (by rw [hq]; exact List.mem_cons_self) (lowestReady_ready hc))
    · exact ha

theorem Acts.arbitrate (ha : Acts b s0 s) : Acts b s0 (arbitrate s) := ha.offers _

/-- A head asks for gas, and the arbiter looks. -/
theorem Acts.requestGas (ha : Acts b s0 s) (h : Fin 16)
    (hshape : HeadFits s h → HeadShape { s.heads[h] with cycle := .waiting })
    (hranges : FiguresSafe s → HeadFits s h → HeadRanges s.heads[h] → HeadRanges { s.heads[h] with cycle := .waiting }) :
    Acts b s0 (requestGas h s) :=
  (ha.then (.head s h { s.heads[h] with cycle := .waiting } _ (.joining rfl rfl hshape hranges) rfl (.inl rfl))).arbitrate

end Sys2Proof.Machine
end

section
/-! PROOF. The cylinder bank, the gas supply, the charge decision, the end of the charge window and the measurement as runs of
acts. -/

namespace Sys2Proof.Machine

variable {b : Bool} {s0 s : State}

/-! ## Cylinders -/

/-- A cylinder enters a state other than DISCHARGING from one other than DISCHARGING. -/
theorem CylinderEdit.entered {x y : Cylinder} (hs : CylinderSafe y) (hx : x.state ≠ .discharging) (hy : y.state ≠ .discharging)
    (hr : x.pressure ≤ 4000 ∧ x.failures ≤ 3 → y.pressure ≤ 4000 ∧ y.failures ≤ 3) : CylinderEdit x y where
  safe _ := hs
  discharging := ⟨fun h => absurd h hy, fun h => absurd h hx⟩
  owner h := absurd h hx
  ranges := hr

theorem cylinderSafe_refilling (x : Cylinder) (n : Nat) :
    CylinderSafe { x.enter .refilling with refillTimer := .running n } := by
  constructor <;> simp [Cylinder.enter, Timer.isRunning]

theorem cylinderSafe_fault (x : Cylinder) (k n : Nat) :
    CylinderSafe { x.enter .fault with failures := k, retryTimer := .running n } := by
  constructor <;> simp [Cylinder.enter, Timer.isRunning]

/-- A state without a timer of its own. -/
theorem cylinderSafe_enter (x : Cylinder) {st : CylState} (hs : st = .idle ∨ st = .ready ∨ st = .disabled ∨ st = .outOfService) :
    CylinderSafe (x.enter st) := by
  rcases hs with rfl | rfl | rfl | rfl <;> constructor <;> simp [Cylinder.enter, Timer.isRunning]

theorem Acts.modCyl (ha : Acts b s0 s) (c : Fin 4) (f : Cylinder → Cylinder) (he : CylinderEdit s.cylinders[c] (f s.cylinders[c]))
    (ho : (f s.cylinders[c]).isOut = s.cylinders[c].isOut) : Acts b s0 (s.modCyl c f) :=
  ha.then (.cylinder s c (f s.cylinders[c]) he ho)

/-- The all-out test after an edit of one cylinder, with reports and conditions given in between. -/
theorem Acts.tested (ha : Acts b s0 s) (c : Fin 4) (f : Cylinder → Cylinder)
    (he : CylinderEdit s.cylinders[c] (f s.cylinders[c])) {u : State} (hu : u = { s.modCyl c f with link := u.link }) :
    Acts b s0 (allOutTest u) := by
  rw [hu]
  exact (ha.then (.link s u.link)).then (.tested { s with link := u.link } c (f s.cylinders[c]) he)

theorem report_link (k : ReportKind) (p : List Byte) (s : State) : report k p s = { s with link := (report k p s).link } := by
  unfold report
  split <;> rfl

/-- The state of a cylinder at work: neither in a discharge nor out of use. -/
def CylState.atRest (st : CylState) : Bool := st == .idle || st == .refilling || st == .ready || st == .measuring || st == .fault

theorem isOut_of_atRest {x : Cylinder} (h : x.state.atRest = true) : x.isOut = false := by
  cases hs : x.state <;> rw [hs] at h <;> simp_all [CylState.atRest, Cylinder.isOut]

theorem ne_discharging_of_atRest {st : CylState} (h : st.atRest = true) : st ≠ .discharging := by
  rintro rfl
  exact Bool.noConfusion h

/-- A cylinder at rest moves to another state at rest. -/
theorem Acts.rest (ha : Acts b s0 s) (c : Fin 4) (f : Cylinder → Cylinder) (hx : s.cylinders[c].state.atRest = true)
    (hy : (f s.cylinders[c]).state.atRest = true) (hs : CylinderSafe (f s.cylinders[c]))
    (hr : s.cylinders[c].pressure ≤ 4000 ∧ s.cylinders[c].failures ≤ 3 →
      (f s.cylinders[c]).pressure ≤ 4000 ∧ (f s.cylinders[c]).failures ≤ 3) : Acts b s0 (s.modCyl c f) :=
  ha.modCyl c f (.entered hs (ne_discharging_of_atRest hx) (ne_discharging_of_atRest hy) hr)
    ((isOut_of_atRest hy).trans (isOut_of_atRest hx).symm)

/-- Items of a cylinder that stand apart from its valves, timers and owner. -/
theorem Acts.quietCyl (ha : Acts b s0 s) (c : Fin 4) (f : Cylinder → Cylinder)
    (hf : ∀ x, (f x).state = x.state ∧ (f x).refillValve = x.refillValve ∧ (f x).dischargeValve = x.dischargeValve ∧
      (f x).refillTimer = x.refillTimer ∧ (f x).retryTimer = x.retryTimer ∧ (f x).settleTimer = x.settleTimer)
    (ho : s.cylinders[c].state = .discharging → (f s.cylinders[c]).owner = s.cylinders[c].owner ∧
      (f s.cylinders[c]).shot.isSome = s.cylinders[c].shot.isSome)
    (hr : s.cylinders[c].pressure ≤ 4000 ∧ s.cylinders[c].failures ≤ 3 →
      (f s.cylinders[c]).pressure ≤ 4000 ∧ (f s.cylinders[c]).failures ≤ 3) : Acts b s0 (s.modCyl c f) := by
  obtain ⟨hst, hrv, hdv, hrt, hyt, hst'⟩ := hf s.cylinders[c]
  refine ha.modCyl c f ⟨fun hx => ?_, by rw [hst], ho, hr⟩ (by simp only [Cylinder.isOut, hst])
  constructor
  · rw [hrv, hst]; exact hx.refillValve
  · rw [hdv, hst]; exact hx.dischargeValve
  · rw [hrt, hst]; exact hx.refillTimer
  · rw [hyt, hst]; exact hx.retryTimer
  · rw [hst', hst]; exact hx.settleTimer

theorem Acts.enterRefilling (ha : Acts b s0 s) (c : Fin 4) (hx : s.cylinders[c].state.atRest = true) :
    Acts b s0 (enterRefilling c s) :=
  ha.rest c _ hx rfl (cylinderSafe_refilling _ _) id

theorem Acts.enterIdle (ha : Acts b s0 s) (c : Fin 4) (hx : s.cylinders[c].state.atRest = true) :
    Acts b s0 (enterIdle c s) := by
  unfold Machine.enterIdle
  split
  · exact ha.enterRefilling c hx
  · exact ha.rest c _ hx rfl (cylinderSafe_enter _ (.inl rfl)) id

theorem Acts.refillIdle (ha : Acts b s0 s) (c : Fin 4) : Acts b s0 (refillIdle c s) := by
  unfold Machine.refillIdle
  split
  · rename_i h
    exact ha.enterRefilling c (by rw [h.1]; rfl)
  · exact ha

theorem Acts.topUp (ha : Acts b s0 s) (c : Fin 4) : Acts b s0 (topUp c s) := by
  unfold Machine.topUp
  split
  · exact ha
  · split
    · rename_i h
      exact ha.enterRefilling c (by rw [h.1]; rfl)
    · exact ha

theorem Acts.foldl {α : Type} {op : State → α → State} (hop : ∀ (t : State) (x : α), Acts b s0 t → Acts b s0 (op t x)) (l : List α)
    (ha : Acts b s0 s) : Acts b s0 (l.foldl op s) := by
  induction l generalizing s with
  | nil => exact ha
  | cons x l ih => exact ih (hop s x ha)

theorem Acts.refillBank (ha : Acts b s0 s) : Acts b s0 (refillBank s) :=
  Acts.foldl (fun _ c ht => (ht.refillIdle c).topUp c) allCylinders ha

/-- DISABLED, the mark of a pending disable withdrawn, from a cylinder that is not DISCHARGING. -/
theorem Acts.completeDisable (ha : Acts b s0 s) (c : Fin 4) (hx : s.cylinders[c].state ≠ .discharging) :
    Acts b s0 (completeDisable c s) :=
  ha.tested c (fun x => { x.enter .disabled with disablePending := false })
    (.entered { cylinderSafe_enter s.cylinders[c] (.inr (.inr (.inl rfl))) with } hx CylState.noConfusion id) (report_link _ _ _)

theorem Acts.readyOrDisabled (ha : Acts b s0 s) (c : Fin 4) (hx : s.cylinders[c].state.atRest = true) :
    Acts b s0 (readyOrDisabled c s) := by
  unfold Machine.readyOrDisabled
  split
  · exact ha.completeDisable c (ne_discharging_of_atRest hx)
  · exact ha.rest c _ hx rfl (cylinderSafe_enter _ (.inr (.inl rfl))) id

theorem Acts.pendingMark (ha : Acts b s0 s) (c : Fin 4) (v : Bool) : Acts b s0 (s.modCyl c fun x => { x with disablePending := v }) :=
  ha.quietCyl c _ (fun _ => ⟨rfl, rfl, rfl, rfl, rfl, rfl⟩) (fun _ => ⟨rfl, rfl⟩) id

theorem Acts.disableCylinder (ha : Acts b s0 s) (c : Fin 4) : Acts b s0 (disableCylinder c s) := by
  have hout (hn : s.cylinders[c].state ≠ .discharging) :
      Acts b s0 (allOutTest (Machine.cylinderReport c .disableRequest (s.modCyl c (Cylinder.enter .disabled)))) :=
    ha.tested c (Cylinder.enter .disabled) (.entered (cylinderSafe_enter _ (.inr (.inr (.inl rfl)))) hn CylState.noConfusion id)
      (report_link _ _ _)
  have hmark : Acts b s0 (if s.cylinders[c].disablePending then s
      else Machine.cylinderReport c .disableRequest (s.modCyl c fun x => { x with disablePending := true })) := by
    split
    · exact ha
    · exact (ha.pendingMark c true).cylinderReport c _
  unfold Machine.disableCylinder
  split
  case h_1 h | h_2 h | h_3 h | h_4 h => exact hout (by rw [h]; exact CylState.noConfusion)
  case h_5 | h_6 => exact hmark
  case h_7 | h_8 => exact ha

/-- IDLE, or REFILLING where the refill condition holds, is one edit of the cylinder. -/
theorem enterIdle_modCyl (c : Fin 4) (f : Cylinder → Cylinder) (s : State) :
    enterIdle c (s.modCyl c f) = s.modCyl c fun x =>
      if refillCondition s then { (f x).enter .refilling with refillTimer := .running (refillTimeout s.config) }
      else (f x).enter .idle := by
  have hrc : refillCondition (s.modCyl c f) = refillCondition s := rfl
  unfold enterIdle
  rw [hrc]
  split
  · exact State.modCyl_modCyl s c _ _
  · exact State.modCyl_modCyl s c _ _

theorem Acts.enableCylinder (ha : Acts b s0 s) (c : Fin 4) : Acts b s0 (enableCylinder c s) := by
  have hin (hn : s.cylinders[c].state ≠ .discharging) : Acts b s0 (allOutTest (Machine.cylinderReport c .enableRequest
      (Machine.enterIdle c (s.modCyl c fun x => { x with failures := 0 })))) := by
    rw [enterIdle_modCyl]
    refine ha.tested c _ ?_ (report_link _ _ _)
    split
    · exact .entered (cylinderSafe_refilling _ _) hn CylState.noConfusion fun h => ⟨h.1, Nat.zero_le 3⟩
    · exact .entered (cylinderSafe_enter _ (.inl rfl)) hn CylState.noConfusion fun h => ⟨h.1, Nat.zero_le 3⟩
  have hmark : Acts b s0 (if s.cylinders[c].disablePending then
      Machine.cylinderReport c .enableRequest (s.modCyl c fun x => { x with disablePending := false }) else s) := by
    split
    · exact (ha.pendingMark c false).cylinderReport c _
    · exact ha
  unfold Machine.enableCylinder
  split
  case h_1 h | h_2 h => exact hin (by rw [h]; exact CylState.noConfusion)
  case h_3 | h_4 => exact hmark
  case h_5 | h_6 | h_7 | h_8 => exact ha

/-- A condition set, before its report. -/
def State.withCondition (k : Condition) (s : State) : State :=
  if s.conds.has k then s
  else
    let s1 := s.modConds fun c => { c with isSet := c.isSet.set k.num true }
    if k.isStop then updateStop s1 else s1

theorem setCondition_link (k : Condition) (s : State) :
    setCondition k s = { s.withCondition k with link := (setCondition k s).link } := by
  unfold setCondition State.withCondition
  split
  · rfl
  · unfold conditionReport
    simp only []
    split_ifs
    · exact report_link _ _ _
    · rfl
    · exact report_link _ _ _
    · rfl

theorem withCondition_modCyl (k : Condition) (c : Fin 4) (f : Cylinder → Cylinder) (s : State) :
    (s.modCyl c f).withCondition k = (s.withCondition k).modCyl c f := by
  have hhas : (s.modCyl c f).conds.has k = s.conds.has k := rfl
  unfold State.withCondition
  rw [hhas]
  split
  · rfl
  · simp only []
    split <;> rfl

theorem Acts.refillTimeoutAct (ha : Acts b s0 s) (c : Fin 4) (hx : s.cylinders[c].state = .refilling) :
    Acts b s0 (refillTimeoutAct c s) := by
  have hrest : s.cylinders[c].state.atRest = true := by rw [hx]; rfl
  have hn : min faultLimit (s.cylinders[c].failures + 1) ≤ 3 := Nat.min_le_left _ _
  let f (x : Cylinder) : Cylinder := { x.enter .outOfService with failures := min faultLimit (s.cylinders[c].failures + 1) }
  have hcyl : (Machine.setCondition .cylinderOutOfService s).cylinders = s.cylinders := by simp
  have hedit : CylinderEdit s.cylinders[c] (f s.cylinders[c]) :=
    .entered { cylinderSafe_enter s.cylinders[c] (.inr (.inr (.inr rfl))) with } (ne_discharging_of_atRest hrest)
      CylState.noConfusion fun h => ⟨h.1, hn⟩
  unfold Machine.refillTimeoutAct
  simp only []
  split
  · exact (ha.rest c _ hrest rfl (cylinderSafe_fault _ _ _) fun h => ⟨h.1, hn⟩).cylinderReport c _
  · refine (ha.setCondition .cylinderOutOfService).tested c f (by rw [hcyl]; exact hedit) ?_
    rw [setCondition_link _ s, Machine.cylinderReport, report_link, setCondition_link, withCondition_modCyl]
    rfl

/-! ## The gas supply -/

theorem Acts.supply (ha : Acts b s0 s) (g : Gas → Gas) (w : Withhold → Withhold)
    (he : SupplyEdit s.gas (g s.gas) s.infeed.withhold (w s.infeed.withhold)) : Acts b s0 ((s.modGas g).modWithhold w) :=
  ha.then (.supply s (g s.gas) (w s.infeed.withhold) he)

/-- Items of the gas supply that no withhold reason follows. -/
theorem Acts.quietGas (ha : Acts b s0 s) (g : Gas → Gas) (hg : (g s.gas).throttleOn = s.gas.throttleOn ∧
      ((g s.gas).standby = .waking ↔ s.gas.standby = .waking) ∧ (g s.gas).holdTimer = s.gas.holdTimer ∧
      (g s.gas).tempGood = s.gas.tempGood ∧ (g s.gas).heldTemp = s.gas.heldTemp)
    (hb : s.gas.buffer ≤ 6000 → (g s.gas).buffer ≤ 6000) : Acts b s0 (s.modGas g) := by
  obtain ⟨hthr, hstand, hhold, hgood, htemp⟩ := hg
  refine ha.then (.supply s (g s.gas) s.infeed.withhold ⟨?_, ?_, ?_, ?_, rfl, hb, ?_⟩)
  · rw [hthr]; exact id
  · rw [hstand]; exact id
  · rw [hhold]; exact fun _ => id
  · rw [hgood, hhold]; exact id
  · rw [htemp]; exact id

theorem Acts.beginWake (ha : Acts b s0 s) : Acts b s0 (beginWake s) := by
  unfold Machine.beginWake
  split
  · exact ha.supply _ _ ⟨id, fun _ => ⟨fun _ => rfl, fun _ => rfl⟩, fun _ => id, id, rfl, id, id⟩
  · exact ha

theorem Acts.completeWake (ha : Acts b s0 s) : Acts b s0 (completeWake s) := by
  unfold Machine.completeWake
  split
  · refine Acts.refillBank (ha.supply _ _ ⟨id, fun _ => ⟨?_, ?_⟩, fun _ => id, id, rfl, id, id⟩)
    · exact fun h => nomatch h
    · exact fun h => nomatch h
  · exact ha

theorem Acts.bufferAct (ha : Acts b s0 s) (raw : Int) : Acts b s0 (bufferAct raw s) := by
  have hp : clampReading 6000 raw ≤ 6000 := by
    unfold clampReading
    omega
  unfold Machine.bufferAct
  simp only []
  split_ifs
  · exact Acts.completeWake (ha.supply (fun g => { g with buffer := clampReading 6000 raw, throttleOn := false })
      (fun w => { w with gas := false }) ⟨fun _ => rfl, id, fun _ => id, id, rfl, fun _ => hp, id⟩)
  · exact ha.quietGas _ ⟨rfl, Iff.rfl, rfl, rfl, rfl⟩ fun _ => hp
  · exact Acts.setCondition (ha.supply (fun g => { g with buffer := clampReading 6000 raw, throttleOn := true })
      (fun w => { w with gas := true }) ⟨fun _ => rfl, id, fun _ => id, id, rfl, fun _ => hp, id⟩) _
  · exact ha.quietGas _ ⟨rfl, Iff.rfl, rfl, rfl, rfl⟩ fun _ => hp

theorem Acts.temperatureAct (ha : Acts b s0 s) (t : Option Int) : Acts b s0 (temperatureAct t s) := by
  have hfaulty : Acts b s0 (if s.gas.tempGood then
      s.modGas fun g => { g with tempGood := false, holdTimer := .running (tempHoldLimit s.config) } else s) := by
    split
    · rename_i hg
      refine ha.then (.supply s _ s.infeed.withhold ⟨id, id, ?_, ?_, rfl, id, id⟩)
      · intro hgood htemp
        exact ⟨fun h => absurd ((htemp.mp h).symm.trans (hgood.mp hg)) Timer.noConfusion, fun h => (nomatch h)⟩
      · exact fun _ => ⟨fun h => (nomatch h), fun h => (nomatch h)⟩
    · exact ha
  unfold Machine.temperatureAct
  simp only []
  split
  · split
    · rename_i h
      exact ha.supply _ _ ⟨id, id, fun _ _ => ⟨fun h => (nomatch h), fun h => (nomatch h)⟩,
        fun _ => ⟨fun _ => rfl, fun _ => rfl⟩, rfl, id, fun _ => h⟩
    · exact hfaulty
  · exact hfaulty

end Sys2Proof.Machine
end

section
/-! PROOF. The charge decision, the end of the charge window and the measurement as runs of acts. -/

namespace Sys2Proof.Machine

variable {b : Bool} {s0 s : State}

/-! ## The charge decision -/

theorem State.modHead_eq (s : State) (h : Fin 16) (f : Head → Head) :
    s.modHead h f = s.withHead h (f s.heads[h]) s.grantQueue := rfl

theorem unbound_head (h j : Fin 16) (q : Nat) (s : State) : (s.unbound h q).heads[j] = s.heads[j] :=
  congrArg (fun v : Vector Head 16 => v[j]) (unbound_heads h q s)

/-- The settlement writes the record, which then has a target dose exactly where it is left unmarked. -/
theorem writeBasis_grew {h : Fin 16} {x : Settlement} {rcp : Recipe} {r : CanRecord} (hr : s.heads[h].record = some r)
    (hc : s.heads[h].cycle ≠ .waiting) : ∃ r' : CanRecord,
      r.Grew r' ∧ (r.reasons ≠ [] → r'.reasons ≠ []) ∧ (r'.reasons = [] → ∃ t : Nat, r'.target = some t) ∧
      writeBasis h x rcp s = s.modHead h fun x => { x with record := some r' } := by
  cases x with
  | mass basis m =>
    by_cases hm : r.reasons = []
    · refine ⟨{ r with basis := some basis, target := some (targetDose rcp m) },
        ⟨rfl, fun t _ => ⟨_, rfl⟩, rfl, fun hr => ⟨hr.sequence, hr.reasons, hr.shots⟩⟩, id, fun _ => ⟨_, rfl⟩,
        writeBasis_unmarked hr hm⟩
    · exact ⟨{ r with basis := some .none }, ⟨rfl, fun t ht => ⟨t, ht⟩, rfl, fun hr => ⟨hr.sequence, hr.reasons, hr.shots⟩⟩, id, fun h => absurd h hm,
        writeBasis_marked hr hm⟩
  | reason k =>
    have hg := r.grew_withReason k
    exact ⟨{ r.withReason k with basis := some .none }, hg.trans ⟨rfl, fun t ht => ⟨t, ht⟩, rfl, fun hr => ⟨hr.sequence, hr.reasons, hr.shots⟩⟩,
      fun _ => withReason_reasons_ne r k, fun h => absurd h (withReason_reasons_ne r k), writeBasis_reason hr hc⟩

/-- The charge decision of a can not yet decided: CHARGED where it leaves the can marked, else a request for gas. -/
theorem chargeDecision_cases {h : Fin 16} {r : CanRecord} (hr : s.heads[h].record = some r)
    (hd : s.heads[h].decided = false) (hc : s.heads[h].cycle ≠ .waiting) : ∃ r' : CanRecord, r.Grew r' ∧
      ((r'.reasons ≠ [] ∧ chargeDecision h s = (s.unbound h r.seq).modHead h fun x =>
          { x with record := some r', decided := true, cycle := .charged, pendingResult := none }) ∨
       (r.reasons = [] ∧ (∃ t : Nat, r'.target = some t) ∧ chargeDecision h s = requestGas h ((s.unbound h r.seq).modHead h fun x =>
          { x with record := some r', decided := true }))) := by
  have hu := unbound_head h h r.seq s
  obtain ⟨r', hg, hmark, htarget, hw⟩ := writeBasis_grew (s := s.unbound h r.seq) (h := h)
    (x := settlementOf r (slotRecipe s r.slot)) (rcp := slotRecipe s r.slot) (r := r) (by rw [hu]; exact hr) (by rw [hu]; exact hc)
  refine ⟨r', hg, ?_⟩
  by_cases hm : r'.reasons = []
  · refine .inr ⟨not_not.mp (mt hmark (not_not.mpr hm)), htarget hm, ?_⟩
    have hunmarked : ((s.unbound h r.seq).modHead h fun x => { x with record := some r', decided := true }).heads[h].marked = false := by
      rw [← Bool.not_eq_true, marked_some (r := r') (by rw [State.modHead_self])]
      exact not_not.mpr hm
    simp only [chargeDecision, hr, hd, Bool.false_eq_true, if_false, settleUnbound_eq, hw, State.modHead_modHead, hunmarked]
  · exact .inl ⟨hm, chargeDecision_charged hr hd hw hm⟩

/-- A marked can is decided from a head that may also change otherwise in the same act. -/
theorem Acts.decideMarked (ha : Acts b s0 s) (h : Fin 16) {r : CanRecord} (hr : s.heads[h].record = some r)
    (hm : r.reasons ≠ []) (hd : s.heads[h].decided = false) (g : Head → Head)
    (hg : ∀ x, (g x).record = x.record ∧ (g x).decided = x.decided ∧ (g x).paired = x.paired ∧ (g x).inlets = x.inlets ∧
      (g x).noFlowCount = x.noFlowCount ∧ (g x).zeroCount = x.zeroCount ∧ (g x).zeroOffset = x.zeroOffset)
    (hc : (g s.heads[h]).cycle ≠ .waiting)
    (hshape : HeadFits s h → (g s.heads[h]).probeStep = .idle ∧ (g s.heads[h]).probeValve = false) :
    Acts b s0 (chargeDecision h (s.modHead h g)) := by
  obtain ⟨hrec, hdec, hpair, hinl, hn, hz, ho⟩ := hg s.heads[h]
  have hself : (s.modHead h g).heads[h] = g s.heads[h] := State.modHead_self s h g
  obtain ⟨r', hgrew, ⟨hm', hdecide⟩ | ⟨hempty, -⟩⟩ := chargeDecision_cases (s := s.modHead h g) (h := h) (r := r)
    (by rw [hself, hrec]; exact hr) (by rw [hself, hdec]; exact hd) (by rw [hself]; exact hc)
  · let y : Head := { g s.heads[h] with record := some r', decided := true, cycle := .charged, pendingResult := none }
    have hact := ha.then (.decided s h r y s.grantQueue (.standing ?_ (fun hx => ?_) (fun hx => ?_) fun _ hx hy => ?_) hpair hr hd rfl)
    · rw [hdecide, unbound_modHead, State.modHead_modHead, State.modHead_eq, unbound_head, unbound_grantQueue]
      exact hact
    · simp only [Head.can, y, hr, Option.map_some, hgrew.filing]
    · have hnot : s.heads[h].cycle ≠ .waiting := fun hw => by
        have := (hx.shape.asks (.inl hw)).2.2.1
        rw [hd] at this
        exact Bool.noConfusion this
      exact ⟨fun h => (nomatch h), fun h => absurd h hnot⟩
    · obtain ⟨hidle, hvalve⟩ := hshape hx
      have hnc : s.heads[h].cycle ≠ .charging := fun hw => by
        have := (hx.shape.asks (.inr hw)).2.2.1
        rw [hd] at this
        exact Bool.noConfusion this
      exact {
        charging := fun h => nomatch h
        paired := fun c hc => absurd (hx.shape.paired c (hpair.symm.trans hc)) hnc
        inlets := fun c => by
          show (g s.heads[h]).inlets[c] = true ↔ (g s.heads[h]).paired = some c
          rw [hinl, hpair]; exact hx.shape.inlets c
        empty := ⟨fun h => (nomatch h), fun h => (nomatch h)⟩
        probing := ⟨fun _ h => (nomatch h), fun _ => hidle⟩
        probeValve := fun h => absurd (hvalve.symm.trans h) Bool.noConfusion
        asks := fun h => by rcases h with h | h <;> exact nomatch h
        result := fun h => absurd rfl h
        early := fun h => by rcases h with h | h | h | h <;> exact nomatch h }
    · exact {
        noFlow := hn.symm ▸ hy.noFlow
        zeros := hz.symm ▸ hy.zeros
        offset := ho.symm ▸ hy.offset
        record := fun q hq => by
          obtain rfl : r' = q := Option.some.inj hq
          exact hgrew.ranges (hy.record r hr)
        undecided := fun _ _ h => nomatch h
        toCome := fun _ _ h => by rcases h with h | h | h <;> simp [y] at h }
  · exact absurd hempty hm

theorem HeadShape.valve_of_idle {x : Head} (hx : HeadShape x) (hi : x.probeStep = .idle) : x.probeValve = false := by
  rw [← Bool.not_eq_true]
  exact fun hv => nomatch hi.symm.trans (hx.probeValve hv)

/-- A head that does not charge is paired with no cylinder, and its inlet valves are closed. -/
theorem HeadShape.unpaired {x : Head} (hx : HeadShape x) (hc : x.cycle ≠ .charging) :
    x.paired = none ∧ ∀ c : Fin 4, x.inlets[c] = false := by
  have hpair : x.paired = none := by
    by_contra hn
    obtain ⟨c, hp⟩ := Option.ne_none_iff_exists'.mp hn
    exact hc (hx.paired c hp)
  refine ⟨hpair, fun c => ?_⟩
  rw [← Bool.not_eq_true, hx.inlets c, hpair]
  exact fun h => (nomatch h)

/-- A head that asks for gas. -/
theorem headShape_waiting {y : Head} (hcyc : y.cycle = .waiting) (hpair : y.paired = none) (hinl : ∀ c : Fin 4, y.inlets[c] = false)
    (hr : ∃ r t, y.record = some r ∧ r.target = some t) (hidle : y.probeStep = .idle) (hvalve : y.probeValve = false)
    (hwin : y.window = .isOpen) (hd : y.decided = true) (hres : y.pendingResult = none) : HeadShape y where
  charging h := nomatch hcyc.symm.trans h
  paired c h := nomatch hpair.symm.trans h
  inlets c := by rw [hinl, hpair]; exact ⟨fun h => (nomatch h), fun h => (nomatch h)⟩
  empty := by
    obtain ⟨r, -, hr, -⟩ := hr
    rw [hr, hcyc]
    exact ⟨fun h => (nomatch h), fun h => (nomatch h)⟩
  probing := by rw [hidle, hcyc]; exact ⟨fun _ => Cycle.noConfusion, fun _ => rfl⟩
  probeValve h := nomatch hvalve.symm.trans h
  asks _ := ⟨hr, hwin, hd, hres⟩
  result h := absurd hres h
  early h := by rw [hcyc] at h; rcases h with h | h | h | h <;> exact nomatch h

/-- A head past its charge. -/
theorem headShape_late {y : Head} (hcyc : y.cycle = .charged ∨ y.cycle = .dwelling ∨ y.cycle = .lifted) (hpair : y.paired = none)
    (hinl : ∀ c : Fin 4, y.inlets[c] = false) (hr : y.record ≠ none) (hidle : y.probeStep = .idle) (hvalve : y.probeValve = false)
    (hres : y.pendingResult ≠ none → y.decided = true) : HeadShape y where
  charging h := by rw [h] at hcyc; simp at hcyc
  paired c h := nomatch hpair.symm.trans h
  inlets c := by rw [hinl, hpair]; exact ⟨fun h => (nomatch h), fun h => (nomatch h)⟩
  empty := ⟨fun h => absurd h hr, fun h => by rw [h] at hcyc; simp at hcyc⟩
  probing := ⟨fun _ h => by rw [h] at hcyc; simp at hcyc, fun _ => hidle⟩
  probeValve h := nomatch hvalve.symm.trans h
  asks h := by rcases h with h | h <;> rw [h] at hcyc <;> simp at hcyc
  result h := ⟨hcyc, hres h⟩
  early h := by rcases h with h | h | h | h <;> rw [h] at hcyc <;> simp at hcyc

theorem joinQueue_eq (h : Fin 16) (s : State) : joinQueue h s = s.withHead h { s.heads[h] with cycle := .waiting }
    (if h ∈ s.grantQueue then s.grantQueue else s.grantQueue ++ [h]) := rfl

theorem State.withHead_modHead (s : State) (h : Fin 16) (f : Head → Head) (y : Head) (q : List (Fin 16)) :
    (s.modHead h f).withHead h y q = s.withHead h y q := by
  simp [State.withHead, State.modHead]

theorem HeadShape.idle_of {x : Head} (hx : HeadShape x) (hc : x.cycle ≠ .probing) : x.probeStep = .idle := hx.probing.mpr hc

/-- The charge decision of a PROBED head whose window is not still to open. -/
theorem Acts.decideProbed (ha : Acts b s0 s) (h : Fin 16) (hc : s.heads[h].cycle = .probed)
    (hw : s.heads[h].window ≠ .notOpen) : Acts b s0 (chargeDecision h s) := by
  cases hr : s.heads[h].record with
  | none =>
    rw [show chargeDecision h s = s by simp only [chargeDecision, hr]]
    exact ha
  | some r =>
    by_cases hd : s.heads[h].decided = true
    · rw [show chargeDecision h s = s by simp only [chargeDecision, hr, hd, if_true]]
      exact ha
    · have hd : s.heads[h].decided = false := by simpa using hd
      have hnw : s.heads[h].cycle ≠ .waiting := by rw [hc]; exact Cycle.noConfusion
      obtain ⟨r', hg, ⟨-, hdecide⟩ | ⟨-, ⟨t, ht⟩, hdecide⟩⟩ := chargeDecision_cases hr hd hnw
      · rw [hdecide, State.modHead_eq, unbound_head, unbound_grantQueue]
        refine ha.then (.decided s h r _ s.grantQueue (.standing ?_ (fun hx => ?_) (fun hx => ?_) fun _ hx hy => ?_) rfl hr hd rfl)
        · simp only [Head.can, hr, Option.map_some, hg.filing]
        · exact ⟨fun h => (nomatch h), fun h => absurd h hnw⟩
        · have hidle := hx.shape.idle_of (by rw [hc]; exact Cycle.noConfusion)
          have hcharged := (hx.shape.charged (by rw [hr]; exact Option.some_ne_none r) hidle
            (by rw [hc]; exact Cycle.noConfusion)).withRecord hr hg
          exact { hcharged with
            asks := fun h => by rcases h with h | h <;> exact nomatch h
            result := fun h => absurd rfl h
            early := fun h => by rcases h with h | h | h | h <;> exact nomatch h }
        · exact { hy.charged.withRecord hr hg with undecided := fun _ _ h => nomatch h }
      · rw [hdecide]
        have hact := (ha.then (.decided s h r { s.heads[h] with record := some r', decided := true, cycle := .waiting } _
          (.joining ?_ rfl (fun hx => ?_) fun _ hx hy => ?_) rfl hr hd rfl)).arbitrate
        · rw [Machine.requestGas, joinQueue_eq, State.withHead_modHead, State.modHead_self, State.modHead_grantQueue, unbound_head,
            unbound_grantQueue]
          exact hact
        · simp only [Head.can, hr, Option.map_some, hg.filing]
        · obtain ⟨hpair, hinl⟩ := hx.shape.unpaired (by rw [hc]; exact Cycle.noConfusion)
          have hidle := hx.shape.idle_of (by rw [hc]; exact Cycle.noConfusion)
          have hearly := hx.shape.early (.inr (.inr (.inr hc)))
          have hwin : s.heads[h].window = .isOpen := by
            cases hwin : s.heads[h].window with
            | isOpen => rfl
            | notOpen => exact absurd hwin hw
            | closed => exact absurd hwin hearly.2
          refine headShape_waiting rfl hpair hinl ⟨r', t, rfl, ht⟩ hidle (hx.shape.valve_of_idle hidle) hwin rfl ?_
          by_contra hres
          exact Bool.noConfusion (hearly.1.symm.trans (hx.shape.result hres).2)
        · have hshots := hg.shots.trans (hy.undecided r hr hd)
          exact { hy.withRecord hr hg with
            undecided := fun _ _ h => nomatch h
            toCome := fun q hq _ => by
              obtain rfl : r' = q := Option.some.inj hq
              rw [hshots]
              exact Nat.zero_le 2 }

/-- A head enters PROBED, its probe items changed in the same act. -/
theorem Acts.enterProbed (ha : Acts b s0 s) (h : Fin 16) (g : Head → Head)
    (hg : ∀ x, (g x).record = x.record ∧ (g x).decided = x.decided ∧ (g x).paired = x.paired ∧
      (g x).pendingResult = x.pendingResult ∧
      (g x).noFlowCount = x.noFlowCount ∧ (g x).zeroCount = x.zeroCount ∧ (g x).zeroOffset = x.zeroOffset)
    (hw : HeadFits s h → s.heads[h].cycle ≠ .waiting)
    (hshape : HeadFits s h → HeadShape { g s.heads[h] with cycle := .probed }) :
    Acts b s0 (enterProbed h (s.modHead h g)) := by
  obtain ⟨hrec, hdec, hpair, hres, hn, hz, ho⟩ := hg s.heads[h]
  have hprobed : Acts b s0 (s.modHead h fun x => { g x with cycle := .probed }) := by
    refine ha.modHead h _ (by simp only [Head.can, hrec]) hpair (.inl hdec) (fun hx => ?_) hshape fun _ _ hr => ?_
    · exact ⟨fun h => (nomatch h), fun h => absurd h (hw hx)⟩
    · refine ⟨hn.symm ▸ hr.noFlow, hz.symm ▸ hr.zeros, ho.symm ▸ hr.offset, ?_, ?_, ?_⟩
      · exact fun r e => hr.record r (hrec.symm.trans e)
      · exact fun r e hd => hr.undecided r (hrec.symm.trans e) (hdec.symm.trans hd)
      · rintro r e (hc | hc | hc)
        · exact nomatch hc
        · exact nomatch hc
        · exact hr.toCome r (hrec.symm.trans e) (.inr (.inr (hres ▸ hc)))
  have hself : (s.modHead h g).heads[h] = g s.heads[h] := State.modHead_self s h g
  by_cases hwin : (g s.heads[h]).window = .notOpen
  · rw [enterProbed_closed (by rw [hself]; exact hwin), State.modHead_modHead]
    exact hprobed
  · rw [enterProbed_open (by rw [hself]; exact hwin), State.modHead_modHead]
    exact hprobed.decideProbed h (by rw [State.modHead_self]) (by rw [State.modHead_self]; exact hwin)

/-! ## The end of the charge window -/

theorem addReason_head (h : Fin 16) (k : Reason) (s : State) : (addReason h k s).heads[h] = s.heads[h].withReason k := by
  rw [addReason_heads, if_pos rfl]

/-- What a reason leaves of a head that holds a can. -/
theorem Head.withReason_some {x : Head} {r : CanRecord} (hr : x.record = some r) (k : Reason) :
    (x.withReason k).record = some (r.withReason k) ∧ (x.withReason k).cycle ≠ .waiting ∧
      (x.withReason k).decided = x.decided ∧ (x.withReason k).window = x.window := by
  unfold Head.withReason
  rw [hr]
  simp only []
  split
  · exact ⟨rfl, Cycle.noConfusion, rfl, rfl⟩
  · rename_i hc
    exact ⟨rfl, hc, rfl, rfl⟩

/-- The late decision of a head whose window is closed. -/
theorem Acts.lateDecision (ha : Acts b s0 s) (h : Fin 16) (hw : s.heads[h].window = .closed) :
    Acts b s0 (lateDecision h s) := by
  cases hr : s.heads[h].record with
  | none =>
    rw [show Machine.lateDecision h s = s from if_neg fun hh => holdsCan_iff.mp hh.1 hr]
    exact ha
  | some r =>
    by_cases hd : s.heads[h].decided = true
    · rw [lateDecision_decided hd]
      exact ha
    · rw [lateDecision_undecided hr (by simpa using hd)]
      obtain ⟨hrec, hcyc, hdec, hwin⟩ := Head.withReason_some hr .noCharge
      rw [← addReason_head] at hrec hcyc hdec hwin
      have hdecide := (ha.addReason h .noCharge).decideMarked h hrec (withReason_reasons_ne r .noCharge)
        (by rw [hdec]; simpa using hd) id (fun _ => ⟨rfl, rfl, rfl, rfl, rfl, rfl, rfl⟩) hcyc fun hx => ?_
      · rwa [State.modHead_id _ h id rfl] at hdecide
      · have hidle := hx.shape.idle_of fun hp => (hx.shape.early (.inr (.inr (.inl hp)))).2 (hwin.trans hw)
        exact ⟨hidle, hx.shape.valve_of_idle hidle⟩

/-- The window of a head closes; nothing else of it changes. -/
def Head.closed (x : Head) : Head := { x with window := .closed }

/-- Closing the window where the cycle state admits a closed one. -/
theorem Acts.closed (ha : Acts b s0 s) (h : Fin 16) (hshape : HeadFits s h → HeadShape s.heads[h].closed) :
    Acts b s0 (s.modHead h Head.closed) :=
  ha.modHead h _ rfl rfl (.inl rfl) (fun _ => Iff.rfl) hshape fun _ _ hr => { hr with }

/-- The window of a head past its charge may close. -/
theorem HeadShape.closed_late {x : Head} (hx : HeadShape x)
    (hc : x.cycle = .empty ∨ x.cycle = .charged ∨ x.cycle = .dwelling ∨ x.cycle = .lifted) : HeadShape x.closed :=
  { hx with
    asks := fun h => by
      have h : x.cycle = .waiting ∨ x.cycle = .charging := h
      rcases h with h | h <;> rw [h] at hc <;> simp at hc
    early := fun h => by
      have h : x.cycle = .seated ∨ x.cycle = .crimped ∨ x.cycle = .probing ∨ x.cycle = .probed := h
      rcases h with h | h | h | h <;> rw [h] at hc <;> simp at hc }

theorem State.modHead_comm (s : State) {h j : Fin 16} (hj : h ≠ j) (f g : Head → Head) :
    (s.modHead h f).modHead j g = (s.modHead j g).modHead h f := by
  have hne : h.val ≠ j.val := fun e => hj (Fin.ext e)
  simp only [State.modHead]
  rw [show (s.heads.set h (f s.heads[h]))[j] = s.heads[j] from Vector.getElem_set_ne _ _ hne,
    show (s.heads.set j (g s.heads[j]))[h] = s.heads[h] from Vector.getElem_set_ne _ _ hne.symm, Vector.set_comm _ _ hne]

theorem endDischarge_closed (c : Fin 4) (k : EndCause) (h : Fin 16) (s : State) :
    endDischarge c k (s.modHead h Head.closed) = (endDischarge c k s).modHead h Head.closed := by
  unfold endDischarge
  rw [State.modHead_cylinders]
  split
  · simp only []
    cases ho : s.cylinders[c].owner with
    | none => rfl
    | some j =>
      by_cases hj : h = j
      · subst hj
        simp only [State.modHead_modCyl, State.modHead_modHead]
        rfl
      · simp only [State.modHead_modCyl]
        exact State.modHead_comm _ hj _ _
  · rfl

theorem endDischarge_can (c : Fin 4) (k : EndCause) (h : Fin 16) (s : State) :
    (endDischarge c k s).heads[h].can = s.heads[h].can ∧ (endDischarge c k s).heads[h].decided = s.heads[h].decided := by
  rw [endDischarge_heads]
  split <;> exact ⟨rfl, rfl⟩

theorem HeadShape.discharged {x : Head} {c : Fin 4} (hx : HeadShape x) (hp : x.paired = some c) : HeadShape (x.discharged c) := by
  have hcyc := hx.paired c hp
  have hidle := hx.idle_of (by rw [hcyc]; decide)
  refine headShape_late (.inl rfl) rfl (fun d => ?_) (fun hr => ?_) hidle (hx.valve_of_idle hidle) fun _ =>
    (hx.asks (.inr hcyc)).2.2.1
  · have := hx.inlets d
    simp only [Head.discharged, getFin_set]
    split
    · rfl
    · rw [← Bool.not_eq_true, this, hp]
      simpa using ‹_›
  · exact nomatch hcyc.symm.trans (hx.empty.mp hr)

theorem HeadRanges.discharged {x : Head} (hx : HeadRanges x) (c : Fin 4) (hc : x.cycle = .charging) :
    HeadRanges (x.discharged c) :=
  { hx with toCome := fun r e _ => hx.toCome r e (.inr (.inl hc)) }

/-- The can of a head is marked once a reason is added. -/
theorem addReason_marked (h : Fin 16) (k : Reason) (s : State) (r : CanRecord)
    (hr : (addReason h k s).heads[h].record = some r) : r.reasons ≠ [] := by
  rw [addReason_head] at hr
  cases hrec : s.heads[h].record with
  | none =>
    unfold Head.withReason at hr
    simp only [hrec] at hr
    exact nomatch hr
  | some q =>
    rw [(Head.withReason_some hrec k).1] at hr
    obtain rfl := Option.some.inj hr
    exact withReason_reasons_ne q k

/-- A marked can not yet decided is decided from a head before its charge, which may also change otherwise in the act. -/
theorem Acts.decideEarly (ha : Acts b s0 s) (h : Fin 16) (g : Head → Head)
    (hg : ∀ x, (g x).record = x.record ∧ (g x).decided = x.decided ∧ (g x).paired = x.paired ∧ (g x).inlets = x.inlets ∧
      (g x).noFlowCount = x.noFlowCount ∧ (g x).zeroCount = x.zeroCount ∧ (g x).zeroOffset = x.zeroOffset)
    (hc : s.heads[h].cycle = .seated ∨ s.heads[h].cycle = .crimped ∨ s.heads[h].cycle = .probing ∨ s.heads[h].cycle = .probed)
    (hm : ∀ r, s.heads[h].record = some r → r.reasons ≠ []) (hgc : (g s.heads[h]).cycle ≠ .waiting)
    (hshape : HeadFits s h → (g s.heads[h]).probeStep = .idle ∧ (g s.heads[h]).probeValve = false) :
    Acts b s0 (chargeDecision h (s.modHead h g)) := by
  obtain ⟨hrec, hdec, hpair, -⟩ := hg s.heads[h]
  have hself : (s.modHead h g).heads[h] = g s.heads[h] := State.modHead_self s h g
  have hout (hno : HeadFits s h → False) : Acts b s0 (s.modHead h g) :=
    ha.modHead h g (by simp only [Head.can, hrec]) hpair (.inl hdec) (fun hx => (hno hx).elim) (fun hx => (hno hx).elim)
      fun _ hx => (hno hx).elim
  cases hr : s.heads[h].record with
  | none =>
    rw [show chargeDecision h (s.modHead h g) = s.modHead h g by simp only [chargeDecision, hself, hrec, hr]]
    refine hout fun hx => ?_
    rw [hx.shape.empty.mp hr] at hc
    simp at hc
  | some r =>
    by_cases hd : s.heads[h].decided = true
    · rw [show chargeDecision h (s.modHead h g) = s.modHead h g by
        simp only [chargeDecision, hself, hrec, hr, hdec, hd, if_true]]
      exact hout fun hx => nomatch hd.symm.trans (hx.shape.early hc).1
    · exact ha.decideMarked h hr (hm r hr) (by simpa using hd) g hg hgc hshape

/-- The end of the window of a head that is not before its charge decision. -/
theorem Acts.closeWindow (ha : Acts b s0 s) (h : Fin 16)
    (hc : s.heads[h].cycle ≠ .seated ∧ s.heads[h].cycle ≠ .crimped ∧ s.heads[h].cycle ≠ .probed) :
    Acts b s0 (closeWindow h s) := by
  obtain ⟨hseated, hcrimped, hprobed⟩ := hc
  cases hcyc : s.heads[h].cycle with
  | seated => exact absurd hcyc hseated
  | crimped => exact absurd hcyc hcrimped
  | probed => exact absurd hcyc hprobed
  | empty | charged | dwelling | lifted =>
    rw [closeWindow_plain (by rw [hcyc]; decide) (by rw [hcyc]; decide) (by rw [hcyc]; decide)]
    exact ha.closed h fun hx => hx.shape.closed_late (by rw [hcyc]; decide)
  | probing =>
    let g (x : Head) : Head := { x with
      window := .closed, probeValve := false, probeTimer := .stopped, probeStep := .idle, pa := none, cycle := .probed }
    have hnw : s.heads[h].cycle ≠ .waiting := by rw [hcyc]; decide
    have hclose : Machine.closeWindow h s = chargeDecision h ((Machine.addReason h .probeLate s).modHead h g) := by
      rw [closeWindow_probing hcyc, addReason_settled h _ s hnw,
        addReason_settled h _ (s.modHead h _) (by rw [State.modHead_self]; exact hnw), State.modHead_modHead,
        enterProbed_open (by rw [State.modHead_self]; exact Window.noConfusion), State.modHead_modHead, State.modHead_modHead]
    rw [hclose]
    have hu : (Machine.addReason h .probeLate s).heads[h].cycle = .probing := by
      rw [addReason_settled h _ s hnw, State.modHead_self]
      exact hcyc
    exact (ha.addReason h .probeLate).decideEarly h g (fun _ => ⟨rfl, rfl, rfl, rfl, rfl, rfl, rfl⟩)
      (.inr (.inr (.inl hu))) (addReason_marked h _ s) Cycle.noConfusion fun _ => ⟨rfl, rfl⟩
  | waiting =>
    unfold Machine.closeWindow
    rw [hcyc]
    simp only []
    rw [← withdraw_modHead, State.modHead_modHead]
    have hrel := ha.released h (fun x => { x with window := .closed, cycle := .charged, pendingResult := none }) (fun _ => rfl)
      fun _ => hcyc
    split
    · exact hrel.addReason h _
    · exact hrel.judgeDose h
  | charging =>
    cases hp : s.heads[h].paired with
    | none =>
      rw [show Machine.closeWindow h s = s.modHead h Head.closed by unfold Machine.closeWindow; rw [hcyc]; simp only [hp]; rfl]
      refine ha.closed h fun hx => ?_
      obtain ⟨c, hc⟩ := hx.shape.charging hcyc
      exact nomatch hp.symm.trans hc
    | some c =>
      have hown (hd : s.cylinders[c].state = .discharging) (ho : s.cylinders[c].owner = some h) :
          (endDischarge c .chargeClose s).heads[h] = s.heads[h].discharged c := by
        rw [endDischarge_heads, if_pos ⟨hd, ho⟩]
      obtain ⟨hcan, hdec⟩ := endDischarge_can c .chargeClose h s
      have hq : (endDischarge c .chargeClose s).grantQueue = s.grantQueue := by simp
      rw [show Machine.closeWindow h s = endDischarge c .chargeClose (s.modHead h Head.closed) from closeWindow_charging hcyc hp,
        endDischarge_closed, State.modHead_eq, hq]
      refine ha.then (.ended s c .chargeClose h _ s.grantQueue hp hcan hdec fun hd ho => ⟨.standing hcan (fun _ => ?_) (fun hx => ?_)
        fun _ hx hr => ?_, ?_⟩)
      · rw [hown hd ho, hcyc]
        exact ⟨fun h => (nomatch h), fun h => (nomatch h)⟩
      · rw [hown hd ho]
        exact (hx.shape.discharged hp).closed_late (.inr (.inl rfl))
      · rw [hown hd ho]
        exact { hr.discharged c hcyc with }
      · rw [hown hd ho]
        rfl

/-- CHARGE_CLOSE: the window closes, and a decision not yet taken is taken after NO_CHARGE. -/
theorem Acts.chargeClose (ha : Acts b s0 s) (h : Fin 16) : Acts b s0 (chargeCloseStation h s) := by
  unfold chargeCloseStation
  by_cases hc : s.heads[h].cycle = .seated ∨ s.heads[h].cycle = .crimped ∨ s.heads[h].cycle = .probed
  · have hearly : s.heads[h].cycle = .seated ∨ s.heads[h].cycle = .crimped ∨ s.heads[h].cycle = .probing ∨
        s.heads[h].cycle = .probed := by grind
    have hnw : s.heads[h].cycle ≠ .waiting := by rcases hc with hc | hc | hc <;> rw [hc] <;> decide
    have hnp : s.heads[h].cycle ≠ .probing := by rcases hc with hc | hc | hc <;> rw [hc] <;> decide
    have hnc : s.heads[h].cycle ≠ .charging := by rcases hc with hc | hc | hc <;> rw [hc] <;> decide
    have hself : (s.modHead h Head.closed).heads[h] = s.heads[h].closed := State.modHead_self s h _
    rw [show Machine.closeWindow h s = s.modHead h Head.closed from closeWindow_plain hnp hnw hnc]
    by_cases hlate : s.heads[h].holdsCan = true ∧ s.heads[h].decided = false
    · have hmove : Machine.addReason h .noCharge (s.modHead h Head.closed) =
          (Machine.addReason h .noCharge s).modHead h Head.closed := by
        rw [addReason_settled h _ s hnw, addReason_settled h _ (s.modHead h _) (by rw [hself]; exact hnw),
          State.modHead_modHead, State.modHead_modHead]
        rfl
      rw [show Machine.lateDecision h (s.modHead h Head.closed) =
        chargeDecision h (Machine.addReason h .noCharge (s.modHead h Head.closed)) from
          if_pos (by rw [hself]; exact hlate), hmove]
      have hu : (Machine.addReason h .noCharge s).heads[h].cycle = s.heads[h].cycle := by
        rw [addReason_settled h _ s hnw, State.modHead_self]
      refine (ha.addReason h .noCharge).decideEarly h Head.closed (fun _ => ⟨rfl, rfl, rfl, rfl, rfl, rfl, rfl⟩)
        (by rw [hu]; exact hearly) (addReason_marked h _ s) (by rw [← hu] at hnw; exact hnw) fun hx => ?_
      have hidle := hx.shape.idle_of (by rw [hu]; exact hnp)
      exact ⟨hidle, hx.shape.valve_of_idle hidle⟩
    · rw [show Machine.lateDecision h (s.modHead h Head.closed) = s.modHead h Head.closed from
        if_neg (by rw [hself]; exact hlate)]
      refine ha.closed h fun hx => absurd ⟨holdsCan_iff.mpr fun hr => ?_, (hx.shape.early hearly).1⟩ hlate
      rw [hx.shape.empty.mp hr] at hc
      simp at hc
  · exact (ha.closeWindow h (by grind)).lateDecision h (closeWindow_keeps h s).1

theorem Acts.catchUp (ha : Acts b s0 s) (h : Fin 16) : Acts b s0 (catchUp h s) := by
  unfold Machine.catchUp
  split
  · split
    · rename_i hw
      exact ha.lateDecision h hw
    · exact ha.chargeClose h
  · exact ha

end Sys2Proof.Machine
end

section
/-! PROOF. Measurement, discharge, no-flow attempts, resets of heads and the station phases as runs of acts. -/

namespace Sys2Proof.Machine

variable {b : Bool} {s0 s : State}

/-! ## Measurement and credit -/

theorem maxShots_le (hs : FiguresSafe s) (i : Fin 2) : maxShots (slotRecipe s i) ≤ 3 := by
  unfold slotRecipe
  cases hr : s.slots[i].recipe with
  | none => decide
  | some r => exact ((hs.store.recipe i r hr).ranges 24).2

/-- The shot of a completed measurement joins the record it is credited to. -/
def CanRecord.credited (c : Fin 4) (x : Shot) (r : CanRecord) : CanRecord :=
  { r with shots := r.shots ++ [shotEntry c x], total := r.total + x.delivered.getD 0 }

/-- The head with a pending result credited. -/
def Head.credited (r : CanRecord) (y : Head) : Head := { y with record := some r, pendingResult := none }

theorem Acts.credit (ha : Acts b s0 s) (h : Fin 16) (c : Fin 4) (x : Shot) : Acts b s0 (credit h c x s) := by
  by_cases hp : s.heads[h].pendingResult = some c
  · have hres : s.heads[h].pendingResult ≠ none := by rw [hp]; exact Option.some_ne_none c
    have hlate (hx : HeadFits s h) : s.heads[h].cycle ≠ .charging ∧ s.heads[h].cycle ≠ .probing ∧ s.heads[h].cycle ≠ .waiting := by
      rcases (hx.shape.result hres).1 with hc | hc | hc <;> rw [hc] <;> decide
    cases hr : s.heads[h].record with
    | none =>
      have hdrop : Machine.credit h c x s = s.modHead h fun y => { y with pendingResult := none } := by
        have hid : Machine.modRecord h (CanRecord.credited c x) s = s :=
          State.modHead_id s h _ (by cases hx : s.heads[h]; rw [hx] at hr; subst hr; rfl)
        refine (if_pos hp).trans ?_
        show afterCredit h x.short ((Machine.modRecord h (CanRecord.credited c x) s).modHead h _) = _
        rw [hid]
        simp only [afterCredit, State.modHead_self, hr]
      rw [hdrop]
      refine ha.modHead h _ rfl rfl (.inl rfl) (fun _ => Iff.rfl) (fun hx => ?_) fun _ _ hx => ?_
      · exact { hx.shape with
          asks := fun h => ⟨(hx.shape.asks h).1, (hx.shape.asks h).2.1, (hx.shape.asks h).2.2.1, rfl⟩
          result := fun h => absurd rfl h }
      · exact { hx with toCome := fun r e _ => nomatch hr.symm.trans e }
    | some r =>
      let r' := r.credited c x
      have hrec : ((s.modHead h (Head.credited r')).heads[h]).record = some r' := by rw [State.modHead_self]; rfl
      have hranges (hx : HeadFits s h) (hy : HeadRanges s.heads[h]) : RecordRanges r' := by
        have hold := hy.record r hr
        have hroom := hy.toCome r hr (.inr (.inr hres))
        exact ⟨hold.sequence, hold.reasons, by simp [r', CanRecord.credited]; omega⟩
      have hcredit : Machine.credit h c x s = afterCredit h x.short (s.modHead h (Head.credited r')) := credit_named hp hr
      have hact : Acts b s0 (s.modHead h (Head.credited r')) := by
        refine ha.modHead h _ (by simp only [Head.can, hr]; rfl) rfl (.inl rfl) (fun _ => Iff.rfl) (fun hx => ?_) fun _ hx hy => ?_
        · obtain ⟨hnc, hnp, -⟩ := hlate hx
          obtain ⟨hpair, hinl⟩ := hx.shape.unpaired hnc
          exact headShape_late (hx.shape.result hres).1 hpair hinl (Option.some_ne_none _) (hx.shape.idle_of hnp)
            (hx.shape.valve_of_idle (hx.shape.idle_of hnp)) fun h => absurd rfl h
        · exact { hy with
            record := fun q e => by
              obtain rfl : r' = q := Option.some.inj e
              exact hranges hx hy
            undecided := fun q _ hd => nomatch hd.symm.trans (hx.shape.result hres).2
            toCome := fun q _ hc => by
              obtain ⟨hnc, -, hnw⟩ := hlate hx
              rcases hc with hc | hc | hc
              · exact absurd hc hnw
              · exact absurd hc hnc
              · exact absurd rfl hc }
      rw [hcredit]
      cases ht : r.target with
      | none =>
        rw [afterCredit_closed hrec (.inr ht)]
        exact hact
      | some t =>
        by_cases hm : r.reasons = []
        · rw [afterCredit_open hrec hm ht]
          split
          · rename_i hask
            obtain ⟨-, hshots, hwin, -⟩ := hask
            rw [State.modHead_self] at hwin
            rw [Machine.requestGas, joinQueue_eq, State.withHead_modHead, State.modHead_self, State.modHead_grantQueue]
            refine (ha.then (.head s h { Head.credited r' s.heads[h] with cycle := .waiting } _ (.joining ?_ rfl (fun hx => ?_) fun hs hx hy => ?_) rfl (.inl rfl))).arbitrate
            · simp only [Head.can, hr]
              rfl
            · obtain ⟨hnc, hnp, -⟩ := hlate hx
              obtain ⟨hpair, hinl⟩ := hx.shape.unpaired hnc
              exact headShape_waiting rfl hpair hinl ⟨r', t, rfl, ht⟩ (hx.shape.idle_of hnp)
                (hx.shape.valve_of_idle (hx.shape.idle_of hnp)) hwin (hx.shape.result hres).2 rfl
            · exact { hy with
                record := fun q e => by
                  obtain rfl : r' = q := Option.some.inj e
                  exact hranges hx hy
                undecided := fun q _ hd => nomatch hd.symm.trans (hx.shape.result hres).2
                toCome := fun q e _ => by
                  obtain rfl : r' = q := Option.some.inj e
                  have := maxShots_le hs r'.slot
                  exact Nat.le_of_lt_succ (lt_of_lt_of_le hshots this) }
          · exact hact.judgeDose h
        · rw [afterCredit_closed hrec (.inl hm)]
          exact hact
  · rw [show Machine.credit h c x s = s from if_neg hp]
    exact ha

theorem kept_afterCredit (h : Fin 16) (short : Bool) (s : State) : Kept s (afterCredit h short s) := by
  unfold afterCredit
  split
  · exact .refl _
  · split
    · exact .refl _
    · split_ifs
      · exact .refl _
      · exact kept_requestGas h _
      · exact kept_judgeDose h _

theorem kept_credit (h : Fin 16) (c : Fin 4) (x : Shot) (s : State) : Kept s (credit h c x s) := by
  unfold credit
  split
  · exact ((kept_modRecord h (CanRecord.credited c x) s).trans
      (kept_modHead _ h (fun y => { y with pendingResult := none }) fun _ => ⟨rfl, rfl, rfl⟩)).trans (kept_afterCredit h x.short _)
  · exact .refl s

theorem Acts.adapt (ha : Acts b s0 s) (c : Fin 4) (x : Shot) (n : Nat) : Acts b s0 (adapt c x n s) := by
  unfold Machine.adapt
  split
  · rename_i hm
    obtain ⟨-, -, -, -, -, -, hslot, -⟩ := (mayAdaptNow_iff s x n).mp hm
    refine ha.then (.allowance s x.slot c _ ?_ hslot)
    unfold adaptedAllowance clampInt allowanceLimit
    omega
  · exact ha

theorem Acts.afterMeasuring (ha : Acts b s0 s) (c : Fin 4) (hx : s.cylinders[c].state = .measuring) :
    Acts b s0 (afterMeasuring c s) := by
  have hrest : s.cylinders[c].state.atRest = true := by rw [hx]; rfl
  unfold Machine.afterMeasuring
  split
  · exact ha.completeDisable c (ne_discharging_of_atRest hrest)
  · exact ha.enterIdle c hrest

/-- The owner and the shots of a cylinder that is MEASURING. -/
theorem Acts.measured (ha : Acts b s0 s) (c : Fin 4) (f : Cylinder → Cylinder) (hx : s.cylinders[c].state = .measuring)
    (hf : ∀ x, f x = { x with owner := (f x).owner, shot := (f x).shot, lastShot := (f x).lastShot }) :
    Acts b s0 (s.modCyl c f) := by
  refine ha.quietCyl c f (fun x => ?_) (fun hd => nomatch hx.symm.trans hd) ?_
  · rw [hf x]
    exact ⟨rfl, rfl, rfl, rfl, rfl, rfl⟩
  · rw [hf]
    exact id

/-- The cylinder's side of a completed measurement. -/
theorem Acts.measurementClosed (ha : Acts b s0 s) (c : Fin 4) (x : Shot) (n : Nat) (hx : s.cylinders[c].state = .measuring) :
    Acts b s0 (Machine.afterMeasuring c ((Machine.adapt c x n (s.modCyl c fun y => { y with lastShot := some x })).modCyl c fun y =>
      { y with owner := none, shot := none })) := by
  have hlast : (Machine.adapt c x n (s.modCyl c fun y => { y with lastShot := some x })).cylinders[c].state = .measuring := by
    rw [adapt_eq]
    show (s.modCyl c fun y => { y with lastShot := some x }).cylinders[c].state = .measuring
    rw [State.modCyl_self]
    exact hx
  refine ((((ha.measured c _ hx fun _ => rfl).adapt c x n).measured c _ hlast fun _ => rfl).afterMeasuring c ?_)
  rw [State.modCyl_self]
  exact hlast

theorem Acts.completeMeasurement (ha : Acts b s0 s) (c : Fin 4) (hx : s.cylinders[c].state = .measuring) :
    Acts b s0 (completeMeasurement c s) := by
  unfold Machine.completeMeasurement
  split
  · refine (ha.measured c _ hx fun _ => rfl).afterMeasuring c ?_
    rw [State.modCyl_self]
    exact hx
  · simp only []
    split
    · rename_i h _
      refine (ha.credit h c _).measurementClosed c _ _ ?_
      rw [(kept_credit h c _ s).cyl c (by rw [hx]; decide)]
      exact hx
    · exact ha.measurementClosed c _ _ hx

/-! ## Discharge -/

theorem Acts.endDischarge (ha : Acts b s0 s) (c : Fin 4) (k : EndCause) : Acts b s0 (endDischarge c k s) :=
  ha.then (.discharged s c k)

/-- The flow test of one reading (spec/07 R125). -/
def State.flowSeen (c : Fin 4) (h : Fin 16) (x : Shot) (s : State) : State :=
  if s.heads[h].flowDetected = false ∧ ((s.cylinders[c].pressure : Nat) : Int) ≤ (x.startP : Int) - (flowThreshold s.config : Int) then
    s.modHead h fun y => { y with flowDetected := true, flowTimer := .stopped, noFlowCount := 0 }
  else s

theorem Acts.dischargeReading (ha : Acts b s0 s) (c : Fin 4) (h : Fin 16) (x : Shot) : Acts b s0 (dischargeReading c h x s) := by
  have hflow : Acts b s0 (s.flowSeen c h x) := by
    unfold State.flowSeen
    split
    · exact ha.quietHead h _ (fun _ => ⟨rfl, rfl, rfl, rfl, rfl, rfl, rfl, rfl, rfl⟩) fun _ hx =>
        ⟨Nat.zero_le 3, hx.zeros, hx.offset⟩
    · exact ha
  have hreading : Machine.dischargeReading c h x s =
      if (x.startP : Int) + (backflowThreshold s.config : Int) < ((s.cylinders[c].pressure : Nat) : Int) then
        Machine.addReason h .backflow (Machine.endDischarge c .backflow (s.flowSeen c h x))
      else if ((s.cylinders[c].pressure : Nat) : Int) ≤ (x.cutoff : Int) then Machine.endDischarge c .cutoff (s.flowSeen c h x)
      else s.flowSeen c h x := rfl
  rw [hreading]
  split_ifs
  · exact (hflow.endDischarge c _).addReason h _
  · exact hflow.endDischarge c _
  · exact hflow

theorem Acts.refillEnd (ha : Acts b s0 s) (c : Fin 4) (hx : s.cylinders[c].state = .refilling) : Acts b s0 (refillEnd c s) := by
  have hrest : (s.modCyl c fun x => { x with failures := 0 }).cylinders[c].state.atRest = true := by
    rw [State.modCyl_self]
    show s.cylinders[c].state.atRest = true
    rw [hx]
    rfl
  have hready := (ha.quietCyl c (fun x => { x with failures := 0 }) (fun _ => ⟨rfl, rfl, rfl, rfl, rfl, rfl⟩) (fun _ => ⟨rfl, rfl⟩)
    fun h => ⟨h.1, Nat.zero_le 3⟩).readyOrDisabled c hrest
  unfold Machine.refillEnd
  simp only []
  split
  · exact (hready.cylinderReport c _).arbitrate
  · exact hready.arbitrate

/-! ## Out of service, and a no-flow attempt -/

theorem Acts.service (ha : Acts b s0 s) (h : Fin 16) (f : Head → Head)
    (hf : ∀ x, f x = { x with service := (f x).service, returnState := (f x).returnState, ventValve := (f x).ventValve }) :
    Acts b s0 (s.modHead h f) := by
  refine ha.quietHead h f (fun x => ?_) fun _ hx => ?_
  · rw [hf x]
    exact ⟨rfl, rfl, rfl, rfl, rfl, rfl, rfl, rfl, rfl⟩
  · rw [hf]
    exact ⟨hx.noFlow, hx.zeros, hx.offset⟩

theorem Acts.enterOutOfService (ha : Acts b s0 s) (h : Fin 16) (k : HeadCause) (hw : HeadFits s h → s.heads[h].cycle ≠ .waiting) :
    Acts b s0 (enterOutOfService h k s) :=
  ((((ha.withdraw h hw).addReason h .headFault).service h _ fun _ => rfl).setCondition _).headReport h k

theorem Acts.noFlowEnd (ha : Acts b s0 s) (h : Fin 16) (c : Fin 4) (hp : s.heads[h].paired = some c)
    (hc : s.cylinders[c].state = .discharging) : Acts b s0 (noFlowEnd h c s) := by
  let x := s.heads[h].noFlow c
  have hself : (s.flowFreed h c).heads[h] = x := by
    rw [flowFreed_heads]
    exact Vector.getElem_set_self h.isLt
  have hcan : x.can = s.heads[h].can := rfl
  have hinl (hx : HeadFits s h) (d : Fin 4) : x.inlets[d] = false := by
    have := hx.shape.inlets d
    show (s.heads[h].inlets.set c false)[d] = false
    rw [getFin_set]
    split
    · rfl
    · rw [← Bool.not_eq_true, this, hp]
      simpa using ‹_›
  have hcyc (hx : HeadFits s h) := hx.shape.paired c hp
  have hidle (hx : HeadFits s h) : x.probeStep = .idle := hx.shape.idle_of (by rw [hcyc hx]; decide)
  have hcount : x.noFlowCount ≤ 3 := Nat.min_le_left _ _
  have hcharged : Acts b s0 ((s.flowFreed h c).modHead h fun x => { x with cycle := .charged, pendingResult := none }) := by
    rw [State.modHead_eq, hself, flowFreed_grantQueue]
    refine ha.then (.noFlow s c h _ s.grantQueue (.standing hcan (fun hx => ?_) (fun hx => ?_) fun _ hx hy => ?_) hp hc rfl rfl)
    · rw [hcyc hx]
      exact ⟨fun h => (nomatch h), fun h => (nomatch h)⟩
    · refine headShape_late (.inl rfl) rfl (hinl hx) (fun hr => ?_) (hidle hx) (hx.shape.valve_of_idle (hidle hx)) fun h => absurd rfl h
      exact nomatch (hcyc hx).symm.trans (hx.shape.empty.mp hr)
    · exact { hy.charged with noFlow := hcount }
  have hjoined : Acts b s0 (Machine.arbitrate (joinQueue h (s.flowFreed h c))) := by
    rw [joinQueue_eq, hself, flowFreed_grantQueue]
    refine (ha.then (.noFlow s c h { x with cycle := .waiting } _ (.joining hcan rfl (fun hx => ?_) fun _ hx hy => ?_) hp hc rfl
      rfl)).arbitrate
    · obtain ⟨hr, hwin, hd, hres⟩ := hx.shape.asks (.inr (hcyc hx))
      exact headShape_waiting rfl rfl (hinl hx) hr (hidle hx) (hx.shape.valve_of_idle (hidle hx)) hwin hd hres
    · exact { hy with noFlow := hcount, toCome := fun r e _ => hy.toCome r e (.inr (.inl (hcyc hx))) }
  show Acts b s0 (Machine.arbitrate (afterNoFlow h (s.flowFreed h c)))
  unfold afterNoFlow
  split
  · split
    · exact hcharged.arbitrate
    · exact hjoined
  · refine ((hcharged.addReason h .noFlow).enterOutOfService h _ fun _ => ?_).arbitrate
    rw [addReason_settled h _ _ (by rw [State.modHead_self]; exact Cycle.noConfusion), State.modHead_self, State.modHead_self]
    exact Cycle.noConfusion

end Sys2Proof.Machine
end

section
/-! PROOF. HEAD RESET and the station phases of a head as runs of acts. -/

namespace Sys2Proof.Machine

variable {b : Bool} {s0 s : State}

/-! ## HEAD RESET -/

/-- A head in shape whose valves, timers and probe are put back. -/
theorem HeadShape.reset {x : Head} (hx : HeadShape x) (hp : x.paired = none) (hc : x.cycle ≠ .probing) : HeadShape x.resetItems where
  charging := hx.charging
  paired := hx.paired
  inlets c := by
    show (Vector.replicate 4 false)[c] = true ↔ x.paired = some c
    rw [hp]
    simp
  empty := hx.empty
  probing := ⟨fun _ => hc, fun _ => rfl⟩
  probeValve h := nomatch h
  asks := hx.asks
  result := hx.result
  early := hx.early

theorem HeadShape.reset_probing {x : Head} (hx : HeadShape x) (hc : x.cycle = .probing) :
    HeadShape { x.resetItems with cycle := .probed } := by
  have hp := (hx.unpaired (by rw [hc]; decide)).1
  have hearly := hx.early (.inr (.inr (.inl hc)))
  constructor
  · exact fun h => nomatch h
  · exact fun c h => nomatch hp.symm.trans h
  · intro c
    show (Vector.replicate 4 false)[c] = true ↔ x.paired = some c
    rw [hp]
    simp
  · exact ⟨fun h => (nomatch hc.symm.trans (hx.empty.mp h)), fun h => (nomatch h)⟩
  · exact ⟨fun _ h => (nomatch h), fun _ => rfl⟩
  · exact fun h => nomatch h
  · rintro (h | h) <;> exact nomatch h
  · intro h
    exact nomatch hearly.1.symm.trans (hx.result h).2
  · exact fun _ => hearly

theorem HeadRanges.reset {x : Head} (hx : HeadRanges x) : HeadRanges x.resetItems :=
  { hx with noFlow := Nat.zero_le 3, zeros := Nat.zero_le 3, offset := ⟨show (-50 : Int) ≤ 0 by decide, show (0 : Int) ≤ 50 by decide⟩ }

/-- The head once its reset has put its items back, withdrawn its request and ended its probe. -/
def Head.resetBy (cyc : Cycle) (x : Head) : Head :=
  if cyc = .waiting then { x.resetItems with cycle := .charged, pendingResult := none }
  else if cyc = .probing then { x.resetItems with cycle := .probed }
  else x.resetItems

theorem Head.resetBy_still (cyc : Cycle) (x : Head) : (x.resetBy cyc).can = x.can ∧ (x.resetBy cyc).paired = x.paired ∧
    (x.resetBy cyc).decided = x.decided := by
  unfold Head.resetBy
  split_ifs <;> exact ⟨rfl, rfl, rfl⟩

theorem HeadShape.resetBy {x : Head} (hx : HeadShape x) (hp : x.paired = none) : HeadShape (x.resetBy x.cycle) := by
  unfold Head.resetBy
  split_ifs with hw hprobe
  · exact (hx.reset hp (by rw [hw]; decide)).charged_of_waiting hw
  · exact hx.reset_probing hprobe
  · exact hx.reset hp hprobe

theorem HeadRanges.resetBy {x : Head} (hx : HeadRanges x) : HeadRanges (x.resetBy x.cycle) := by
  unfold Head.resetBy
  split_ifs
  · exact hx.reset.charged
  · refine { hx.reset with toCome := fun r e h => ?_ }
    rcases h with h | h | h
    · exact nomatch h
    · exact nomatch h
    · exact hx.toCome r e (.inr (.inr h))
  · exact hx.reset

theorem Head.resetBy_cycle {x : Head} : (x.resetBy x.cycle).cycle ≠ .waiting := by
  unfold Head.resetBy
  split_ifs with hw hprobe
  · exact Cycle.noConfusion
  · exact Cycle.noConfusion
  · exact hw

/-- The reset up to its reason: the pairing, the items, the request. -/
theorem Acts.resetItems (ha : Acts b s0 s) (h : Fin 16) :
    Acts b s0 ((Machine.withdraw h (resetPairing h s)).modHead h (Head.resetBy s.heads[h].cycle)) := by
  cases hp : s.heads[h].paired with
  | none =>
    rw [resetPairing_none hp]
    obtain ⟨hcan, hpair, hdec⟩ := Head.resetBy_still s.heads[h].cycle s.heads[h]
    exact ha.then (.head s h (s.heads[h].resetBy s.heads[h].cycle) (s.grantQueue.filter (· ≠ h))
      (.leaving hcan (fun _ => Head.resetBy_cycle) (fun hx => hx.shape.resetBy hp) fun _ _ hy => hy.resetBy) hpair (.inl hdec))
  | some c =>
    have hend : resetPairing h s = Machine.endDischarge c .headReset s := by simp only [resetPairing, hp]
    have hq : (Machine.endDischarge c .headReset s).grantQueue = s.grantQueue := by simp
    obtain ⟨hcan, hpair, hdec⟩ := Head.resetBy_still s.heads[h].cycle (Machine.endDischarge c .headReset s).heads[h]
    obtain ⟨hcan', hdec'⟩ := endDischarge_can c .headReset h s
    rw [hend, State.modHead_eq, show (Machine.withdraw h (Machine.endDischarge c .headReset s)).heads = (Machine.endDischarge c .headReset s).heads from rfl,
      show (Machine.withdraw h (Machine.endDischarge c .headReset s)).grantQueue = (Machine.endDischarge c .headReset s).grantQueue.filter (· ≠ h) from rfl, hq]
    refine ha.then (.ended s c .headReset h _ (s.grantQueue.filter (· ≠ h)) hp (hcan.trans hcan') (hdec.trans hdec')
      fun hd ho => ?_)
    have hown : (Machine.endDischarge c .headReset s).heads[h] = s.heads[h].discharged c := by
      rw [endDischarge_heads, if_pos ⟨hd, ho⟩]
    rw [hown]
    have hby (hx : HeadFits s h) : (s.heads[h].discharged c).resetBy s.heads[h].cycle = (s.heads[h].discharged c).resetItems := by
      rw [hx.shape.paired c hp]
      rfl
    refine ⟨.leaving ?_ (fun hx => ?_) (fun hx => ?_) fun _ hx hy => ?_, ?_⟩
    · exact (Head.resetBy_still _ _).1
    · rw [hby hx]
      exact Cycle.noConfusion
    · rw [hby hx]
      exact (hx.shape.discharged hp).reset rfl Cycle.noConfusion
    · rw [hby hx]
      exact (hy.discharged c (hx.shape.paired c hp)).reset
    · exact (Head.resetBy_still _ _).2.1

theorem resetPairing_cycle (h : Fin 16) (s : State) :
    (resetPairing h s).heads[h].cycle = s.heads[h].cycle ∨ (resetPairing h s).heads[h].cycle = .charged := by
  unfold resetPairing
  split
  · rw [endDischarge_heads]
    split
    · exact .inr rfl
    · exact .inl rfl
  · exact .inl rfl

theorem Acts.resetHead (ha : Acts b s0 s) (h : Fin 16) : Acts b s0 (resetHead h s) := by
  let v := Machine.withdraw h (resetPairing h s)
  have hv : v.heads[h].cycle = s.heads[h].cycle ∨ v.heads[h].cycle = .charged := resetPairing_cycle h s
  let zeroing (x : Head) : Head := { x with service := .zeroing }
  have hact : Acts b s0 ((Machine.addReason h .headReset (v.modHead h (Head.resetBy s.heads[h].cycle))).modHead h zeroing) :=
    ((ha.resetItems h).addReason h _).service h _ fun _ => rfl
  by_cases hp : s.heads[h].cycle = .probing
  · have hnw : v.heads[h].cycle ≠ .waiting := by
      rcases hv with hv | hv <;> rw [hv]
      · rw [hp]; decide
      · decide
    let w := (Machine.addReason h .headReset (v.modHead h Head.resetItems)).modHead h zeroing
    have hreset : Machine.resetHead h s = Machine.headReport h .resetRequest (Machine.enterProbed h w) := by
      unfold Machine.resetHead
      rw [hp]
      rfl
    have hw : w.modHead h (fun x => { x with cycle := .probed }) =
        (Machine.addReason h .headReset (v.modHead h (Head.resetBy s.heads[h].cycle))).modHead h zeroing := by
      rw [hp]
      show ((Machine.addReason h .headReset (v.modHead h Head.resetItems)).modHead h zeroing).modHead h _ = _
      rw [addReason_settled h _ (v.modHead h Head.resetItems) (by rw [State.modHead_self]; exact hnw),
        addReason_settled h _ (v.modHead h _) (by rw [State.modHead_self]; exact Cycle.noConfusion)]
      simp only [State.modHead_modHead]
      rfl
    rw [hreset]
    refine Acts.headReport ?_ h _
    by_cases hwin : w.heads[h].window = .notOpen
    · rw [enterProbed_closed hwin, hw]
      exact hact
    · have hself : (w.modHead h fun x => { x with cycle := .probed }).heads[h] = { w.heads[h] with cycle := .probed } :=
        State.modHead_self w h _
      rw [enterProbed_open hwin]
      exact Acts.decideProbed (hw ▸ hact) h (by rw [hself]) (by rw [hself]; exact hwin)
  · have hreset : Machine.resetHead h s = Machine.headReport h .resetRequest
        ((Machine.addReason h .headReset (v.modHead h (Head.resetBy s.heads[h].cycle))).modHead h zeroing) := by
      unfold Machine.resetHead Head.resetBy
      simp only [if_neg hp]
      by_cases hw : s.heads[h].cycle = .waiting
      · simp only [if_pos hw]
        rw [withdraw_modHead, State.modHead_modHead]
      · simp only [if_neg hw]
        rw [withdraw_modHead]
    rw [hreset]
    exact hact.headReport h _

end Sys2Proof.Machine
end

section
/-! PROOF. The station phases of a head as runs of acts. -/

namespace Sys2Proof.Machine

variable {b : Bool} {s0 s : State}

/-! ## Up to the charge decision -/

/-- A head before its charge decision, its probe not running, moves on to another such state. -/
theorem HeadShape.movedEarly {x : Head} (hx : HeadShape x) {cyc : Cycle}
    (hc : x.cycle = .seated ∨ x.cycle = .crimped) (hm : cyc = .crimped ∨ cyc = .probed) : HeadShape { x with cycle := cyc } := by
  have hearly := hx.early (by grind)
  have hidle := hx.idle_of (by grind)
  have hrec : x.record ≠ none := fun hr => by
    have := hx.empty.mp hr
    grind
  exact { hx with
    charging := fun h => by grind
    paired := fun c h => by have := hx.paired c h; grind
    empty := ⟨fun h => absurd h hrec, fun h => by grind⟩
    probing := ⟨fun _ h => by grind, fun _ => hidle⟩
    asks := fun h => by grind
    result := fun h => nomatch hearly.1.symm.trans (hx.result h).2
    early := fun _ => hearly }

/-- A cycle state that does not ask for gas. -/
theorem HeadRanges.moved {x : Head} (hx : HeadRanges x) {cyc : Cycle} (hc : cyc ≠ .waiting ∧ cyc ≠ .charging) :
    HeadRanges { x with cycle := cyc } := by
  refine { hx with toCome := fun r e h => ?_ }
  rcases h with h | h | h
  · exact absurd h hc.1
  · exact absurd h hc.2
  · exact hx.toCome r e (.inr (.inr h))

/-- Items of a head that no law speaks of. -/
theorem Acts.plainHead (ha : Acts b s0 s) (h : Fin 16) (f : Head → Head)
    (hf : ∀ x, f x = { x with headDown := (f x).headDown, collet := (f x).collet, ventValve := (f x).ventValve,
                              dwellTimer := (f x).dwellTimer, firstDwell := (f x).firstDwell }) : Acts b s0 (s.modHead h f) := by
  refine ha.quietHead h f (fun x => ?_) fun _ hx => ?_
  · rw [hf x]
    exact ⟨rfl, rfl, rfl, rfl, rfl, rfl, rfl, rfl, rfl⟩
  · rw [hf]
    exact ⟨hx.noFlow, hx.zeros, hx.offset⟩

theorem Acts.seat (ha : Acts b s0 s) (h : Fin 16) : Acts b s0 (seatStation h s) := by
  unfold seatStation
  split
  · exact ha.plainHead h _ fun _ => rfl
  · exact ha

theorem Acts.crimp (ha : Acts b s0 s) (h : Fin 16) : Acts b s0 (crimpStation h s) := by
  unfold crimpStation
  split
  · exact ha.plainHead h _ fun _ => rfl
  · exact ha

theorem addReason_cycle (h : Fin 16) (k : Reason) (s : State) (hc : s.heads[h].cycle ≠ .waiting) :
    (addReason h k s).heads[h].cycle = s.heads[h].cycle := by
  rw [addReason_settled h k s hc, State.modHead_self]

theorem Acts.crimpRead (ha : Acts b s0 s) (h : Fin 16) : Acts b s0 (crimpReadStation h s) := by
  unfold crimpReadStation
  split
  · rename_i hs
    have hreasons (l : List Reason) (t : State) (ht : Acts b s0 t) (hc : t.heads[h].cycle = .seated) :
        Acts b s0 (l.foldl (fun s k => Machine.addReason h k s) t) ∧
          (l.foldl (fun s k => Machine.addReason h k s) t).heads[h].cycle = .seated := by
      induction l generalizing t with
      | nil => exact ⟨ht, hc⟩
      | cons k l ih =>
        exact ih _ (ht.addReason h k) (by rw [addReason_cycle h k t (by rw [hc]; decide)]; exact hc)
    let depth := clampReading 9999 s.sensors.heads[h].depth
    let diameter := clampReading 9999 s.sensors.heads[h].diameter
    let rcp := headRecipe s h
    let read (r : CanRecord) : CanRecord :=
      { r with depth := some depth, diameter := if depth < noCupDepth rcp then some diameter else r.diameter }
    obtain ⟨hread, hcyc⟩ := hreasons (crimpReasons rcp depth diameter) (Machine.modRecord h read s)
      (ha.modRecord h read fun r _ => ⟨rfl, fun t ht => ⟨t, ht⟩, rfl, fun hr => ⟨hr.sequence, hr.reasons, hr.shots⟩⟩)
      (by rw [Machine.modRecord, State.modHead_self]; exact hs.2)
    refine hread.modHead h _ rfl rfl (.inl rfl) (fun _ => ?_) (fun hx => ?_) fun _ _ hx => ?_
    · rw [hcyc]
      exact ⟨fun h => (nomatch h), fun h => (nomatch h)⟩
    · exact { hx.shape.movedEarly (cyc := .crimped) (.inl hcyc) (.inl rfl) with }
    · exact { hx.moved (cyc := .crimped) ⟨by decide, by decide⟩ with }
  · exact ha

/-- The probe starts on a CRIMPED can. -/
theorem HeadShape.probed {x : Head} (hx : HeadShape x) (hc : x.cycle = .crimped) {step : ProbeStep} {valve : Bool}
    (hs : step ≠ .idle) (hv : valve = true → step = .build) (p : Option Nat) (t : ProbeTimer) :
    HeadShape { x with cycle := .probing, probeStep := step, probeValve := valve, pa := p, probeTimer := t } := by
  have hearly := hx.early (by grind)
  exact { hx with
    charging := fun h => nomatch h
    paired := fun c h => nomatch hc.symm.trans (hx.paired c h)
    empty := ⟨fun h => (nomatch hc.symm.trans (hx.empty.mp h)), fun h => (nomatch h)⟩
    probing := ⟨fun h => absurd h hs, fun h => absurd rfl h⟩
    probeValve := hv
    asks := fun h => by rcases h with h | h <;> exact nomatch h
    result := fun h => nomatch hearly.1.symm.trans (hx.result h).2
    early := fun _ => hearly }

theorem Acts.probe (ha : Acts b s0 s) (h : Fin 16) : Acts b s0 (probeStation h s) := by
  unfold probeStation
  split
  · rename_i hs
    have hvalve (hx : HeadFits s h) : s.heads[h].probeValve = false :=
      hx.shape.valve_of_idle (hx.shape.idle_of (by rw [hs.2]; decide))
    have hstart (f : Head → Head) (hf : ∀ x, f x = { x with
        cycle := .probing, probeStep := (f x).probeStep, probeValve := (f x).probeValve, pa := (f x).pa,
        probeTimer := (f x).probeTimer }) (hstep : (f s.heads[h]).probeStep ≠ .idle)
        (hv : HeadFits s h → (f s.heads[h]).probeValve = true → (f s.heads[h]).probeStep = .build) :
        Acts b s0 (s.modHead h f) := by
      refine ha.modHead h f (by rw [hf]; rfl) (by rw [hf]) (.inl (by rw [hf])) (fun _ => ?_) (fun hx => ?_) fun _ _ hx => ?_
      · rw [hf, hs.2]
        exact ⟨fun h => (nomatch h), fun h => (nomatch h)⟩
      · rw [hf]
        exact hx.shape.probed hs.2 hstep (hv hx) _ _
      · rw [hf]
        exact { hx.moved (cyc := .probing) ⟨by decide, by decide⟩ with }
    split
    · have hprobed := ha.enterProbed h id (fun _ => ⟨rfl, rfl, rfl, rfl, rfl, rfl, rfl⟩) (fun _ => by rw [hs.2]; decide)
        fun hx => hx.shape.movedEarly (.inr hs.2) (.inr rfl)
      rwa [State.modHead_id s h id rfl] at hprobed
    · simp only []
      split
      · refine hstart _ (fun _ => rfl) ProbeStep.noConfusion fun hx hv => ?_
        exact nomatch (hvalve hx).symm.trans hv
      · exact hstart _ (fun _ => rfl) ProbeStep.noConfusion fun _ _ => rfl
  · exact ha

theorem Acts.chargeOpen (ha : Acts b s0 s) (h : Fin 16) : Acts b s0 (chargeOpenStation h s) := by
  have hopen : Acts b s0 (s.modHead h fun x => { x with window := .isOpen }) := by
    refine ha.modHead h _ rfl rfl (.inl rfl) (fun _ => Iff.rfl) (fun hx => ?_) fun _ _ hx => { hx with }
    exact { hx.shape with
      asks := fun hc => ⟨(hx.shape.asks hc).1, rfl, (hx.shape.asks hc).2.2⟩
      early := fun hc => ⟨(hx.shape.early hc).1, Window.noConfusion⟩ }
  unfold chargeOpenStation
  simp only []
  split
  · rename_i hs
    exact hopen.decideProbed h (by rw [State.modHead_self]; exact hs.2.2) (by rw [State.modHead_self]; exact Window.noConfusion)
  · exact hopen

/-! ## From DWELL to OUTFEED -/

/-- A can whose window is closed, or that is CHARGED, moves on to DWELLING or LIFTED. -/
theorem HeadShape.movedLate {x : Head} (hx : HeadShape x) {cyc : Cycle} (hr : x.record ≠ none)
    (hw : x.window = .closed ∨ x.cycle = .charged) (hm : cyc = .dwelling ∨ cyc = .lifted) : HeadShape { x with cycle := cyc } := by
  have hnot : x.cycle ≠ .waiting ∧ x.cycle ≠ .charging ∧ x.cycle ≠ .probing := by
    rcases hw with hw | hw
    · refine ⟨fun hc => ?_, fun hc => ?_, fun hc => ?_⟩
      · exact nomatch hw.symm.trans (hx.asks (.inl hc)).2.1
      · exact nomatch hw.symm.trans (hx.asks (.inr hc)).2.1
      · exact (hx.early (.inr (.inr (.inl hc)))).2 hw
    · rw [hw]
      decide
  obtain ⟨hpair, hinl⟩ := hx.unpaired hnot.2.1
  have hidle := hx.idle_of hnot.2.2
  exact headShape_late (by grind) hpair hinl hr hidle (hx.valve_of_idle hidle) fun hres => (hx.result hres).2

theorem Acts.dwell (ha : Acts b s0 s) (h : Fin 16) : Acts b s0 (dwellStation h s) := by
  have hcatch := ha.catchUp h
  unfold dwellStation
  simp only []
  generalize Machine.catchUp h s = u at hcatch ⊢
  split
  · rename_i hs
    have hmove (f : Head → Head) (hf : ∀ x, f x = { x with
        cycle := .dwelling, firstDwell := (f x).firstDwell, dwellTimer := (f x).dwellTimer }) : Acts b s0 (u.modHead h f) := by
      refine hcatch.modHead h f (by rw [hf]; rfl) (by rw [hf]) (.inl (by rw [hf])) (fun _ => ?_) (fun hx => ?_) fun _ _ hx => ?_
      · rw [hf, hs.2]
        exact ⟨fun h => (nomatch h), fun h => (nomatch h)⟩
      · rw [hf]
        exact { hx.shape.movedLate (cyc := .dwelling) (holdsCan_iff.mp hs.1) (.inr hs.2) (.inl rfl) with }
      · rw [hf]
        exact { hx.moved (cyc := .dwelling) ⟨by decide, by decide⟩ with }
    split
    · exact hmove _ fun _ => rfl
    · exact hmove _ fun _ => rfl
  · exact hcatch

/-- The window of a head that holds a can is closed after its catch-up, and the can still there. -/
theorem lateDecision_keeps (h : Fin 16) (s : State) : (lateDecision h s).heads[h].window = s.heads[h].window ∧
    (lateDecision h s).heads[h].record.isSome = s.heads[h].record.isSome := by
  unfold lateDecision
  split
  · obtain ⟨hwin, hrec, -⟩ := chargeDecision_keeps h (addReason h .noCharge s)
    have hkept := kept_addReason h .noCharge s
    exact ⟨hwin.trans (hkept.win h), hrec.trans (hkept.rc h)⟩
  · exact ⟨rfl, rfl⟩

theorem catchUp_keeps {h : Fin 16} {s : State} (hr : s.heads[h].holdsCan = true) :
    (catchUp h s).heads[h].window = .closed ∧ (catchUp h s).heads[h].record.isSome = true := by
  unfold catchUp
  rw [if_pos hr]
  obtain ⟨hwin, hrec⟩ := lateDecision_keeps h (if s.heads[h].window = .closed then s else closeWindow h s)
  rw [hwin, hrec]
  split
  · exact ⟨‹_›, hr⟩
  · obtain ⟨hwin, hrec⟩ := closeWindow_keeps h s
    exact ⟨hwin, hrec.trans hr⟩

theorem Acts.lift (ha : Acts b s0 s) (h : Fin 16) : Acts b s0 (liftStation h s) := by
  have hcatch := ha.catchUp h
  unfold liftStation
  simp only []
  split
  · rename_i hu
    have hwin : (Machine.catchUp h s).heads[h].window = .closed := by
      by_cases hr : s.heads[h].holdsCan = true
      · exact (catchUp_keeps hr).1
      · rw [show Machine.catchUp h s = s from if_neg hr] at hu
        exact absurd hu hr
    generalize Machine.catchUp h s = u at hcatch hu hwin ⊢
    have hlifted (t : State) (ht : Acts b s0 t) (hr : t.heads[h].record ≠ none) (hw : t.heads[h].window = .closed)
        (hc : t.heads[h].cycle = .waiting → HeadFits t h → False) :
        Acts b s0 (t.modHead h fun x => { x with headDown := false, cycle := .lifted }) := by
      refine ht.modHead h _ rfl rfl (.inl rfl) (fun hx => ?_) (fun hx => ?_) fun _ _ hx => ?_
      · exact ⟨fun h => (nomatch h), fun h => (hc h hx).elim⟩
      · exact { hx.shape.movedLate (cyc := .lifted) hr (.inl hw) (.inr rfl) with }
      · exact { hx.moved (cyc := .lifted) ⟨by decide, by decide⟩ with }
    have hclosed (t : State) (hw : t.heads[h].window = .closed) (hc : t.heads[h].cycle = .waiting) (hx : HeadFits t h) : False :=
      nomatch hw.symm.trans (hx.shape.asks (.inl hc)).2.1
    have hr : u.heads[h].record ≠ none := holdsCan_iff.mp hu
    split
    · have hself : (u.modHead h fun x => { x with dwellTimer := .stopped, firstDwell := none }).heads[h] =
          { u.heads[h] with dwellTimer := .stopped, firstDwell := none } := State.modHead_self u h _
      obtain ⟨r, hr⟩ := Option.ne_none_iff_exists'.mp hr
      obtain ⟨hrec, hcyc, -, hwin'⟩ := Head.withReason_some (x := { u.heads[h] with dwellTimer := .stopped, firstDwell := none })
        hr .dwellShort
      refine hlifted _ ((hcatch.plainHead h _ fun _ => rfl).addReason h .dwellShort) ?_ ?_ ?_
      · rw [addReason_head, hself, hrec]
        exact Option.some_ne_none _
      · rw [addReason_head, hself, hwin']
        exact hwin
      · rw [addReason_head, hself]
        exact fun hc => absurd hc hcyc
    · exact hlifted u hcatch hr hwin (hclosed u hwin)
  · exact hcatch

/-- A result still to come is dropped. -/
theorem Acts.dropResult (ha : Acts b s0 s) (h : Fin 16) : Acts b s0 (s.modHead h fun x => { x with pendingResult := none }) := by
  refine ha.modHead h _ rfl rfl (.inl rfl) (fun _ => Iff.rfl) (fun hx => ?_) fun _ _ hx => ?_
  · exact { hx.shape with
      asks := fun hc => ⟨(hx.shape.asks hc).1, (hx.shape.asks hc).2.1, (hx.shape.asks hc).2.2.1, rfl⟩
      result := fun h => absurd rfl h }
  · refine { hx with toCome := fun r e h => ?_ }
    rcases h with h | h | h
    · exact hx.toCome r e (.inl h)
    · exact hx.toCome r e (.inr (.inl h))
    · exact absurd rfl h

theorem Acts.outfeed (ha : Acts b s0 s) (h : Fin 16) : Acts b s0 (outfeedStation h s) := by
  unfold outfeedStation
  split
  · rename_i hr
    have hcatch := ha.catchUp h
    have hwin := (catchUp_keeps hr).1
    generalize Machine.catchUp h s = u at hcatch hwin ⊢
    have hunknown : Acts b s0 (doseUnknown h u) ∧ (doseUnknown h u).heads[h].window = .closed ∧
        (doseUnknown h u).heads[h].pendingResult = none := by
      unfold doseUnknown
      split
      · refine ⟨(hcatch.addReason h _).dropResult h, ?_, by rw [State.modHead_self]⟩
        rw [State.modHead_self, ← hwin]
        exact (kept_addReason h .doseUnknown u).win h
      · exact ⟨hcatch, hwin, Option.not_isSome_iff_eq_none.mp ‹_›⟩
    obtain ⟨hact, hw, hp⟩ := hunknown
    exact hact.then (.handedOn _ h hw hp)
  · exact ha

/-! ## Vent, zero, gate and infeed -/

theorem Acts.vent (ha : Acts b s0 s) (h : Fin 16) : Acts b s0 (ventStation h s) := by
  unfold ventStation
  split
  · exact ha.plainHead h _ fun _ => rfl
  · exact ha

theorem Acts.zero (ha : Acts b s0 s) (h : Fin 16) : Acts b s0 (zeroStation h s) := by
  unfold zeroStation
  split
  · rename_i hs
    simp only []
    split
    · rename_i hdiff
      have hzeroed := ha.quietHead h
        (fun x => { x with ventValve := false, zeroOffset := (rawHeadPressure s.sensors.heads[h].pressure : Int) -
          (atmosphere s.config : Int), zeroCount := 0 })
        (fun _ => ⟨rfl, rfl, rfl, rfl, rfl, rfl, rfl, rfl, rfl⟩) fun hs hx => by
          have hwindow : zeroWindow s.config ≤ 50 := (hs.config.1 38).2
          refine ⟨hx.noFlow, Nat.zero_le 3, ?_, ?_⟩ <;> simp only [] <;> omega
      unfold goodZero
      simp only []
      split
      · exact (hzeroed.service h _ fun _ => rfl).headReport h _
      · exact hzeroed
    · have hcounted := ha.quietHead h (fun x => { x with
          ventValve := false, zeroCount := min faultLimit (s.heads[h].zeroCount + 1) })
        (fun _ => ⟨rfl, rfl, rfl, rfl, rfl, rfl, rfl, rfl, rfl⟩) fun _ hx => ⟨hx.noFlow, Nat.min_le_left _ _, hx.offset⟩
      unfold badZero
      simp only []
      split
      · refine hcounted.enterOutOfService h _ fun _ => ?_
        rw [State.modHead_self]
        exact fun h => nomatch hs.1.symm.trans h
      · exact hcounted
  · exact ha

theorem Acts.gate (ha : Acts b s0 s) (h : Fin 16) : Acts b s0 (gateStation h s) := by
  unfold gateStation
  split
  · rename_i hg
    exact ((ha.then (.gateAdmitted s h hg)).quietGas _ ⟨rfl, Iff.rfl, rfl, rfl, rfl⟩ id).beginWake
  · exact ha.then (.gateRefused s h false (.inl rfl))

theorem Acts.takeCan (ha : Acts b s0 s) (h : Fin 16) : Acts b s0 (takeCan h s) := by
  unfold Machine.takeCan
  split
  case h_1 | h_2 => exact ha
  case h_3 | h_4 => exact ha.addReason h _
  case h_5 => exact ((ha.addReason h _).service h _ fun _ => rfl).headReport h _

theorem Acts.emptyInfeed (ha : Acts b s0 s) (h : Fin 16) : Acts b s0 (emptyInfeed h s) := by
  unfold Machine.emptyInfeed
  split
  · exact (ha.service h _ fun _ => rfl).headReport h _
  · exact ha

theorem Acts.infeed (ha : Acts b s0 s) (h : Fin 16) (hr : s.heads[h].record = none) : Acts b s0 (infeedStation h s) := by
  let u := s.modHead h Head.atInfeed
  have hu : Acts b s0 u := by
    refine ha.modHead h _ rfl rfl (.inr hr) (fun _ => Iff.rfl) (fun hx => ?_) fun _ _ hx => ?_
    · have hcyc : s.heads[h].cycle = .empty := hx.shape.empty.mp hr
      exact { hx.shape with
        asks := fun h => by rcases h with h | h <;> exact nomatch hcyc.symm.trans h
        result := fun h => by rcases (hx.shape.result h).1 with hc | hc | hc <;> exact nomatch hcyc.symm.trans hc
        early := fun h => by rcases h with h | h | h | h <;> exact nomatch hcyc.symm.trans h }
    · exact { hx with undecided := fun r e _ => nomatch hr.symm.trans e }
  have hself : u.heads[h] = s.heads[h].atInfeed := State.modHead_self s h _
  have hused : Acts b s0 (u.admissionUsed h) := hu.then (.gateRefused u h u.infeed.gateOpen (.inr rfl))
  have hstray : Acts b s0 ((u.admissionUsed h).modInfeed fun i => { i with strayCount := min countLimit (i.strayCount + 1) }) :=
    hused.then (.infeed _ { (u.admissionUsed h).infeed with
      strayCount := min countLimit ((u.admissionUsed h).infeed.strayCount + 1) }
      ⟨rfl, rfl, rfl, rfl, .inl rfl, fun hi => { hi with strays := Nat.min_le_left _ _ }⟩)
  show Acts b s0 (meetPocket h u)
  unfold meetPocket
  simp only []
  split
  · split
    · rename_i slot hslot
      split
      · rename_i hroom
        exact (hu.then (.created u h slot (by rw [hself]; exact hr) (by rw [hself]; rfl) (by rw [hself]; rfl) hslot hroom)).takeCan h
      · exact hstray.emptyInfeed h
    · exact hstray.emptyInfeed h
  · exact hused.emptyInfeed h

theorem Acts.stationPhase (ha : Acts b s0 s) (h : Fin 16) (st : Station) : Acts b s0 (stationPhase h st s) := by
  cases st with
  | infeed =>
    by_cases hr : s.heads[h].record = none
    · rw [infeed_empty hr]
      exact ha.infeed h hr
    · exact (ha.outfeed h).infeed h (outfeed_emptied hr).1
  | seat => exact ha.seat h
  | crimp => exact ha.crimp h
  | crimpRead => exact ha.crimpRead h
  | probe => exact ha.probe h
  | chargeOpen => exact ha.chargeOpen h
  | chargeClose => exact ha.chargeClose h
  | dwell => exact ha.dwell h
  | lift => exact ha.lift h
  | outfeed => exact ha.outfeed h
  | vent => exact ha.vent h
  | zero => exact ha.zero h
  | gate => exact ha.gate h

end Sys2Proof.Machine
end

section
/-! PROOF. The tracker and the verdict unit as runs of acts. -/

namespace Sys2Proof.Machine

variable {b : Bool} {s0 s : State}

/-! ## Positions -/

theorem Acts.modVerdicts (ha : Acts b s0 s) (f : VerdictUnit → VerdictUnit) (he : VerdictEdit s.verdicts (f s.verdicts)) :
    Acts b s0 (s.modVerdicts f) := ha.then (.verdicts s (f s.verdicts) he)

/-- Edits of the reject queue and the gate. -/
theorem Acts.rejects (ha : Acts b s0 s) (f : VerdictUnit → VerdictUnit)
    (hf : ∀ u, f u = { u with rejects := (f u).rejects, gateOn := (f u).gateOn, gateTimer := (f u).gateTimer }) :
    Acts b s0 (s.modVerdicts f) := by
  refine ha.modVerdicts f ⟨?_, ?_⟩
  · rw [hf]
  · rw [hf]
    exact id

theorem Acts.verdictPosition (ha : Acts b s0 s) : Acts b s0 (verdictPosition s) := by
  have hends : Acts b s0 (reachConfirmEnds s) := by
    unfold reachConfirmEnds
    simp only []
    split
    · exact Acts.setCondition (ha.rejects _ fun _ => rfl) _
    · exact ha
  unfold Machine.verdictPosition fireRejects
  simp only []
  split
  · exact hends.rejects _ fun _ => rfl
  · exact hends

theorem Acts.takePosition (ha : Acts b s0 s) (raised : Bool) (p : Nat) (x : Taker) : Acts b s0 (takePosition raised p s x) := by
  cases x with
  | verdictUnit => exact ha.verdictPosition
  | head h =>
    show Acts b s0 (if raised then (stationsAt s.config h p).foldl (fun s st => Machine.stationPhase h st s) s else s)
    split
    · exact Acts.foldl (fun _ st ht => ht.stationPhase h st) _ ha
    · exact ha

theorem TrackerEdit.refl (x : Tracker) : TrackerEdit x x := ⟨Iff.rfl, rfl, id, id⟩

theorem TrackerEdit.trans {x y z : Tracker} (h : TrackerEdit x y) (k : TrackerEdit y z) : TrackerEdit x z :=
  ⟨k.locked.trans h.locked, k.source.trans h.source, fun hx => k.position (h.position hx),
    fun hx => k.revolution (h.revolution hx)⟩

/-- Items of the tracker that have no range. -/
theorem trackerEdit_of_eq {x y : Tracker} (h : y = { x with
    firstIndexSeen := y.firstIndexSeen, highWater := y.highWater, interval := y.interval, motion := y.motion
    stopDetect := y.stopDetect, genRunning := y.genRunning, genCount := y.genCount }) : TrackerEdit x y := by
  rw [h]
  exact ⟨Iff.rfl, rfl, id, id⟩

theorem trackerEdit_stepForward (x : Tracker) : TrackerEdit x x.stepForward := by
  unfold Tracker.stepForward
  split
  · exact ⟨Iff.rfl, rfl, fun _ => by simp, fun _ => Nat.mod_lt _ (by decide)⟩
  · rename_i h
    exact ⟨Iff.rfl, rfl, fun hp => by simp [countsPerRev] at h ⊢; omega, id⟩

theorem trackerEdit_stepBack (x : Tracker) : TrackerEdit x x.stepBack := by
  unfold Tracker.stepBack
  split
  · exact ⟨Iff.rfl, rfl, fun _ => by simp [countsPerRev], fun _ => Nat.mod_lt _ (by decide)⟩
  · exact ⟨Iff.rfl, rfl, fun hp => by simp; omega, id⟩

theorem trackerEdit_backSteps (n : Nat) (x : Tracker) : TrackerEdit x (backSteps n x) := by
  induction n generalizing x with
  | zero => exact .refl x
  | succ n ih => exact (trackerEdit_stepBack x).trans (ih x.stepBack)

theorem trackerEdit_turn (d : Direction) (x : Tracker) : TrackerEdit x (x.turn d) :=
  ⟨Iff.rfl, rfl, fun _ => by cases d <;> exact Nat.mod_lt _ (by decide), id⟩

theorem trackerEdit_tally (d : Direction) (x : Tracker) : TrackerEdit x (x.tally d) := ⟨Iff.rfl, rfl, id, id⟩

theorem Acts.advance (ha : Acts b s0 s) (order : List Taker) : Acts b s0 (advance order s) := by
  have hstep := ha.modTracker Tracker.stepForward (trackerEdit_stepForward s.tracker)
  unfold Machine.advance
  simp only []
  split
  · exact Acts.foldl (fun _ x ht => ht.takePosition _ _ x) _ (hstep.modTracker _ (trackerEdit_of_eq rfl))
  · exact Acts.foldl (fun _ x ht => ht.takePosition _ _ x) _ hstep

theorem Acts.advances (ha : Acts b s0 s) (order : List Taker) (n : Nat) : Acts b s0 (advances order n s) := by
  induction n generalizing s with
  | zero => exact ha
  | succ n ih => exact ih (ha.advance order)

theorem Acts.moveBy (ha : Acts b s0 s) (order : List Taker) (d : Int) : Acts b s0 (moveBy order d s) := by
  unfold Machine.moveBy
  split
  · exact ha.advances order _
  · exact ha.modTracker _ (trackerEdit_backSteps _ _)

/-! ## Counts and indexes -/

theorem Acts.enterSeeking (ha : Acts b s0 s) (seen : Bool) (hs : s.tracker.state ≠ .locked) : Acts b s0 (enterSeeking seen s) :=
  Acts.trackerReport (ha.modTracker _ ⟨⟨fun h => (nomatch h), fun h => absurd h hs⟩, rfl, fun _ => by simp, id⟩)

theorem Acts.verdictSlip (ha : Acts b s0 s) : Acts b s0 (verdictSlip s) :=
  Acts.setCondition (ha.rejects (fun u => { u with rejects := [] }) fun _ => rfl) .rejectLost

theorem Acts.enterSlipped (ha : Acts b s0 s) : Acts b s0 (enterSlipped s) := by
  have hnoticed : Acts b s0 (slipNoticed s) := (ha.then (.slipped s)).trackerReport.setCondition .positionSlip
  have hmarked : Acts b s0 (slipMarked s) := Acts.foldl (fun _ h ht => ht.addReason h .positionLost) allHeads hnoticed
  have hended : Acts b s0 (slipEnded s) := Acts.foldl (fun _ c ht => ht.endDischarge c .slip) allCylinders hmarked
  rw [enterSlipped_eq]
  exact hended.verdictSlip

theorem Acts.countByState (ha : Acts b s0 s) (order : List Taker) (d : Direction) : Acts b s0 (countByState order d s) := by
  unfold Machine.countByState
  split
  case h_1 hs => exact ha.enterSeeking false (by rw [hs]; decide)
  case h_2 =>
    have hturned := ha.modTracker (fun t => (t.turn d).tally d) ((trackerEdit_turn d s.tracker).trans (trackerEdit_tally d _))
    unfold seekingCount
    simp only []
    split
    · split
      · exact hturned.modTracker _ ⟨Iff.rfl, rfl, fun _ => by simp, id⟩
      · exact hturned
    · exact ha
  case h_3 =>
    have htallied := ha.modTracker (Tracker.tally d) (trackerEdit_tally d s.tracker)
    unfold lockedCount
    cases d with
    | forward =>
      simp only []
      split
      · exact (htallied.advance order).enterSlipped
      · exact htallied.advance order
    | reverse =>
      have hback := htallied.modTracker Tracker.stepBack (trackerEdit_stepBack _)
      simp only []
      split
      · exact hback.enterSlipped
      · exact hback
  case h_4 => exact ha.modTracker _ ((trackerEdit_turn d s.tracker).trans (trackerEdit_tally d _))

theorem Acts.indexByState (ha : Acts b s0 s) (order : List Taker) : Acts b s0 (indexByState order s) := by
  unfold Machine.indexByState
  split
  case h_1 => exact ha
  case h_2 =>
    unfold seekingIndex
    split
    · split
      · exact ha.then (.locked s)
      · exact ha.modTracker _ ⟨Iff.rfl, rfl, fun _ => by simp, id⟩
    · exact ha.modTracker _ ⟨Iff.rfl, rfl, fun _ => by simp, id⟩
  case h_3 =>
    unfold lockedIndex
    split
    · exact (ha.moveBy order _).modTracker _ (trackerEdit_of_eq rfl)
    · split
      · exact (ha.moveBy order _).modTracker _ (trackerEdit_of_eq rfl)
      · exact ha.enterSlipped
  case h_4 hs =>
    split
    · exact ha.enterSeeking true (by rw [hs]; decide)
    · exact ha

theorem Acts.takeCount (ha : Acts b s0 s) (d : Direction) (index : Bool) (order : List Taker) :
    Acts b s0 (takeCount d index order s) := by
  have hdetect := ha.modTracker (fun t => { t with stopDetect := .running (stopDetectTime s.config) }) (trackerEdit_of_eq rfl)
  have hstart : Acts b s0 (startMotion (s.modTracker fun t => { t with stopDetect := .running (stopDetectTime s.config) })) := by
    unfold startMotion
    split
    · exact Acts.trackerReport (hdetect.modTracker _ (trackerEdit_of_eq rfl))
    · exact hdetect
  have hcount := hstart.countByState order d
  unfold Machine.takeCount
  simp only []
  split
  · exact hcount.indexByState order
  · exact hcount

end Sys2Proof.Machine
end

section
/-! PROOF. The requests as runs of acts. -/

namespace Sys2Proof.Machine

variable {b : Bool} {s0 s : State}

/-! ## Requests -/

theorem wf_of_parsed {r : Request} {width : Nat → Nat} {fs : List Nat} {bs : List Byte} {g : List Nat → Request}
    (hp : (parseValues width fs bs).map g = some r) (hg : ∀ vs, valuesFit width fs vs = true → (g vs).wf = true) :
    r.wf = true := by
  obtain ⟨vs, hvs, rfl⟩ := Option.map_eq_some_iff.mp hp
  exact hg vs (valuesFit_of_parse _ _ _ _ hvs)

theorem wf_of_guarded {P : Prop} [Decidable P] {q r : Request} (hp : (if P then some q else none) = some r)
    (hq : P → q.wf = true) : r.wf = true := by
  obtain ⟨hP, hqr⟩ := Option.ite_none_right_eq_some.mp hp
  exact Option.some.inj hqr ▸ hq hP

/-- What a payload spells has fields that a payload can carry. -/
theorem decodePayload_wf {k : Nat} {p : List Byte} {r : Request} (h : decodePayload k p = some r) : r.wf = true := by
  have hbyte (x : Byte) : x.toNat < 256 := x.isLt
  have htwo (bs : List Byte) (hl : bs.length = 2) : leNat bs < 65536 := by
    have := leNat_lt bs
    rwa [hl] at this
  unfold decodePayload at h
  split at h
  case h_1 =>
    split at h
    · exact Option.some.inj h ▸ by simp [Request.wf, hbyte]
    · exact nomatch h
  case h_2 => exact wf_of_parsed (Option.ite_none_left_eq_some.mp h).2 fun vs hvs => hvs
  case h_3 => exact wf_of_parsed h fun vs hvs => hvs
  case h_4 => exact wf_of_parsed h fun vs hvs => hvs
  case h_5 => exact wf_of_parsed (Option.ite_none_left_eq_some.mp h).2 fun vs hvs => hvs
  case h_6 => exact wf_of_guarded h fun hl => by simpa [Request.wf] using htwo p hl
  case h_8 => exact wf_of_guarded h fun hl => by simpa [Request.wf] using ⟨htwo _ (by simp [hl]), htwo _ (by simp [hl])⟩
  case h_10 =>
    split at h
    · exact Option.some.inj h ▸ by simp [Request.wf, hbyte]
    · exact nomatch h
  case h_11 =>
    split at h
    · exact Option.some.inj h ▸ by simp [Request.wf, hbyte]
    · exact nomatch h
  case h_14 =>
    split at h
    · exact Option.some.inj h ▸ by simp [Request.wf, hbyte]
    · exact nomatch h
  case h_17 =>
    split at h
    · exact Option.some.inj h ▸ by simp [Request.wf, hbyte]
    · exact nomatch h
  case h_20 => exact nomatch h
  all_goals exact wf_of_guarded h fun _ => rfl

theorem decodeRequest_wf {f : Frame} {r : Request} (h : decodeRequest f = .ok r) : r.wf = true := by
  unfold decodeRequest at h
  split at h
  · cases hp : decodePayload f.kind.toNat f.payload with
    | none => simp [hp] at h
    | some q =>
      simp only [hp, Except.ok.injEq] at h
      exact h ▸ decodePayload_wf hp
  · exact nomatch h

theorem Acts.read (ha : Acts b s0 s) (code index : Nat) : Acts b s0 (handleRead code index s) := by
  have haccept (k : Nat) (c : List Byte) : Acts b s0 (acceptRead k index c s) := ha.accept _ _
  unfold handleRead
  split
  case h_2 =>
    unfold handleReadHead
    split
    · exact haccept _ _
    · exact ha.refuse _ _ _
  case h_3 =>
    unfold handleReadCylinder
    split
    · exact haccept _ _
    · exact ha.refuse _ _ _
  case h_4 =>
    unfold handleReadQueues
    split
    case h_4 => exact ha.refuse _ _ _
    all_goals exact ha.accept _ _
  case h_5 =>
    unfold handleReadRecipe
    split
    · exact haccept _ _
    · exact ha.refuse _ _ _
  case h_9 => exact ha.refuse _ _ _
  all_goals exact haccept _ _

/-! ## Figures and recipes -/

theorem Acts.loseRight (ha : Acts b s0 s) (p : Shot → Bool) : Acts b s0 (loseRight p s) := by
  refine Acts.foldl (fun t c ht => ht.quietCyl c
    (fun x => { x with shot := x.shot.map fun y => if p y then { y with mayAdapt := false } else y })
    (fun _ => ⟨rfl, rfl, rfl, rfl, rfl, rfl⟩) (fun _ => ⟨rfl, ?_⟩) id) allCylinders ha
  exact Option.isSome_map ..

theorem loseRight_modWithhold (p : Shot → Bool) (f : Withhold → Withhold) (s : State) :
    loseRight p (s.modWithhold f) = (loseRight p s).modWithhold f := by
  unfold loseRight
  rw [foldl_modCyl, foldl_modCyl]
  rfl

theorem Acts.activate (ha : Acts b s0 s) (i : Fin 2) (hi : pendingSlot s = some i) : Acts b s0 (activate i s) := by
  have hslots := ha.then (.activated s i hi)
  unfold Machine.activate
  simp only []
  rw [← loseRight_modWithhold]
  exact (hslots.loseRight _).refillBank

theorem Acts.configure (ha : Acts b s0 s) (mask : BitVec 48) (vs : List Nat) : Acts b s0 (handleConfigure mask vs s) := by
  unfold handleConfigure
  split
  · exact ha.refuse _ _ _
  · rename_i hc
    exact (ha.then (.configured s mask vs hc)).accept _ _

theorem Acts.loadGasTable (ha : Acts b s0 s) (ps : List Nat) (hl : ps.length = 17) : Acts b s0 (handleLoadGasTable ps s) := by
  unfold handleLoadGasTable
  split
  · exact ha.refuse _ _ _
  · split
    · exact ha.refuse _ _ _
    · rename_i hc
      exact ((ha.then (.gasTable s ps hl hc)).loseRight _).accept _ _

theorem Acts.loadRecipe (ha : Acts b s0 s) (vs : List Nat) : Acts b s0 (handleLoadRecipe vs s) := by
  unfold handleLoadRecipe
  split
  · exact ha.refuse _ _ _
  · rename_i hr
    split
    · exact ha.refuse _ _ _
    · rename_i i hi
      exact (ha.then (.loaded s i _ hi hr)).accept _ _

theorem state_of_pendingSlot {i : Fin 2} (h : pendingSlot s = some i) : s.slots[i].state = .pending := by
  simpa using List.find?_some h

/-- AMEND RECIPE writes the PENDING record as a LOAD RECIPE of the whole record would. -/
theorem modSlot_recipe_eq {i : Fin 2} (h : s.slots[i].state = .pending) (r : Option Recipe) :
    s.modSlot i (fun x => { x with recipe := r }) = s.modSlot i fun x => { x with state := .pending, recipe := r } := by
  unfold State.modSlot
  rw [← h]

theorem Acts.amendRecipe (ha : Acts b s0 s) (mask : BitVec 32) (vs : List Nat) : Acts b s0 (handleAmendRecipe mask vs s) := by
  unfold handleAmendRecipe
  split
  · exact ha.refuse _ _ _
  · split
    · exact ha.refuse _ _ _
    · rename_i i hi
      simp only []
      split
      · exact ha.accept _ _
      · split
        · exact ha.refuse _ _ _
        · rename_i hr
          rw [modSlot_recipe_eq (state_of_pendingSlot hi)]
          exact (ha.then (.loaded s i _ (by simp only [loadSlot, hi]) hr)).accept _ _

theorem Acts.activateRecipe (ha : Acts b s0 s) (id : Nat) : Acts b s0 (handleActivateRecipe id s) := by
  unfold handleActivateRecipe
  split
  · exact ha.refuse _ _ _
  · rename_i i hi
    split
    · exact ha.refuse _ _ _
    · exact (ha.activate i hi).accept _ _

theorem Acts.discardRecipe (ha : Acts b s0 s) : Acts b s0 (handleDiscardRecipe s) := by
  unfold handleDiscardRecipe
  split
  · exact ha.refuse _ _ _
  · rename_i i hi
    exact (ha.then (.discarded s i hi)).accept _ _

/-! ## Fill reports, heads and cylinders -/

theorem reportEntries_ranges {tag mass k : Nat} (ht : tag < 65536) (hm : mass ≤ 9999) (e : FillEntry)
    (he : e ∈ reportEntries tag mass k) : e.tag < 65536 ∧ ∀ m : Nat, e.mass = some m → m ≤ 9999 := by
  rcases List.mem_append.mp he with he | he
  · obtain ⟨i, -, rfl⟩ := List.mem_map.mp he
    exact ⟨Nat.mod_lt _ (by decide), fun m hm => nomatch hm⟩
  · rw [List.mem_singleton.mp he]
    exact ⟨ht, fun m e => Option.some.inj e ▸ hm⟩

theorem Acts.fill (ha : Acts b s0 s) (tag mass : Nat) (ht : tag < 65536) : Acts b s0 (handleFill tag mass s) := by
  unfold handleFill
  simp only []
  split
  · exact ha.refuse _ _ _
  · rename_i hm
    split
    · exact (ha.refuse _ _ _).setCondition _
    · split
      · rename_i hfit
        refine ha.acceptAround _ _ fun t hta hinf => ?_
        refine (hta.then (.filled t _ _ ?_ (reportEntries_ranges ht (Nat.not_lt.mp hm)))).then (.infeed _ _ ?_)
        · rw [hinf, reportEntries_length]
          exact hfit
        · refine ⟨rfl, rfl, rfl, rfl, .inl rfl, fun hi => { hi with expected := fun n hn => ?_ }⟩
          exact Option.some.inj hn ▸ Nat.mod_lt _ (by decide)
      · exact (ha.refuse _ _ _).setCondition _

theorem Acts.resyncFill (ha : Acts b s0 s) : Acts b s0 (handleResyncFill s) := by
  refine Acts.accept (ha.then (.infeed s { s.infeed with fillQueue := [], debt := 0, expectedTag := none }
    ⟨rfl, rfl, rfl, rfl, .inr rfl, fun hi => ?_⟩)) _ _
  exact ⟨hi.sequence, Nat.zero_le _, fun e he => (nomatch he), Nat.zero_le _, fun t ht => (nomatch ht), hi.strays⟩

theorem Acts.enableHead (ha : Acts b s0 s) (h : Fin 16) : Acts b s0 (enableHead h s) := by
  unfold Machine.enableHead
  split
  · exact ha
  · exact ha
  · exact (ha.service h _ fun _ => rfl).headReport h _
  all_goals
    exact (ha.quietHead h (fun x => { x with service := .zeroing, noFlowCount := 0, zeroCount := 0 })
      (fun _ => ⟨rfl, rfl, rfl, rfl, rfl, rfl, rfl, rfl, rfl⟩)
      fun _ hx => ⟨Nat.zero_le 3, Nat.zero_le 3, hx.offset⟩).headReport h _

theorem Acts.disableFrom (ha : Acts b s0 s) (h : Fin 16) (k : ReturnState) : Acts b s0 (disableFrom h k s) := by
  unfold Machine.disableFrom
  split
  · exact Acts.headReport (ha.service h _ fun _ => rfl) h _
  · exact Acts.headReport (ha.service h _ fun _ => rfl) h _

theorem Acts.disableHead (ha : Acts b s0 s) (h : Fin 16) : Acts b s0 (disableHead h s) := by
  unfold Machine.disableHead
  split
  · exact ha.disableFrom h _
  · exact ha.disableFrom h _
  all_goals exact ha

theorem Acts.headRequest (ha : Acts b s0 s) (h a : Nat) : Acts b s0 (handleHead h a s) := by
  unfold handleHead
  split
  · split
    · exact ha.acceptAround _ _ fun t ht _ => ht.enableHead _
    · exact ha.acceptAround _ _ fun t ht _ => ht.disableHead _
    · exact ha.acceptAround _ _ fun t ht _ => ht.resetHead _
    · exact ha.refuse _ _ _
  · exact ha.refuse _ _ _

theorem Acts.cylinderRequest (ha : Acts b s0 s) (c a : Nat) : Acts b s0 (handleCylinder c a s) := by
  unfold handleCylinder
  split
  · split
    · exact ha.acceptAround _ _ fun t ht _ => ht.enableCylinder _
    · exact ha.acceptAround _ _ fun t ht _ => ht.disableCylinder _
    · exact ha.refuse _ _ _
  · exact ha.refuse _ _ _

/-! ## The other requests -/

theorem Acts.infeedHold (ha : Acts b s0 s) (hb : b = true) : Acts b s0 (handleInfeedHold s) :=
  Acts.accept (ha.then (.hold s true hb)) _ _

theorem Acts.infeedRelease (ha : Acts b s0 s) (hb : b = true) : Acts b s0 (handleInfeedRelease s) :=
  Acts.accept (ha.then (.hold s false hb)) _ _

theorem Acts.takeVerdicts (ha : Acts b s0 s) (n : Nat) : Acts b s0 (handleTakeVerdicts n s) := by
  unfold handleTakeVerdicts
  split
  · exact Acts.accept (ha.modVerdicts (fun u => { u with log := u.log.drop n }) ⟨List.drop_sublist _ _, id⟩) _ _
  · exact ha.refuse _ _ _

theorem Acts.clearConditions (ha : Acts b s0 s) (mask : BitVec 16) : Acts b s0 (handleClearConditions mask s) := by
  unfold handleClearConditions
  split
  · exact ha.refuse _ _ _
  · exact Acts.accept (ha.then (.cleared s mask)) _ _

theorem Acts.selectSource (ha : Acts b s0 s) (code : Nat) : Acts b s0 (handleSelectSource code s) := by
  unfold handleSelectSource
  split
  · exact ha.refuse _ _ _
  · split
    · exact ha.refuse _ _ _
    · exact ha.acceptAround _ _ fun t ht _ => ht.then (.source t _)

theorem Acts.relock (ha : Acts b s0 s) : Acts b s0 (handleRelock s) := by
  unfold handleRelock
  split
  · rename_i hs
    have hk : Acts b s0 (Machine.accept 0x12 [] s) := ha.accept _ _
    exact Acts.modLink (hk.enterSeeking false (by rw [show (Machine.accept 0x12 [] s).tracker = s.tracker from rfl, hs]; decide))
      fun l => { l with tx := l.tx.set s.link.tx.length ⟨false, acceptFrame 0x12 []⟩ }
  · exact ha.refuse _ _ _

theorem Acts.restart (ha : Acts b s0 s) : Acts b s0 (handleRestart s) := Acts.modLink (ha.accept _ _) _

/-- A request is handled by acts; HOLD_REQUEST moves at its two requests alone. -/
theorem Acts.handle (ha : Acts b s0 s) (r : Request) (hwf : r.wf = true)
    (hb : r = .infeedHold ∨ r = .infeedRelease → b = true) : Acts b s0 (handle r s) := by
  cases r with
  | read code index => exact ha.read code index
  | configure mask values => exact ha.configure mask values
  | loadGasTable points => exact ha.loadGasTable points (by simpa using valuesFit_length recipeWidth (List.range 17) points hwf)
  | loadRecipe fields => exact ha.loadRecipe fields
  | amendRecipe mask values => exact ha.amendRecipe mask values
  | activateRecipe id => exact ha.activateRecipe id
  | discardRecipe => exact ha.discardRecipe
  | fill tag mass => exact ha.fill tag mass (by simp [Request.wf] at hwf; exact hwf.1)
  | resyncFill => exact ha.resyncFill
  | head h a => exact ha.headRequest h a
  | cylinder c a => exact ha.cylinderRequest c a
  | infeedHold => exact ha.infeedHold (hb (.inl rfl))
  | infeedRelease => exact ha.infeedRelease (hb (.inr rfl))
  | takeVerdicts n => exact ha.takeVerdicts n
  | clearConditions mask => exact ha.clearConditions mask
  | setReports mask => exact Acts.accept (ha.then (.mask s mask)) _ _
  | selectSource c => exact ha.selectSource c
  | relock => exact ha.relock
  | restart => exact ha.restart

end Sys2Proof.Machine
end

section
/-! PROOF. Every command but the two resets is a run of acts (spec/11 R173 to R176, R180, and the timers and readings). -/

namespace Sys2Proof.Machine

variable {b : Bool} {s0 s : State}

/-! ## The link -/

theorem Acts.takeRequest (ha : Acts b s0 s) (f : Frame)
    (hb : ∀ r, decodeRequest f = .ok r → r = .infeedHold ∨ r = .infeedRelease → b = true) : Acts b s0 (takeRequest f s) := by
  unfold Machine.takeRequest
  split
  · rename_i r hr
    exact ha.handle r (decodeRequest_wf hr) (hb r hr)
  · exact ha.refuse _ _ _

theorem Acts.takeRequests (ha : Acts true s0 s) (n : Nat) : Acts true s0 (takeRequests n s) := by
  induction n generalizing s with
  | zero => exact ha
  | succ n ih =>
    unfold Machine.takeRequests
    split
    · split
      · exact ih ((ha.modLink _).takeRequest _ fun _ _ _ => rfl)
      · exact ha
    · exact ha

theorem Acts.bufferFrame (ha : Acts b s0 s) (f : Frame) : Acts b s0 (bufferFrame f s) := by
  unfold Machine.bufferFrame
  split
  · exact ha.modLink _
  · exact ha.setCondition _

theorem Acts.arrive (ha : Acts true s0 s) (f : Frame) : Acts true s0 (Machine.arrive f s) := (ha.bufferFrame f).takeRequests _

/-- Into an empty buffer one frame arrives, and at most that one is taken. -/
theorem Acts.arriveFirst (ha : Acts b s0 s) (f : Frame) (hrx : s.link.rx = [])
    (hb : ∀ r, decodeRequest f = .ok r → r = .infeedHold ∨ r = .infeedRelease → b = true) : Acts b s0 (Machine.arrive f s) := by
  have hbuf : Machine.bufferFrame f s = s.modLink fun l => { l with rx := [f] } := by
    unfold Machine.bufferFrame
    rw [if_pos (by rw [hrx]; decide)]
    simp only [State.modLink, hrx, List.nil_append]
  unfold Machine.arrive testBuffer
  rw [hbuf]
  show Acts b s0 (Machine.takeRequests 1 _)
  unfold Machine.takeRequests
  simp only [State.modLink_link]
  split
  · exact ((ha.modLink _).modLink _).takeRequest f hb
  · exact ha.modLink _

theorem Acts.sensors (ha : Acts b s0 s) (v : Sensors) : Acts b s0 (s.setSensors v) := ha.then (.sensors s v)

theorem Acts.showPressure (ha : Acts b s0 s) (h : Fin 16) (raw : Int) : Acts b s0 (s.showPressure h raw) :=
  ha.then (.sensors s _)

theorem Acts.discardFrame (ha : Acts b s0 s) : Acts b s0 (discardFrame s) := Acts.setCondition (ha.modLink _) _

theorem Acts.takeByte (ha : Acts true s0 s) (x : Byte) : Acts true s0 (takeByte x s) := by
  unfold Machine.takeByte
  split
  · split
    · exact ha.modLink _
    · exact ha
  · split
    · exact ha.modLink _
    · exact ha.discardFrame
  · exact ha.modLink _
  · exact ha.modLink _
  · exact ha.modLink _
  · unfold completeFrame
    simp only []
    split
    · exact (ha.modLink _).arrive _
    · exact ha.discardFrame

theorem Acts.takeFault (ha : Acts b s0 s) : Acts b s0 (takeFault s) := by
  unfold Machine.takeFault
  split
  · exact ha
  · exact ha.discardFrame

/-! ## Probe and dwell timers -/

theorem Acts.modHead_misfit (ha : Acts b s0 s) (h : Fin 16) (f : Head → Head)
    (hf : ∀ x, f x = { x with probeValve := (f x).probeValve, pa := (f x).pa, probeStep := (f x).probeStep,
                              probeTimer := (f x).probeTimer })
    (hshape : HeadFits s h → HeadShape (f s.heads[h])) : Acts b s0 (s.modHead h f) := by
  refine ha.modHead h f (by rw [hf]; rfl) (by rw [hf]) (.inl (by rw [hf])) (fun _ => by rw [hf]) hshape fun _ _ hr => ?_
  rw [hf]
  exact { hr with }

/-- A probe that reaches its pressure: from BUILD to HOLD. -/
theorem HeadShape.held {x : Head} (hx : HeadShape x) (hs : x.probeStep = .build) (p : Option Nat) (t : ProbeTimer) :
    HeadShape { x with probeValve := false, pa := p, probeStep := .hold, probeTimer := t } :=
  { hx with
    probing := ⟨fun h => (nomatch h), fun hc => absurd (hs.symm.trans (hx.probing.mpr hc)) ProbeStep.noConfusion⟩
    probeValve := fun h => nomatch h }

/-- The items of a probe that is over. -/
def Head.probeEnded (x : Head) : Head := { x with probeValve := false, probeTimer := .stopped, probeStep := .idle, pa := none }

theorem HeadShape.probeEnded {x : Head} (hx : HeadShape x) (hc : x.cycle = .probing) :
    HeadShape { x.probeEnded with cycle := .probed } := by
  have hearly := hx.early (.inr (.inr (.inl hc)))
  have hp := (hx.unpaired (by rw [hc]; decide)).1
  exact { hx with
    charging := fun h => nomatch h
    paired := fun c h => nomatch hp.symm.trans h
    empty := ⟨fun h => (nomatch hc.symm.trans (hx.empty.mp h)), fun h => (nomatch h)⟩
    probing := ⟨fun _ h => (nomatch h), fun _ => rfl⟩
    probeValve := fun h => nomatch h
    asks := fun h => by rcases h with h | h <;> exact nomatch h
    result := fun h => nomatch hearly.1.symm.trans (hx.result h).2
    early := fun _ => hearly }

theorem HeadFits.probing {h : Fin 16} (hx : HeadFits s h) (hs : s.heads[h].probeStep ≠ .idle) : s.heads[h].cycle = .probing :=
  Decidable.byContradiction fun hc => hs (hx.shape.probing.mpr hc)

/-- A probe that was running is over, and the head PROBED. -/
theorem Acts.probeOver (ha : Acts b s0 s) (h : Fin 16) (hs : s.heads[h].probeStep ≠ .idle) :
    Acts b s0 (Machine.enterProbed h (endProbe h s)) :=
  ha.enterProbed h Head.probeEnded (fun _ => ⟨rfl, rfl, rfl, rfl, rfl, rfl, rfl⟩)
    (fun hx => by rw [hx.probing hs]; decide) fun hx => hx.shape.probeEnded (hx.probing hs)

theorem withReason_probeStep (x : Head) (k : Reason) : (x.withReason k).probeStep = x.probeStep := by
  unfold Head.withReason
  split
  · rfl
  · split
    · rfl
    · rfl

/-- A reason and the end of a probe touch different items. -/
theorem addReason_endProbe (h : Fin 16) (k : Reason) (s : State) : addReason h k (endProbe h s) = endProbe h (addReason h k s) := by
  have hself : (endProbe h s).heads[h] = s.heads[h].probeEnded := State.modHead_self s h _
  by_cases hw : s.heads[h].cycle = .waiting
  · cases hr : s.heads[h].record with
    | none =>
      have hid (t : State) (ht : t.heads[h].record = none) : addReason h k t = t := by simp only [addReason, ht]
      rw [hid s hr, hid _ (by rw [hself]; exact hr)]
    | some r =>
      rw [addReason_waiting h k s r hr hw, addReason_waiting h k _ r (by rw [hself]; exact hr) (by rw [hself]; exact hw)]
      unfold endProbe
      rw [withdraw_modHead, State.modHead_modHead, State.modHead_modHead]
  · rw [addReason_settled h k s hw, addReason_settled h k _ (by rw [hself]; exact hw)]
    unfold endProbe
    rw [State.modHead_modHead, State.modHead_modHead]

theorem Acts.buildTimeout (ha : Acts b s0 s) (h : Fin 16) (hs : s.heads[h].probeStep = .build) :
    Acts b s0 (Machine.enterProbed h (Machine.addReason h .crimpLeak (endProbe h s))) := by
  rw [addReason_endProbe]
  refine (ha.addReason h _).probeOver h ?_
  rw [addReason_head, withReason_probeStep, hs]
  decide

theorem Acts.probeResult (ha : Acts b s0 s) (h : Fin 16) (pa pb : Nat) : Acts b s0 (probeResult h pa pb s) := by
  have hwritten := ha.modRecord h (fun r => { r with probeDecay := some ((pa : Int) - (pb : Int)) })
    fun r _ => ⟨rfl, fun t ht => ⟨t, ht⟩, rfl, fun hr => { hr with }⟩
  unfold Machine.probeResult
  simp only []
  split
  · exact hwritten.addReason h _
  · exact hwritten

theorem probeResult_probeStep (h : Fin 16) (pa pb : Nat) (s : State) :
    (probeResult h pa pb s).heads[h].probeStep = s.heads[h].probeStep := by
  have hwritten (f : CanRecord → CanRecord) : (modRecord h f s).heads[h].probeStep = s.heads[h].probeStep := by
    unfold modRecord
    rw [State.modHead_self]
  unfold probeResult
  simp only []
  split
  · rw [addReason_head, withReason_probeStep]
    exact hwritten _
  · exact hwritten _

theorem Acts.dwellResult (ha : Acts b s0 s) (h : Fin 16) (first second : Nat) : Acts b s0 (dwellResult h first second s) := by
  have hwritten := ha.modRecord h (fun r => { r with dwellDecay := some ((first : Int) - (second : Int)) })
    fun r _ => ⟨rfl, fun t ht => ⟨t, ht⟩, rfl, fun hr => { hr with }⟩
  unfold Machine.dwellResult
  simp only []
  split
  · exact hwritten.addReason h _
  · exact hwritten

/-! ## The events, command by command -/

theorem Acts.probeBuildEnd (ha : Acts b s0 s) (h : Fin 16) (raw : BuildReadings) {t : State}
    (e : exec (.probeBuildEnd h raw) s = .next t) : Acts b s0 t := by
  injection e with e; subst e
  split
  · rename_i hs
    exact ((ha.showPressure h _).showPressure h _).modHead_misfit h _ (fun _ => rfl) fun hx => hx.shape.held hs.1 _ _
  · exact ha.showPressure h _

theorem Acts.probeHold (ha : Acts b s0 s) (h : Fin 16) (raw : Int) {t : State}
    (e : exec (.probeHoldExpiry h raw) s = .next t) : Acts b s0 t := by
  injection e with e; subst e
  split
  · rename_i hs
    refine ((ha.showPressure h raw).probeResult h _ _).probeOver h ?_
    rw [probeResult_probeStep, hs]
    decide
  · exact ha.showPressure h _

theorem Acts.dwellExpiry (ha : Acts b s0 s) (h : Fin 16) (raw : Int) {t : State}
    (e : exec (.dwellTimerExpiry h raw) s = .next t) : Acts b s0 t := by
  injection e with e; subst e
  split
  · refine Acts.plainHead ?_ h _ fun _ => rfl
    split
    · exact (ha.showPressure h raw).dwellResult h _ _
    · exact ha.showPressure h raw
  · exact ha.showPressure h _

theorem Acts.flowDetect (ha : Acts b s0 s) (h : Fin 16) {t : State}
    (e : exec (.flowDetectTimerExpiry h) s = .next t) : Acts b s0 t := by
  injection e with e; subst e
  split
  · rename_i c hp
    split
    · rename_i hs
      exact ha.noFlowEnd h c hp hs.2.2.2
    · exact ha
  · exact ha

theorem Acts.cylinderReading (ha : Acts b s0 s) (c : Fin 4) (raw : Int) {t : State}
    (e : exec (.cylinderPressureReading c raw) s = .next t) : Acts b s0 t := by
  have hshown := ha.quietCyl c (fun x => { x with pressure := clampReading 4000 raw, overRange := decide (4000 < raw) })
    (fun _ => ⟨rfl, rfl, rfl, rfl, rfl, rfl⟩) (fun _ => ⟨rfl, rfl⟩) fun hx => ⟨Nat.min_le_left _ _, hx.2⟩
  simp only [exec, execCylinderPressureReading, Host.Outcome.next.injEq] at e
  subst e
  split
  · rename_i hs
    split
    · split
      · exact hshown.refillEnd c hs
      · exact hshown
    · exact hshown
  · exact hshown.topUp c
  · split
    · exact hshown.dischargeReading c _ _
    · exact hshown
  all_goals exact hshown

theorem Acts.stopDetect (ha : Acts b s0 s) {t : State} (e : exec .stopDetectExpiry s = .next t) : Acts b s0 t := by
  injection e with e; subst e
  split
  · have hstopped := ha.modTracker (fun x => { x with stopDetect := .stopped }) (trackerEdit_of_eq rfl)
    simp only []
    split
    · exact Acts.trackerReport (hstopped.modTracker (fun x => { x with motion := .stopped }) (trackerEdit_of_eq rfl))
    · exact hstopped
  · exact ha

theorem Acts.simulatedCount (ha : Acts b s0 s) (v : Sensors) (order : List Taker) {t : State}
    (e : exec (.simulatedCount v order) s = .next t) : Acts b s0 t := by
  injection e with e; subst e
  split
  · exact ((ha.sensors v).modTracker (fun x => { x with genCount := x.genCount + 1 }) (trackerEdit_of_eq rfl)).takeCount _ _ _
  · exact ha.sensors v

theorem Acts.tempHold (ha : Acts b s0 s) {t : State} (e : exec .tempHoldExpiry s = .next t) : Acts b s0 t := by
  injection e with e; subst e
  split
  · rename_i hrun
    refine Acts.setCondition (ha.supply (fun g => { g with holdTimer := .expired }) (fun w => { w with temp := true })
      ⟨id, id, fun _ _ => ⟨fun _ => rfl, fun _ => rfl⟩, fun hgood => ?_, rfl, id, id⟩) _
    refine ⟨fun hg => ?_, fun h => nomatch h⟩
    rw [hgood.mp hg] at hrun
    exact nomatch hrun
  · exact ha

theorem Acts.enterStandby (ha : Acts b s0 s) (hs : s.gas.standby = .active) : Acts b s0 (enterStandby s) := by
  refine ha.quietGas (fun g => { g with standby := .standby, economy := true }) ⟨rfl, ?_, rfl, rfl, rfl⟩ id
  rw [hs]
  exact ⟨fun h => (nomatch h), fun h => (nomatch h)⟩

theorem Acts.idleTimer (ha : Acts b s0 s) {t : State} (e : exec .idleTimerExpiry s = .next t) : Acts b s0 t := by
  injection e with e; subst e
  split
  · have hexpired := ha.quietGas (fun g => { g with idleTimer := .expired }) ⟨rfl, Iff.rfl, rfl, rfl, rfl⟩ id
    simp only []
    split
    · rename_i hs
      exact hexpired.enterStandby hs.1
    · exact hexpired
  · exact ha

theorem Acts.laneOff (ha : Acts b s0 s) {t : State} (e : exec .laneSensorOff s = .next t) : Acts b s0 t := by
  injection e with e; subst e
  have hoff := ha.quietGas (fun g => { g with laneSensor := false }) ⟨rfl, Iff.rfl, rfl, rfl, rfl⟩ id
  split
  · rename_i hs
    exact hoff.enterStandby hs.1
  · exact hoff

theorem Acts.confirm (ha : Acts b s0 s) {t : State} (e : exec .confirmSensorOn s = .next t) : Acts b s0 t := by
  injection e with e; subst e
  split
  · exact ha.rejects (fun u => { u with rejects := withoutFired u.rejects }) fun _ => rfl
  · exact ha.modVerdicts (fun u => { u with unmatched := min countLimit (u.unmatched + 1) })
      ⟨List.Sublist.refl _, fun _ => Nat.min_le_left _ _⟩

/-- Every command that is neither a request nor of the line or a reset is a run of acts, with HOLD_REQUEST left to the host. -/
theorem acts_event {c : Instr} {s t : State} (hr : c.request = none) (hl : ofLink c = false) (e : exec c s = .next t) :
    Acts b s t := by
  have ha : Acts b s s := .refl s
  cases c with
  | cylinderPressureReading c raw => exact ha.cylinderReading c raw e
  | encoderCount input dir index v order =>
    injection e with e; subst e
    split
    · exact (ha.sensors v).takeCount _ _ _
    · exact ha.sensors v
  | simulatedCount v order => exact ha.simulatedCount v order e
  | stopDetectExpiry => exact ha.stopDetect e
  | probeBuildEnd h raw => exact ha.probeBuildEnd h raw e
  | buildTimeoutExpiry h =>
    injection e with e; subst e
    split
    · exact ha.buildTimeout h ‹_›
    · exact ha
  | probeHoldExpiry h raw => exact ha.probeHold h raw e
  | dwellTimerExpiry h raw => exact ha.dwellExpiry h raw e
  | flowDetectTimerExpiry h => exact ha.flowDetect h e
  | refillTimerExpiry c =>
    injection e with e; subst e
    split
    · rename_i hs
      exact ha.refillTimeoutAct c hs.1
    · exact ha
  | retryTimerExpiry c =>
    injection e with e; subst e
    split
    · rename_i hs
      exact ha.enterIdle c (by rw [hs.1]; rfl)
    · exact ha
  | settleTimerExpiry c =>
    injection e with e; subst e
    split
    · rename_i hs
      exact ha.completeMeasurement c hs.1
    · exact ha
  | bufferReading raw => injection e with e; subst e; exact ha.bufferAct raw
  | temperatureReading reading => injection e with e; subst e; exact ha.temperatureAct reading
  | tempHoldExpiry => exact ha.tempHold e
  | idleTimerExpiry => exact ha.idleTimer e
  | laneSensorOff => exact ha.laneOff e
  | laneSensorOn =>
    injection e with e; subst e
    exact Acts.beginWake (ha.quietGas (fun g => { g with laneSensor := true }) ⟨rfl, Iff.rfl, rfl, rfl, rfl⟩ id)
  | wakeTimerExpiry =>
    injection e with e; subst e
    split
    · exact Acts.completeWake (ha.quietGas (fun g => { g with wakeTimer := .expired }) ⟨rfl, Iff.rfl, rfl, rfl, rfl⟩ id)
    · exact ha
  | confirmSensorOn => exact ha.confirm e
  | gatePulseExpiry =>
    injection e with e; subst e
    split
    · exact ha.rejects (fun u => { u with gateOn := false, gateTimer := .stopped }) fun _ => rfl
    · exact ha
  | powerOnReset | byteReceived | gapTimerExpiry | frameSent | restartPerform | unknownRequest => simp [ofLink] at hl
  | readStatus | readHead | readCylinder | readQueues | readRecipe | readConfig | readGasTable | readAllowances | configure
  | loadGasTable | loadRecipe | amendRecipe | activateRecipe | discardRecipe | fill | resyncFill | headEnable | headDisable
  | headReset | cylinderEnable | cylinderDisable | infeedHold | infeedRelease | takeVerdicts | clearConditions | setReports
  | selectSource | relock | restart | readBadItem | headBadAction | cylinderBadAction => simp [Instr.request] at hr

/-- Every command that sets nothing to its reset state is a run of acts. -/
theorem acts_exec {c : Instr} {s t : State} (e : exec c s = .next t) :
    Acts true s t ∨ (∃ x y : Bool, c = .powerOnReset x y) ∨ (c = .restartPerform ∧ t = performRestart s) := by
  have ha : Acts true s s := .refl s
  cases hr : c.request with
  | some r =>
    rw [exec_arrive c r s hr] at e
    injection e with e; subst e
    refine .inl (Acts.arrive ?_ _)
    cases c with
    | readHead h v => exact ha.sensors v
    | _ => exact ha
  | none =>
    cases hl : ofLink c with
    | false => exact .inl (acts_event hr hl e)
    | true =>
      cases c with
      | powerOnReset x y => exact .inr (.inl ⟨x, y, rfl⟩)
      | byteReceived x v =>
        injection e with e; subst e
        cases x with
        | data x => exact .inl ((ha.sensors v).takeByte x)
        | fault => exact .inl (ha.sensors v).takeFault
      | gapTimerExpiry =>
        injection e with e; subst e
        split
        · exact .inl ha.discardFrame
        · exact .inl ha
      | frameSent v =>
        injection e with e; subst e
        split
        · exact .inl (((ha.sensors v).modLink _).takeRequests _)
        · exact .inl (ha.sensors v)
      | restartPerform =>
        injection e with e; subst e
        split
        · exact .inr (.inr ⟨rfl, rfl⟩)
        · exact .inl ha
      | unknownRequest k p => injection e with e; subst e; exact .inl (ha.arrive _)
      | _ => simp [ofLink] at hl

/-- With nothing waiting, a command other than HOLD, RELEASE, a received byte and a reset leaves HOLD_REQUEST out of its acts. -/
theorem acts_unheld {c : Instr} {s t : State} (e : exec c s = .next t) (hrx : s.link.rx = []) (hwf : c.wf = true)
    (hh : c ≠ .infeedHold) (hl : c ≠ .infeedRelease) (hbyte : ∀ (x : LineByte) (v : Sensors), c ≠ .byteReceived x v)
    (hreset : ∀ x y : Bool, c ≠ .powerOnReset x y) (hrestart : c ≠ .restartPerform) : Acts false s t := by
  have ha : Acts false s s := .refl s
  cases hr : c.request with
  | some r =>
    rw [exec_arrive c r s hr] at e
    injection e with e; subst e
    have hrwf : r.wf = true := by
      unfold Instr.wf at hwf
      rw [hr] at hwf
      exact (Bool.and_eq_true _ _ ▸ hwf).1
    have hshown : Acts false s (shownAt c s) := by
      cases c with
      | readHead h v => exact ha.sensors v
      | _ => exact ha
    refine hshown.arriveFirst _ (by rw [shownAt_link]; exact hrx) fun q hq hheld => ?_
    rw [decodeRequest_encodeRequest r hrwf] at hq
    injection hq with hq
    subst hq
    rcases hheld with rfl | rfl
    · cases c <;> simp_all [Instr.request]
    · cases c <;> simp_all [Instr.request]
  | none =>
    cases hof : ofLink c with
    | false => exact acts_event hr hof e
    | true =>
      cases c with
      | powerOnReset x y => exact absurd rfl (hreset x y)
      | byteReceived x v => exact absurd rfl (hbyte x v)
      | restartPerform => exact absurd rfl hrestart
      | gapTimerExpiry =>
        injection e with e; subst e
        split
        · exact ha.discardFrame
        · exact ha
      | frameSent v =>
        injection e with e; subst e
        split
        · unfold testBuffer
          simp only [State.modLink_link]
          rw [show (s.setSensors v).link.rx = [] from hrx]
          exact (ha.sensors v).modLink _
        · exact ha.sensors v
      | unknownRequest k p =>
        injection e with e; subst e
        refine ha.arriveFirst _ hrx fun q hq _ => ?_
        have hk : isRequestKind k = false := by simp [Instr.wf, Instr.request] at hwf; exact hwf.1
        simp [decodeRequest, hk] at hq
      | _ => simp [ofLink] at hof

end Sys2Proof.Machine
end

section
/-! PROOF. A law kept by every act, by the two resets and by the taking of a command is kept by every step; and the laws of the
stop request (spec/10 R170) and of the cylinders (spec/05 R88). -/

namespace Sys2Proof.Machine

/-! ## From acts to steps -/

theorem Acts.keeps {b : Bool} {P : State → Prop} (hact : ∀ s t : State, Act b s t → P s → P t) {s t : State}
    (ha : Acts b s t) (h : P s) : P t := by
  induction ha with
  | refl => exact h
  | tail _ hlast ih => exact hact _ _ hlast ih

theorem step_keeps {P : State → Prop} (hact : ∀ s t : State, Act true s t → P s → P t)
    (hpower : ∀ (x y : Bool) (s t : State), exec (.powerOnReset x y) s = .next t → P t)
    (hrestart : ∀ s : State, P s → P (performRestart s))
    (hpending : ∀ (s : State) (cs : List Instr), P s → P { s with pending := cs }) {s t : State} (h : P s)
    (e : step s = .next t) : P t := by
  rcases step_cases e with rfl | ⟨c, rest, -, hc⟩
  · exact h
  · have hs := hpending s rest h
    rcases acts_exec hc with ha | ⟨x, y, hx⟩ | ⟨-, ht⟩
    · exact ha.keeps hact hs
    · rw [hx] at hc
      exact hpower x y _ _ hc
    · rw [ht]
      exact hrestart _ hs

/-! ## What the conditions move -/

/-- The stop request follows as it did, and so does the reason STOP. -/
structure StopKept (s t : State) : Prop where
  safe : StopSafe s → StopSafe t
  line : s.infeed.withhold.stop = s.conds.stopLine → t.infeed.withhold.stop = t.conds.stopLine

theorem StopKept.trans {s t u : State} (h : StopKept s t) (k : StopKept t u) : StopKept s u :=
  ⟨fun hs => k.safe (h.safe hs), fun hs => k.line (h.line hs)⟩

theorem StopKept.of_eq {s t : State} (hset : t.conds.isSet = s.conds.isSet) (hline : t.conds.stopLine = s.conds.stopLine)
    (hstop : t.infeed.withhold.stop = s.infeed.withhold.stop) : StopKept s t := by
  constructor
  · unfold StopSafe
    rw [hset, hline, hstop]
    exact id
  · rw [hline, hstop]
    exact id

/-- What follows on a state that differs elsewhere. -/
theorem StopKept.after {s t u : State} (k : StopKept t u) (hset : t.conds.isSet = s.conds.isSet)
    (hline : t.conds.stopLine = s.conds.stopLine) (hstop : t.infeed.withhold.stop = s.infeed.withhold.stop) : StopKept s u :=
  (StopKept.of_eq hset hline hstop).trans k

theorem StopKept.refl (s : State) : StopKept s s := .of_eq rfl rfl rfl

theorem updateStop_safe (s : State) : StopSafe (updateStop s) := by
  refine ⟨?_, rfl⟩
  show s.conds.anyStop = true ↔ _
  rw [anyStop_eq]
  simp [updateStop, or_assoc]

theorem stopKept_report (k : ReportKind) (p : List Byte) (s : State) : StopKept s (report k p s) :=
  .of_eq (by simp) (by simp) (by simp)

/-- Setting a condition leaves the infeed block but for the reason STOP, and the stop request following. -/
theorem stopKept_setCondition (k : Condition) (s : State) : StopKept s (setCondition k s) := by
  by_cases hk : k.isStop = true
  · unfold setCondition
    split
    · exact .refl s
    · simp only []
      have hsafe (u : State) : StopSafe (conditionReport k (updateStop u)) :=
        (StopKept.of_eq (by simp) (by simp) (by simp)).safe (updateStop_safe u)
      exact ⟨fun _ => hsafe _, fun _ => (hsafe _).2⟩
  · have hother (i : Fin 12) (hi : i.val < 4) : (setCondition k s).conds.isSet[i] = s.conds.isSet[i] := by
      rw [setCondition_isSet, beq_eq_false_iff_ne.mpr, Bool.or_false]
      rintro rfl
      cases k <;> simp_all [Condition.num, Condition.isStop]
    have hrest : (setCondition k s).conds.stopLine = s.conds.stopLine ∧
        (setCondition k s).infeed.withhold.stop = s.infeed.withhold.stop := by
      unfold setCondition
      split
      · exact ⟨rfl, rfl⟩
      · simp
    constructor
    · unfold StopSafe
      rw [hrest.1, hrest.2, show (setCondition k s).conds.isSet[0] = s.conds.isSet[0] from hother 0 (by decide),
        show (setCondition k s).conds.isSet[1] = s.conds.isSet[1] from hother 1 (by decide),
        show (setCondition k s).conds.isSet[2] = s.conds.isSet[2] from hother 2 (by decide),
        show (setCondition k s).conds.isSet[3] = s.conds.isSet[3] from hother 3 (by decide)]
      exact id
    · rw [hrest.1, hrest.2]
      exact id

/-- The withhold set, the admissions and the gate stand, but for the reason STOP, which follows the stop request. -/
structure GateKept (s t : State) : Prop extends StopKept s t where
  withhold : t.infeed.withhold = { s.infeed.withhold with stop := t.infeed.withhold.stop }
  admitted : t.infeed.admitted = s.infeed.admitted
  gateOpen : t.infeed.gateOpen = s.infeed.gateOpen

theorem GateKept.of_eq {s t : State} (hset : t.conds.isSet = s.conds.isSet) (hline : t.conds.stopLine = s.conds.stopLine)
    (hw : t.infeed.withhold = s.infeed.withhold) (ha : t.infeed.admitted = s.infeed.admitted)
    (hg : t.infeed.gateOpen = s.infeed.gateOpen) : GateKept s t :=
  { StopKept.of_eq hset hline (by rw [hw]) with withhold := by rw [hw], admitted := ha, gateOpen := hg }

theorem GateKept.trans {s t u : State} (h : GateKept s t) (k : GateKept t u) : GateKept s u :=
  { h.toStopKept.trans k.toStopKept with
    withhold := by rw [k.withhold, h.withhold]
    admitted := k.admitted.trans h.admitted
    gateOpen := k.gateOpen.trans h.gateOpen }

theorem GateKept.after {s t u : State} (k : GateKept t u) (hset : t.conds.isSet = s.conds.isSet)
    (hline : t.conds.stopLine = s.conds.stopLine) (hw : t.infeed.withhold = s.infeed.withhold)
    (ha : t.infeed.admitted = s.infeed.admitted) (hg : t.infeed.gateOpen = s.infeed.gateOpen) : GateKept s u :=
  (GateKept.of_eq hset hline hw ha hg).trans k

theorem GateKept.refl (s : State) : GateKept s s := .of_eq rfl rfl rfl rfl rfl

theorem gateKept_setCondition (k : Condition) (s : State) : GateKept s (setCondition k s) := by
  obtain ⟨v, hv⟩ := setCondition_infeed k s
  exact { stopKept_setCondition k s with withhold := by rw [hv], admitted := by rw [hv], gateOpen := by rw [hv] }

theorem gateKept_raiseDebt (n : Nat) (s : State) : GateKept s (raiseDebt n s) := by
  unfold raiseDebt
  split
  · exact .of_eq rfl rfl rfl rfl rfl
  · exact (gateKept_setCondition _ _).after rfl rfl rfl rfl rfl

theorem gateKept_releaseSettled (n : Nat) (s : State) : GateKept s (releaseSettled n s) :=
  (gateKept_raiseDebt _ _).after rfl rfl rfl rfl rfl

theorem gateKept_departAwaiting (h : Fin 16) (q : Nat) (s : State) : GateKept s (departAwaiting h q s) := by
  unfold departAwaiting
  split
  · exact (gateKept_releaseSettled _ _).after rfl rfl rfl rfl rfl
  · exact .refl s

theorem gateKept_unbound (h : Fin 16) (q : Nat) (s : State) : GateKept s (s.unbound h q) := by
  rw [← settleUnbound_eq]
  unfold settleUnbound
  exact (gateKept_releaseSettled _ _).after rfl rfl rfl rfl rfl

theorem gateKept_applyEntry (x : State × FillTally) (e : FillEntry) : GateKept x.1 (applyEntry x e).1 := by
  unfold applyEntry
  simp only []
  split
  · simp only []
    split
    · exact (gateKept_setCondition _ _).after rfl rfl rfl rfl rfl
    · exact .of_eq rfl rfl rfl rfl rfl
  · split
    · exact (gateKept_releaseSettled _ _).after rfl rfl rfl rfl rfl
    · exact .of_eq rfl rfl rfl rfl rfl

theorem gateKept_entries (es : List FillEntry) (x : State × FillTally) : GateKept x.1 (es.foldl applyEntry x).1 := by
  induction es generalizing x with
  | nil => exact .refl _
  | cons e es ih => exact (gateKept_applyEntry x e).trans (ih _)

theorem applyEntry_frame (x : State × FillTally) (e : FillEntry) :
    (applyEntry x e).1.tracker = x.1.tracker ∧ (applyEntry x e).1.cylinders = x.1.cylinders ∧
    (applyEntry x e).1.grantQueue = x.1.grantQueue ∧ (applyEntry x e).1.gas = x.1.gas ∧
    (applyEntry x e).1.gasTable = x.1.gasTable ∧ (applyEntry x e).1.allowances = x.1.allowances ∧
    (applyEntry x e).1.verdicts = x.1.verdicts ∧ (applyEntry x e).1.slots = x.1.slots ∧
    (applyEntry x e).1.config = x.1.config := by
  unfold applyEntry
  simp only []
  split
  · simp only []
    split <;> simp
  · split <;> simp

theorem entries_frame (es : List FillEntry) (x : State × FillTally) :
    (es.foldl applyEntry x).1.tracker = x.1.tracker ∧ (es.foldl applyEntry x).1.cylinders = x.1.cylinders ∧
    (es.foldl applyEntry x).1.grantQueue = x.1.grantQueue ∧ (es.foldl applyEntry x).1.gas = x.1.gas ∧
    (es.foldl applyEntry x).1.gasTable = x.1.gasTable ∧ (es.foldl applyEntry x).1.allowances = x.1.allowances ∧
    (es.foldl applyEntry x).1.verdicts = x.1.verdicts ∧ (es.foldl applyEntry x).1.slots = x.1.slots ∧
    (es.foldl applyEntry x).1.config = x.1.config := by
  induction es generalizing x with
  | nil => exact ⟨rfl, rfl, rfl, rfl, rfl, rfl, rfl, rfl, rfl⟩
  | cons e es ih =>
    obtain ⟨htr, hcyl, hq, hgas, htab, hal, hver, hsl, hcfg⟩ := ih (applyEntry x e)
    obtain ⟨htr', hcyl', hq', hgas', htab', hal', hver', hsl', hcfg'⟩ := applyEntry_frame x e
    exact ⟨htr.trans htr', hcyl.trans hcyl', hq.trans hq', hgas.trans hgas', htab.trans htab', hal.trans hal', hver.trans hver',
      hsl.trans hsl', hcfg.trans hcfg'⟩

theorem gateKept_createRecord (h : Fin 16) (i : Fin 2) (s : State) : GateKept s (createRecord h i s) := by
  unfold createRecord
  simp only []
  split <;> exact .of_eq rfl rfl rfl rfl rfl

theorem gateKept_handOn (h : Fin 16) (s : State) : GateKept s (handOn h s) := by
  unfold handOn
  split
  · exact .refl s
  · rename_i r hr
    refine (gateKept_departAwaiting h r.seq s).trans (.of_eq ?_ ?_ ?_ ?_ ?_)
    all_goals
      simp only [dropReference_frame]
      split <;> simp

theorem gateKept_endDischarge (c : Fin 4) (k : EndCause) (s : State) : GateKept s (endDischarge c k s) := by
  refine .of_eq ?_ ?_ ?_ ?_ ?_ <;> simp

theorem stopKept_allOutTest (s : State) : StopKept s (allOutTest s) := by
  unfold allOutTest
  split
  · exact (stopKept_setCondition _ _).after rfl rfl rfl
  · exact .of_eq rfl rfl rfl

theorem stopKept_readyOrDisabled (c : Fin 4) (s : State) : StopKept s (readyOrDisabled c s) := by
  unfold readyOrDisabled
  split
  · unfold completeDisable
    refine StopKept.trans ?_ (stopKept_allOutTest _)
    exact (stopKept_report .cylinder _ _).after rfl rfl rfl
  · exact .of_eq rfl rfl rfl

theorem stopKept_flowFreed (h : Fin 16) (c : Fin 4) (s : State) : StopKept s (s.flowFreed h c) := by
  unfold State.flowFreed
  exact (stopKept_readyOrDisabled c _).after rfl rfl rfl

/-! ## The stop request -/

theorem setPosition_stop (s : State) : StopKept s (setPosition s) := by
  obtain ⟨-, -, -, -, -, -, -, -, -, -, hconds, -⟩ := setPosition_frame s
  refine .of_eq (by rw [hconds]) (by rw [hconds]) ?_
  unfold setPosition
  split
  · rfl
  · rfl

theorem Act.stopKept {b : Bool} {s t : State} (ha : Act b s t) : StopKept s t := by
  cases ha with
  | link | sensors | mask | hold | tracker | cylinder | head | granted | gateRefused | gateAdmitted | verdicts | loaded
  | discarded | configured | gasTable | allowance => exact .of_eq rfl rfl rfl
  | condition k => exact stopKept_setCondition k s
  | cleared m => exact ⟨fun _ => updateStop_safe _, fun _ => (updateStop_safe _).2⟩
  | locked =>
    unfold enterLocked
    exact .of_eq (by simp) (by simp) (by simp)
  | slipped => exact (setPosition_stop _).after rfl rfl rfl
  | source x =>
    rw [selectSource_eq]
    exact (stopKept_report .tracker _ _).after rfl rfl rfl
  | supply g w he => exact .of_eq rfl rfl (by rw [he.others])
  | tested c y he => exact (stopKept_allOutTest _).after rfl rfl rfl
  | decided h r y q => exact (gateKept_unbound h r.seq s).toStopKept.trans (.of_eq rfl rfl rfl)
  | discharged c k => exact (gateKept_endDischarge c k s).toStopKept
  | ended c k h y q => exact (gateKept_endDischarge c k s).toStopKept.trans (.of_eq rfl rfl rfl)
  | noFlow c h y q => exact (stopKept_flowFreed h c s).trans (.of_eq rfl rfl rfl)
  | infeed j he => exact .of_eq rfl rfl (by rw [he.withhold])
  | created h i => exact (gateKept_createRecord h i _).toStopKept.after rfl rfl rfl
  | handedOn h => exact (gateKept_handOn h s).toStopKept
  | filled es z => exact (gateKept_entries es (s, z)).toStopKept
  | activated i =>
    unfold slotsActivated
    rw [retireSlot_eq]
    exact .of_eq rfl rfl rfl

theorem stopSafe_reset (x y : Bool) (s t : State) (e : exec (.powerOnReset x y) s = .next t) : StopSafe t := by
  injection e with e; subst e
  exact lawsHoldAtReset.2.1

/-- Settles O13, act by act. -/
theorem stopLineFollowsConditions : Obligations.StopLineFollowsConditions := by
  refine fun s t h e => step_keeps (P := StopSafe) (fun _ _ ha hs => ha.stopKept.safe hs) stopSafe_reset (fun s _ => ?_)
    (fun _ _ hs => hs) h e
  rw [performRestart_eq]
  constructor
  · show Conditions.atReset.stopLine = true ↔ _
    simp [restartStore, restartBlocks, Conditions.atReset]
  · rfl

/-! ## The cylinders -/

theorem CylinderSafe.discharged (cfg : MachineConfig) (k : EndCause) (x : Cylinder) : CylinderSafe (Cylinder.discharged cfg k x) := by
  constructor <;> simp [Cylinder.discharged, Cylinder.enter, Timer.isRunning]

/-- A cylinder written in shape leaves all four in shape. -/
theorem cylinders_modCyl {s : State} {c : Fin 4} {f : Cylinder → Cylinder} (hs : ∀ j : Fin 4, CylinderSafe s.cylinders[j])
    (hf : CylinderSafe (f s.cylinders[c])) (j : Fin 4) : CylinderSafe (s.modCyl c f).cylinders[j] := by
  by_cases hj : j = c
  · subst hj
    rw [State.modCyl_self]
    exact hf
  · rw [State.modCyl_other s f (Ne.symm hj)]
    exact hs j

theorem cylinders_endDischarge {s : State} (c : Fin 4) (k : EndCause) (hs : ∀ j : Fin 4, CylinderSafe s.cylinders[j]) (j : Fin 4) :
    CylinderSafe (endDischarge c k s).cylinders[j] := by
  rw [endDischarge_cylinders]
  split
  · exact .discharged _ _ _
  · exact hs j

theorem completeDisable_cylinders (c : Fin 4) (s : State) : (completeDisable c s).cylinders =
    (s.modCyl c fun x => { x.enter .disabled with disablePending := false }).cylinders := by
  unfold completeDisable
  generalize s.modCyl c _ = u
  exact (allOutTest_frame _).2.2.1.trans (cylinderReport_frame u c .disableComplete).2.2.2.1

theorem cylinders_readyOrDisabled {s : State} (c : Fin 4) (hs : ∀ j : Fin 4, CylinderSafe s.cylinders[j]) (j : Fin 4) :
    CylinderSafe (readyOrDisabled c s).cylinders[j] := by
  unfold readyOrDisabled
  split
  · refine (congrArg (fun v : Vector Cylinder 4 => CylinderSafe v[j]) (completeDisable_cylinders c s)).mpr ?_
    exact cylinders_modCyl hs (f := fun x => { x.enter .disabled with disablePending := false })
      { cylinderSafe_enter s.cylinders[c] (.inr (.inr (.inl rfl))) with } j
  · exact cylinders_modCyl hs (cylinderSafe_enter _ (.inr (.inl rfl))) j

theorem cylinders_flowFreed {s : State} (h : Fin 16) (c : Fin 4) (hs : ∀ j : Fin 4, CylinderSafe s.cylinders[j]) (j : Fin 4) :
    CylinderSafe (s.flowFreed h c).cylinders[j] := by
  unfold State.flowFreed
  refine cylinders_readyOrDisabled c (fun j => ?_) j
  exact cylinders_modCyl (s := s.modHead h (Head.noFlow c)) (f := fun x => { x with owner := none, shot := none }) hs
    { hs c with } j

theorem Act.cylinderSafe {b : Bool} {s t : State} (ha : Act b s t) (hs : ∀ c : Fin 4, CylinderSafe s.cylinders[c]) :
    ∀ c : Fin 4, CylinderSafe t.cylinders[c] := by
  cases ha with
  | link | sensors | mask | hold | tracker | head | gateRefused | gateAdmitted | verdicts | loaded | infeed | supply
  | discarded | configured | gasTable | allowance => exact hs
  | condition k => rw [(setCondition_frame s k).2.2.1]; exact hs
  | cleared m => exact hs
  | locked =>
    unfold enterLocked
    simpa using hs
  | slipped => rw [(setPosition_frame _).2.2.1]; exact hs
  | source x =>
    rw [selectSource_eq, (trackerReport_frame _).2.2.2.1]
    exact hs
  | cylinder c y he => exact cylinders_modCyl hs (he.safe (hs c))
  | tested c y he => rw [(allOutTest_frame _).2.2.1]; exact cylinders_modCyl hs (he.safe (hs c))
  | decided h r y q =>
    rw [show ((s.unbound h r.seq).withHead h y q).cylinders = (s.unbound h r.seq).cylinders from rfl, ← settleUnbound_eq,
      (settleUnbound_frame s h r.seq).2.2.1]
    exact hs
  | discharged c k => exact cylinders_endDischarge c k hs
  | ended c k h y q => exact cylinders_endDischarge c k hs
  | noFlow c h y q => exact cylinders_flowFreed h c hs
  | granted c h z =>
    refine cylinders_modCyl (f := fun x => { x.enter .discharging with owner := some h, shot := some z }) hs ?_
    constructor <;> simp [Cylinder.enter, Timer.isRunning]
  | created h i => rw [(createRecord_frame _ h i).2.1]; exact hs
  | handedOn h => rw [(handOn_frame s h).2.1]; exact hs
  | filled es z =>
    rw [(entries_frame es (s, z)).2.1]
    exact hs
  | activated i =>
    unfold slotsActivated
    rw [retireSlot_eq]
    exact hs

/-- Settles O16, act by act; a cylinder in shape has at most one valve open. -/
theorem cylinderValvesFollowState : Obligations.CylinderValvesFollowState := by
  intro s t h e c
  have hreset (x : Cylinder) : CylinderSafe x.restarted := by
    constructor <;> simp [Cylinder.restarted, Cylinder.atReset, Timer.isRunning]
  have ht := step_keeps (P := fun s => ∀ c : Fin 4, CylinderSafe s.cylinders[c]) (fun _ _ ha hs => ha.cylinderSafe hs)
    (fun x y s t e c => ?_) (fun s _ c => ?_) (fun _ _ hs => hs) h e c
  · refine ⟨ht, fun hv => ?_⟩
    exact nomatch (ht.refillValve.mp hv.1).symm.trans (ht.dischargeValve.mp hv.2)
  · injection e with e; subst e
    show CylinderSafe (restartCylinders s).cylinders[c]
    rw [restartCylinders_eq]
    simpa using hreset _
  · rw [performRestart_eq]
    simp only [Fin.getElem_fin, Vector.getElem_map]
    unfold Cylinder.refilledIdle
    split
    · exact cylinderSafe_refilling _ _
    · exact hreset _

end Sys2Proof.Machine
end

section
/-! PROOF. The withhold set follows its owners (spec/03 R48, R49, R51). -/

namespace Sys2Proof.Machine

/-! ## The owners of the reasons -/

/-- What the owners of the stored reasons show of themselves. -/
structure OwnersKept (s t : State) : Prop where
  slots    : ∀ i : Fin 2, t.slots[i].state = .active ↔ s.slots[i].state = .active
  gas      : t.gas.throttleOn = s.gas.throttleOn ∧ t.gas.standby = s.gas.standby ∧ t.gas.holdTimer = s.gas.holdTimer ∧
    t.gas.tempGood = s.gas.tempGood
  locked   : t.tracker.state = .locked ↔ s.tracker.state = .locked
  source   : t.tracker.source = s.tracker.source
  isOut    : ∀ c : Fin 4, t.cylinders[c].isOut = s.cylinders[c].isOut

theorem OwnersKept.of_eq {s t : State} (hs : t.slots = s.slots) (hg : t.gas = s.gas) (ht : t.tracker = s.tracker)
    (hc : t.cylinders = s.cylinders) : OwnersKept s t := by
  refine ⟨fun i => ?_, ⟨?_, ?_, ?_, ?_⟩, ?_, ?_, fun c => ?_⟩
  · rw [hs]
  · rw [hg]
  · rw [hg]
  · rw [hg]
  · rw [hg]
  · rw [ht]
  · rw [ht]
  · rw [hc]

theorem OwnersKept.trans {s t u : State} (h : OwnersKept s t) (k : OwnersKept t u) : OwnersKept s u where
  slots i := (k.slots i).trans (h.slots i)
  gas := ⟨k.gas.1.trans h.gas.1, k.gas.2.1.trans h.gas.2.1, k.gas.2.2.1.trans h.gas.2.2.1, k.gas.2.2.2.trans h.gas.2.2.2⟩
  locked := k.locked.trans h.locked
  source := k.source.trans h.source
  isOut c := (k.isOut c).trans (h.isOut c)

/-- The stored reasons and the admissions as the two laws have them. -/
def WithheldSafe (s : State) : Prop := WithholdSafe s ∧ AdmissionSafe s

theorem allOut_congr {s t : State} (h : ∀ c : Fin 4, t.cylinders[c].isOut = s.cylinders[c].isOut) : allOut t = allOut s := by
  unfold allOut
  exact congrArg (allCylinders.all ·) (funext h)

theorem WithheldSafe.kept {s t : State} (h : WithheldSafe s) (hg : GateKept s t) (ho : OwnersKept s t) : WithheldSafe t := by
  obtain ⟨hw, ha⟩ := h
  obtain ⟨hthr, hstand, hhold, hgood⟩ := ho.gas
  refine ⟨{ noRecipe := ?_, gas := ?_, wake := ?_, temp := ?_, tempGood := ?_, position := ?_, simulated := ?_,
            stop := hg.line hw.stop, noCylinder := ?_ }, ?_⟩
  · rw [hg.withhold, Ne, Ne, show t.slots[0].state = .active ↔ _ from ho.slots 0,
      show t.slots[1].state = .active ↔ _ from ho.slots 1]
    exact hw.noRecipe
  · rw [hg.withhold, hthr]
    exact hw.gas
  · rw [hg.withhold, hstand]
    exact hw.wake
  · rw [hg.withhold, hhold]
    exact hw.temp
  · rw [hgood, hhold]
    exact hw.tempGood
  · rw [hg.withhold, Ne, ho.locked]
    exact hw.position
  · rw [hg.withhold, ho.source]
    exact hw.simulated
  · rw [hg.withhold, ← allOut_iff, allOut_congr ho.isOut, allOut_iff]
    exact hw.noCylinder
  · unfold AdmissionSafe
    rw [hg.withhold, hg.gateOpen, hg.admitted]
    exact ha

/-! ## The slots at a new can and at a hand-on -/

theorem createRecord_slots (h : Fin 16) (i : Fin 2) (s : State) :
    (createRecord h i s).slots = s.slots.set i { s.slots[i] with refs := s.slots[i].refs + 1 } := by
  unfold createRecord
  simp only []
  split <;> rfl

/-- The head of a can handed on: EMPTY, and DISABLED where it was DISABLING (spec/02 R25, R40). -/
def Head.vacated (x : Head) : Head :=
  if x.service = .disabling then
    { x with record := none, cycle := .empty, headDown := false, service := .disabled, returnState := none, ventValve := false }
  else { x with record := none, cycle := .empty, headDown := false }

/-- A can handed on, before its slot loses the reference. -/
def State.handed (h : Fin 16) (r : CanRecord) (s : State) : State :=
  let s1 := takeRecord r ((departAwaiting h r.seq s).modHead h fun x => { x with record := none, cycle := .empty, headDown := false })
  if s.heads[h].service = .disabling then
    headReport h .disableComplete
      (s1.modHead h fun x => { x with service := .disabled, returnState := none, ventValve := false })
  else s1

theorem handOn_handed {h : Fin 16} {s : State} {r : CanRecord} (hr : s.heads[h].record = some r) :
    handOn h s = dropReference r.slot (s.handed h r) := by
  simp only [handOn, hr, State.handed]

theorem handed_frame (h : Fin 16) (r : CanRecord) (s : State) :
    (s.handed h r).slots = s.slots ∧ (s.handed h r).allowances = s.allowances ∧
    (s.handed h r).infeed = (departAwaiting h r.seq s).infeed ∧ (s.handed h r).heads = s.heads.set h s.heads[h].vacated ∧
    (s.handed h r).verdicts = (takeRecord r s).verdicts := by
  have hcfg : (departAwaiting h r.seq s).heads = s.heads ∧ (departAwaiting h r.seq s).tracker = s.tracker ∧
      (departAwaiting h r.seq s).config = s.config ∧ (departAwaiting h r.seq s).verdicts = s.verdicts := by simp
  obtain ⟨hh, ht, hc, hv⟩ := hcfg
  unfold State.handed Head.vacated
  simp only []
  split
  · refine ⟨by simp, by simp, by simp, ?_, ?_⟩
    · rw [(headReport_frame _ _ _).2.1, State.modHead_heads, (takeRecord_frame _ _).2.1, State.modHead_heads, hh]
      simp
    · rw [(headReport_frame _ _ _).2.2.2.2.2.2.2.2.1, State.modHead_verdicts]
      simp only [takeRecord, State.modVerdicts, State.modHead_verdicts, State.modHead_tracker, State.modHead_config, ht, hc, hv]
  · refine ⟨by simp, by simp, by simp, ?_, ?_⟩
    · rw [(takeRecord_frame _ _).2.1, State.modHead_heads, hh]
    · simp only [takeRecord, State.modVerdicts, State.modHead_verdicts, State.modHead_tracker, State.modHead_config, ht, hc, hv]

/-- A slot is ACTIVE after it has lost a reference exactly where it was. -/
theorem dropReference_active (i j : Fin 2) (s : State) :
    (dropReference i s).slots[j].state = .active ↔ s.slots[j].state = .active := by
  rw [dropReference_eq]
  split
  · rename_i hret
    simp only [getFin_set]
    split
    · rename_i hj
      subst hj
      rw [hret.1]
      exact ⟨fun h => (nomatch h), fun h => (nomatch h)⟩
    · exact Iff.rfl
  · simp only [getFin_set]
    split
    · rename_i hj
      subst hj
      exact Iff.rfl
    · exact Iff.rfl

/-! ## The acts -/

theorem isOut_modCyl {s : State} {c : Fin 4} {f : Cylinder → Cylinder} (hf : (f s.cylinders[c]).isOut = s.cylinders[c].isOut)
    (j : Fin 4) : (s.modCyl c f).cylinders[j].isOut = s.cylinders[j].isOut := by
  rw [State.modCyl_get]
  split
  · rename_i hj
    rw [← hj, hf]
  · rfl

theorem isOut_endDischarge (c : Fin 4) (k : EndCause) (s : State) (j : Fin 4) :
    (endDischarge c k s).cylinders[j].isOut = s.cylinders[j].isOut := by
  rw [endDischarge_cylinders]
  split
  · rename_i hd
    simp only [Cylinder.isOut, hd.2]
    rfl
  · rfl

theorem ownersKept_endDischarge (c : Fin 4) (k : EndCause) (s : State) : OwnersKept s (endDischarge c k s) where
  slots i := by simp
  gas := by simp
  locked := by simp
  source := by simp
  isOut := isOut_endDischarge c k s

/-- The test of all cylinders writes the reason NO_CYLINDER as the law has it. -/
theorem withheldSafe_allOutTest {s t : State} (h : WithheldSafe s) (hg : GateKept s t) (hs : t.slots = s.slots) (hgas : t.gas = s.gas)
    (ht : t.tracker = s.tracker) : WithheldSafe (allOutTest t) := by
  have hset (v : Bool) (hv : allOut t = v) : WithheldSafe (t.modWithhold fun w => { w with noCylinder := v }) := by
    obtain ⟨hw, ha⟩ := h
    have hwith : (t.modWithhold fun w => { w with noCylinder := v }).infeed.withhold =
        { s.infeed.withhold with stop := t.infeed.withhold.stop, noCylinder := v } := by
      show { t.infeed.withhold with noCylinder := v } = _
      rw [hg.withhold]
    refine ⟨{ noRecipe := ?_, gas := ?_, wake := ?_, temp := ?_, tempGood := ?_, position := ?_, simulated := ?_,
              stop := hg.line hw.stop, noCylinder := ?_ }, ?_⟩
    · rw [hwith]; simpa [hs] using hw.noRecipe
    · rw [hwith]; simpa [hgas] using hw.gas
    · rw [hwith]; simpa [hgas] using hw.wake
    · rw [hwith]; simpa [hgas] using hw.temp
    · simpa [hgas] using hw.tempGood
    · rw [hwith]; simpa [ht] using hw.position
    · rw [hwith]; simpa [ht] using hw.simulated
    · rw [hwith]
      show v = true ↔ _
      rw [← hv]
      exact allOut_iff t
    · unfold AdmissionSafe
      rw [hwith]
      show s.infeed.withhold.position = true → t.infeed.gateOpen = false ∧ ∀ h : Fin 16, t.infeed.admitted[h] = false
      rw [hg.gateOpen, hg.admitted]
      exact ha
  unfold allOutTest
  split
  · rename_i hall
    exact (hset true hall).kept (gateKept_setCondition _ _) (.of_eq (by simp) (by simp) (by simp) (by simp))
  · rename_i hall
    exact hset false (by simpa using hall)

theorem withheldSafe_readyOrDisabled {s : State} (c : Fin 4) (h : WithheldSafe s) (hc : s.cylinders[c].isOut = false) :
    WithheldSafe (readyOrDisabled c s) := by
  unfold readyOrDisabled
  split
  · unfold completeDisable
    refine withheldSafe_allOutTest h (.of_eq ?_ ?_ ?_ ?_ ?_) ?_ ?_ ?_ <;> simp
  · exact h.kept (.of_eq rfl rfl rfl rfl rfl) { OwnersKept.of_eq (s := s) rfl rfl rfl rfl with isOut := isOut_modCyl hc.symm }

theorem withheldSafe_position {s : State} (h : WithheldSafe s) :
    WithheldSafe (setPosition (s.modTracker fun t => { t with state := .slipped })) := by
  obtain ⟨hw, ha⟩ := h
  unfold setPosition
  split
  · rename_i hp
    refine ⟨{ hw with position := ?_ }, ha⟩
    exact ⟨fun _ => TrackerState.noConfusion, fun _ => hp⟩
  · refine ⟨{ hw with position := ?_ }, fun _ => ⟨rfl, fun h => ?_⟩⟩
    · exact ⟨fun _ => TrackerState.noConfusion, fun _ => rfl⟩
    · show (Vector.replicate 16 false)[h] = false
      simp

theorem withheldSafe_source {s : State} (x : Source) (h : WithheldSafe s) : WithheldSafe (selectSource x s) := by
  rw [selectSource_eq]
  refine WithheldSafe.kept (s := sourceSelected x s) ?_ (.of_eq (by simp) (by simp) (by simp) (by simp) (by simp))
    (.of_eq (by simp) (by simp) (by simp) (by simp))
  obtain ⟨hw, ha⟩ := h
  by_cases hl : s.tracker.state = .locked
  · have hp : s.infeed.withhold.position = false := by
      rw [← Bool.not_eq_true, hw.position]
      exact fun h => h hl
    refine ⟨{ hw with position := ?_, simulated := ?_ }, fun _ => ?_⟩
    · simp [sourceSelected, hl]
    · simp [sourceSelected]
    · simp [sourceSelected, hl, hp]
  · have hp : s.infeed.withhold.position = true := hw.position.mpr hl
    refine ⟨{ hw with position := ?_, simulated := ?_ }, fun _ => ?_⟩
    · simp [sourceSelected, hp]
    · simp [sourceSelected]
    · simpa [sourceSelected, hl] using ha hp

theorem ownersKept_withHead {s t : State} (h : OwnersKept s t) (j : Fin 16) (y : Head) (q : List (Fin 16)) :
    OwnersKept s (t.withHead j y q) := h.trans (.of_eq rfl rfl rfl rfl)

theorem gateKept_withHead {s t : State} (h : GateKept s t) (j : Fin 16) (y : Head) (q : List (Fin 16)) :
    GateKept s (t.withHead j y q) := h.trans (.of_eq rfl rfl rfl rfl rfl)

theorem ownersKept_slots {s t : State} (hs : ∀ i : Fin 2, t.slots[i].state = .active ↔ s.slots[i].state = .active)
    (hg : t.gas = s.gas) (ht : t.tracker = s.tracker) (hc : t.cylinders = s.cylinders) : OwnersKept s t :=
  { OwnersKept.of_eq (s := s) (t := { t with slots := s.slots }) rfl hg ht hc with slots := hs }

/-- A slot written in a state that is not ACTIVE, as it was before, leaves the reason NO_RECIPE as it stands. -/
theorem active_modSlot {s : State} {i : Fin 2} {f : Slot → Slot} (hx : s.slots[i].state ≠ .active)
    (hy : (f s.slots[i]).state ≠ .active) (j : Fin 2) : (s.modSlot i f).slots[j].state = .active ↔ s.slots[j].state = .active := by
  rw [State.modSlot_get]
  split
  · rename_i hj
    subst hj
    exact iff_of_false hy hx
  · exact Iff.rfl

theorem loadSlot_state {s : State} {i : Fin 2} (h : loadSlot s = some i) :
    s.slots[i].state = .pending ∨ s.slots[i].state = .free := by
  unfold loadSlot at h
  split at h
  · rename_i j hj
    obtain rfl := Option.some.inj h
    exact .inl (state_of_pendingSlot hj)
  · exact .inr (by simpa using List.find?_some h)

/-- The reasons after an activation: its slot is ACTIVE, and NO_RECIPE withdrawn. -/
theorem withheldSafe_activated {s : State} (i : Fin 2) (h : WithheldSafe s) : WithheldSafe (slotsActivated i s) := by
  obtain ⟨hw, ha⟩ := h
  have hinf : (slotsActivated i s).infeed = { s.infeed with withhold := { s.infeed.withhold with noRecipe := false } } := by
    unfold slotsActivated
    rw [retireSlot_eq]
    rfl
  have hothers : (slotsActivated i s).gas = s.gas ∧ (slotsActivated i s).tracker = s.tracker ∧
      (slotsActivated i s).cylinders = s.cylinders ∧ (slotsActivated i s).conds = s.conds := by
    unfold slotsActivated
    rw [retireSlot_eq]
    exact ⟨rfl, rfl, rfl, rfl⟩
  obtain ⟨hgas, htr, hcyl, hconds⟩ := hothers
  have hactive : (slotsActivated i s).slots[i].state = .active :=
    congrArg Slot.state (State.modSlot_self (retireSlot (otherSlot i) s) i fun x => { x with state := .active })
  refine ⟨{ noRecipe := ?_, gas := ?_, wake := ?_, temp := ?_, tempGood := ?_, position := ?_, simulated := ?_, stop := ?_,
            noCylinder := ?_ }, ?_⟩
  · rw [hinf]
    refine ⟨fun h => (nomatch h), fun h => ?_⟩
    obtain rfl | rfl : i = 0 ∨ i = 1 := by omega
    · exact absurd hactive h.1
    · exact absurd hactive h.2
  · rw [hinf, hgas]; exact hw.gas
  · rw [hinf, hgas]; exact hw.wake
  · rw [hinf, hgas]; exact hw.temp
  · rw [hgas]; exact hw.tempGood
  · rw [hinf, htr]; exact hw.position
  · rw [hinf, htr]; exact hw.simulated
  · rw [hinf, hconds]; exact hw.stop
  · rw [hinf, hcyl]; exact hw.noCylinder
  · unfold AdmissionSafe
    rw [hinf]
    exact ha

theorem Act.withheldSafe {b : Bool} {s t : State} (ha : Act b s t) (h : WithheldSafe s) : WithheldSafe t := by
  cases ha with
  | link | sensors | mask | verdicts | configured | gasTable | allowance | head =>
    exact h.kept (.of_eq rfl rfl rfl rfl rfl) (.of_eq rfl rfl rfl rfl)
  | condition k => exact h.kept (gateKept_setCondition k s) (.of_eq (by simp) (by simp) (by simp) (by simp))
  | cleared m => exact ⟨{ h.1 with stop := rfl }, h.2⟩
  | hold v => exact ⟨{ h.1 with }, h.2⟩
  | tracker y he =>
    exact h.kept (.of_eq rfl rfl rfl rfl rfl)
      { OwnersKept.of_eq (s := s) rfl rfl rfl rfl with locked := he.locked, source := he.source }
  | locked =>
    have hinf : (enterLocked s).infeed = { s.infeed with withhold := { s.infeed.withhold with position := false } } := by
      unfold enterLocked
      simp
    have hothers : (enterLocked s).slots = s.slots ∧ (enterLocked s).gas = s.gas ∧ (enterLocked s).cylinders = s.cylinders ∧
        (enterLocked s).conds = s.conds ∧ (enterLocked s).tracker.source = s.tracker.source ∧
        (enterLocked s).tracker.state = .locked := by
      unfold enterLocked
      simp
    obtain ⟨hsl, hgas, hcyl, hconds, hsrc, hstate⟩ := hothers
    refine ⟨{ noRecipe := ?_, gas := ?_, wake := ?_, temp := ?_, tempGood := ?_, position := ?_, simulated := ?_, stop := ?_,
              noCylinder := ?_ }, fun hp => ?_⟩
    · rw [hinf, hsl]; exact h.1.noRecipe
    · rw [hinf, hgas]; exact h.1.gas
    · rw [hinf, hgas]; exact h.1.wake
    · rw [hinf, hgas]; exact h.1.temp
    · rw [hgas]; exact h.1.tempGood
    · rw [hinf, hstate]; exact ⟨fun h => (nomatch h), fun h => absurd rfl h⟩
    · rw [hinf, hsrc]; exact h.1.simulated
    · rw [hinf, hconds]; exact h.1.stop
    · rw [hinf, hcyl]; exact h.1.noCylinder
    · rw [hinf] at hp
      exact nomatch hp
  | slipped => exact withheldSafe_position h
  | source x => exact withheldSafe_source x h
  | supply g w he =>
    obtain ⟨hw, ha⟩ := h
    have hrest := he.others
    refine ⟨{ noRecipe := ?_, gas := he.gas hw.gas, wake := he.wake hw.wake, temp := he.temp hw.tempGood hw.temp
              tempGood := he.tempGood hw.tempGood, position := ?_, simulated := ?_, stop := ?_, noCylinder := ?_ }, ?_⟩
    · show w.noRecipe = true ↔ _
      rw [hrest]; exact hw.noRecipe
    · show w.position = true ↔ _
      rw [hrest]; exact hw.position
    · show w.simulated = true ↔ _
      rw [hrest]; exact hw.simulated
    · show w.stop = _
      rw [hrest]; exact hw.stop
    · show w.noCylinder = true ↔ _
      rw [hrest]; exact hw.noCylinder
    · show w.position = true → _
      rw [hrest]; exact ha
  | cylinder c y he ho =>
    exact h.kept (.of_eq rfl rfl rfl rfl rfl) { OwnersKept.of_eq (s := s) rfl rfl rfl rfl with isOut := isOut_modCyl ho }
  | tested c y he => exact withheldSafe_allOutTest h (.of_eq rfl rfl rfl rfl rfl) rfl rfl rfl
  | decided j r y q =>
    refine h.kept (gateKept_withHead (gateKept_unbound j r.seq s) j y q) (ownersKept_withHead ?_ j y q)
    rw [← settleUnbound_eq]
    exact .of_eq (by simp) (by simp) (by simp) (by simp)
  | discharged c k => exact h.kept (gateKept_endDischarge c k s) (ownersKept_endDischarge c k s)
  | ended c k j y q =>
    exact h.kept (gateKept_withHead (gateKept_endDischarge c k s) j y q) (ownersKept_withHead (ownersKept_endDischarge c k s) j y q)
  | noFlow c j y q he hp hc =>
    have hfreed : WithheldSafe (s.flowFreed j c) := by
      unfold State.flowFreed
      refine withheldSafe_readyOrDisabled c (h.kept (.of_eq rfl rfl rfl rfl rfl)
        { OwnersKept.of_eq (s := s) rfl rfl rfl rfl with isOut := isOut_modCyl rfl }) ?_
      rw [isOut_modCyl rfl]
      exact congrArg (fun st => st == CylState.disabled || st == .outOfService) hc
    exact hfreed.kept (.of_eq rfl rfl rfl rfl rfl) (.of_eq rfl rfl rfl rfl)
  | granted c j z y q he hc =>
    have hout : ({ s.cylinders[c].enter .discharging with owner := some j, shot := some z } : Cylinder).isOut =
        s.cylinders[c].isOut := by
      simp only [Cylinder.isOut, Cylinder.enter, hc]
      rfl
    exact h.kept (.of_eq rfl rfl rfl rfl rfl) ⟨fun _ => Iff.rfl, ⟨rfl, rfl, rfl, rfl⟩, Iff.rfl, rfl,
      isOut_modCyl (s := s) (f := fun x => { x.enter .discharging with owner := some j, shot := some z }) hout⟩
  | infeed j he => exact h.kept (.of_eq rfl rfl he.withhold he.admitted he.gateOpen) (.of_eq rfl rfl rfl rfl)
  | gateRefused j g hg =>
    refine ⟨{ h.1 with }, fun hp => ?_⟩
    obtain ⟨hopen, hadm⟩ := h.2 hp
    refine ⟨hg.elim id fun hg => hg.trans hopen, fun k => ?_⟩
    show (s.infeed.admitted.set j false)[k] = false
    rw [getFin_set]
    split
    · rfl
    · exact hadm k
  | gateAdmitted j hg =>
    refine ⟨{ h.1 with }, fun hp => ?_⟩
    have hnone : s.infeed.withhold.any = false := ((gateAdmits_iff j s).mp hg).1
    simp [Withhold.any, show s.infeed.withhold.position = true from hp] at hnone
  | created j i hr =>
    have hused : WithheldSafe (s.admissionUsed j) := by
      refine ⟨{ h.1 with }, fun hp => ?_⟩
      obtain ⟨hopen, hadm⟩ := h.2 hp
      refine ⟨hopen, fun k => ?_⟩
      show (s.infeed.admitted.set j false)[k] = false
      rw [getFin_set]
      split
      · rfl
      · exact hadm k
    refine hused.kept (gateKept_createRecord j i _) (ownersKept_slots (fun k => ?_) (by simp) (by simp) (by simp))
    rw [createRecord_slots, getFin_set]
    split
    · rename_i hk
      subst hk
      exact Iff.rfl
    · exact Iff.rfl
  | handedOn j =>
    refine h.kept (gateKept_handOn j s) (ownersKept_slots (fun k => ?_) (by simp) (by simp) (by simp))
    cases hr : s.heads[j].record with
    | none => rw [show handOn j s = s by simp only [handOn, hr]]
    | some r =>
      obtain ⟨hsl, -⟩ := handed_frame j r s
      rw [handOn_handed hr, dropReference_active, hsl]
  | filled es z =>
    obtain ⟨htr, hcyl, -, hgas, -, -, -, hsl, -⟩ := entries_frame es (s, z)
    exact h.kept (gateKept_entries es (s, z)) (.of_eq hsl hgas htr hcyl)
  | loaded i r hi =>
    refine h.kept (.of_eq rfl rfl rfl rfl rfl) (ownersKept_slots (active_modSlot ?_ SlotState.noConfusion) rfl rfl rfl)
    rcases loadSlot_state hi with hp | hf
    · rw [hp]; decide
    · rw [hf]; decide
  | activated i hi => exact withheldSafe_activated i h
  | discarded i hi =>
    refine h.kept (.of_eq rfl rfl rfl rfl rfl) (ownersKept_slots (active_modSlot (s := s)
      (f := fun x => { x with state := .free, recipe := none }) ?_ SlotState.noConfusion) rfl rfl rfl)
    rw [state_of_pendingSlot hi]
    decide

/-! ## HOLD_REQUEST -/

theorem GateKept.holdRequest {s t : State} (h : GateKept s t) : t.infeed.withhold.holdRequest = s.infeed.withhold.holdRequest := by
  rw [h.withhold]

theorem holdRequest_allOutTest (s : State) : (allOutTest s).infeed.withhold.holdRequest = s.infeed.withhold.holdRequest := by
  unfold allOutTest
  split
  · exact (gateKept_setCondition _ _).holdRequest
  · rfl

theorem Act.holdRequest {s t : State} (ha : Act false s t) : t.infeed.withhold.holdRequest = s.infeed.withhold.holdRequest := by
  cases ha with
  | link | sensors | mask | verdicts | configured | gasTable | allowance | head | cleared | tracker | cylinder | granted
  | gateRefused | gateAdmitted | loaded | discarded => rfl
  | hold v hf => exact nomatch hf
  | condition k => exact (gateKept_setCondition k s).holdRequest
  | locked =>
    unfold enterLocked
    simp
  | slipped =>
    unfold setPosition
    split <;> rfl
  | source x =>
    rw [selectSource_eq]
    simp [sourceSelected]
  | supply g w he =>
    show w.holdRequest = _
    rw [he.others]
  | tested c y he => exact holdRequest_allOutTest _
  | decided j r y q => exact (gateKept_unbound j r.seq s).holdRequest
  | discharged c k => exact (gateKept_endDischarge c k s).holdRequest
  | ended c k j y q => exact (gateKept_endDischarge c k s).holdRequest
  | noFlow c j y q =>
    show (s.flowFreed j c).infeed.withhold.holdRequest = _
    unfold State.flowFreed readyOrDisabled
    split
    · unfold completeDisable
      rw [holdRequest_allOutTest]
      simp
    · rfl
  | infeed j he => rw [show ({ s with infeed := j } : State).infeed = j from rfl, he.withhold]
  | created j i => exact (gateKept_createRecord j i _).holdRequest
  | handedOn j => exact (gateKept_handOn j s).holdRequest
  | filled es z => exact (gateKept_entries es (s, z)).holdRequest
  | activated i =>
    unfold slotsActivated
    rw [retireSlot_eq]
    rfl

/-! ## The resets -/

theorem withheldSafe_powerOn (x y : Bool) (s t : State) (e : exec (.powerOnReset x y) s = .next t) : WithheldSafe t := by
  injection e with e; subst e
  obtain ⟨-, -, hw, ha, -⟩ := lawsHoldAtReset
  refine WithheldSafe.kept (s := State.reset) ⟨hw, ha⟩ (.of_eq rfl rfl rfl rfl rfl) ⟨fun _ => Iff.rfl, ⟨rfl, rfl, rfl, rfl⟩, Iff.rfl, rfl, fun c => ?_⟩
  show (restartCylinders s).cylinders[c].isOut = _
  rw [restartCylinders_eq]
  simp [State.reset, Cylinder.isOut, Cylinder.atReset, Cylinder.restarted]

theorem withheldSafe_restart {s : State} (h : WithheldSafe s) : WithheldSafe (performRestart s) := by
  rw [performRestart_eq]
  refine ⟨{ noRecipe := ?_, gas := rfl, wake := ?_, temp := h.1.temp, tempGood := h.1.tempGood, position := ?_, simulated := ?_
            stop := rfl, noCylinder := ?_ }, fun _ => ⟨rfl, fun k => ?_⟩⟩
  · show (activeSlot s).isNone = true ↔ _
    rw [activeSlot_isNone]
    simp [restartStore, restartBlocks, restarted_active]
  · exact ⟨fun h => (nomatch h), fun h => (nomatch h)⟩
  · exact ⟨fun _ => TrackerState.noConfusion, fun _ => rfl⟩
  · exact ⟨fun h => (nomatch h), fun h => (nomatch h)⟩
  · refine ⟨fun h => (nomatch h), fun hall => ?_⟩
    have hfirst := hall 0
    simp only [Fin.getElem_fin, Vector.getElem_map] at hfirst
    unfold Cylinder.refilledIdle at hfirst
    split at hfirst
    · rcases hfirst with h | h <;> exact nomatch h
    · rcases hfirst with h | h <;> exact nomatch h
  · show (Vector.replicate 16 false)[k] = false
    simp

/-- Settles O14: the reasons act by act, and HOLD_REQUEST by the acts that are not the host's. -/
theorem withholdSetFollowsOwners : Obligations.WithholdSetFollowsOwners := by
  refine ⟨fun s t hw ha e => ?_, fun c s t e hrx hwf hh hl hbyte hreset hrestart => ?_⟩
  · exact step_keeps (P := WithheldSafe) (fun _ _ ha hs => ha.withheldSafe hs) withheldSafe_powerOn
      (fun _ hs => withheldSafe_restart hs) (fun _ _ hs => ⟨{ hs.1 with }, hs.2⟩) ⟨hw, ha⟩ e
  · exact (acts_unheld e hrx hwf hh hl hbyte hreset hrestart).keeps
      (P := fun u => u.infeed.withhold.holdRequest = s.infeed.withhold.holdRequest) (fun _ _ ha hs => ha.holdRequest.trans hs) rfl

end Sys2Proof.Machine
end

section
/-! PROOF. The verdict log, the cans in process and the pending admissions have room (spec/03 R50, spec/08 R140). -/

namespace Sys2Proof.Machine

/-! ## Which heads hold cans -/

/-- The slot of the can a head holds. -/
def Head.slot (x : Head) : Option (Fin 2) := x.record.map CanRecord.slot

theorem slot_of_can {x y : Head} (h : y.can = x.can) : y.slot = x.slot := by
  have hslot (z : Head) : z.slot = z.can.map Prod.fst := by
    unfold Head.slot Head.can
    rw [Option.map_map]
    rfl
  rw [hslot, hslot, h]

theorem holdsCan_of_slot {x y : Head} (h : y.slot = x.slot) : y.holdsCan = x.holdsCan := by
  have hslot (z : Head) : z.holdsCan = z.slot.isSome := by
    unfold Head.holdsCan Head.slot
    rw [Option.isSome_map]
  rw [hslot, hslot, h]

theorem slot_withHead {s : State} {h : Fin 16} {y : Head} {q : List (Fin 16)} (hy : y.slot = s.heads[h].slot) (j : Fin 16) :
    (s.withHead h y q).heads[j].slot = s.heads[j].slot := by
  show (s.heads.set h y)[j].slot = _
  rw [getFin_set]
  split
  · rename_i hj
    rw [← hj, hy]
  · rfl

/-- An entry writes at most the head of the oldest awaiting can. -/
theorem applyEntry_heads (x : State × FillTally) (e : FillEntry) : (applyEntry x e).1.heads = x.1.heads ∨
    ∃ a rest, x.1.infeed.awaiting = a :: rest ∧
      (applyEntry x e).1.heads = x.1.heads.set a.head (boundHead a e x.1.heads[a.head]) := by
  unfold applyEntry
  simp only []
  split
  · refine .inl ?_
    simp only []
    split <;> simp
  · split
    · rename_i a rest ha
      refine .inr ⟨a, rest, ha, ?_⟩
      rw [(releaseSettled_frame _ _).2.1, boundHead_eq]
      rfl
    · exact .inl rfl

theorem bind_slot (r : CanRecord) (e : FillEntry) : (r.bind e).slot = r.slot := by
  unfold CanRecord.bind
  split <;> rfl

theorem boundHead_slot (a : AwaitEntry) (e : FillEntry) (x : Head) : (boundHead a e x).slot = x.slot := by
  rw [boundHead_eq]
  unfold Head.slot
  simp only [Option.map_map]
  refine congrArg (fun f => Option.map f _) (funext fun r => ?_)
  show (if r.seq = a.seq then r.bind e else r).slot = r.slot
  split
  · exact bind_slot r e
  · rfl

theorem applyEntry_slot (x : State × FillTally) (e : FillEntry) (j : Fin 16) :
    (applyEntry x e).1.heads[j].slot = x.1.heads[j].slot := by
  rcases applyEntry_heads x e with h | ⟨a, rest, -, h⟩
  · exact congrArg (fun v : Vector Head 16 => v[j].slot) h
  · refine (congrArg (fun v : Vector Head 16 => v[j].slot) h).trans ?_
    exact slot_withHead (s := x.1) (q := x.1.grantQueue) (boundHead_slot a e _) j

theorem entries_slot (es : List FillEntry) (x : State × FillTally) (j : Fin 16) :
    (es.foldl applyEntry x).1.heads[j].slot = x.1.heads[j].slot := by
  induction es generalizing x with
  | nil => rfl
  | cons e es ih => exact (ih _).trans (applyEntry_slot x e j)

/-- The cans stay with their heads and their slots in every act but a new can and a hand-on. -/
theorem Act.slots_held {b : Bool} {s t : State} (ha : Act b s t) : (∀ j : Fin 16, t.heads[j].slot = s.heads[j].slot) ∨
    (∃ h i, t = createRecord h i (s.admissionUsed h) ∧ s.heads[h].record = none ∧ activeSlot s = some i ∧
      (s.infeed.admitted[h] = true ∨ roomTaken (s.admissionUsed h) < 64)) ∨ ∃ h, t = handOn h s := by
  cases ha with
  | link | sensors | mask | verdicts | configured | gasTable | allowance | cleared | tracker | cylinder | hold | supply | infeed
  | gateRefused | gateAdmitted | loaded | discarded => exact .inl fun _ => rfl
  | condition k => exact .inl fun j => by rw [(setCondition_frame s k).2.1]
  | locked => exact .inl fun j => by unfold enterLocked; simp
  | slipped => exact .inl fun j => by rw [(setPosition_frame _).2.1]; rfl
  | source x => exact .inl fun j => by rw [selectSource_eq, (trackerReport_frame _).2.1]; rfl
  | tested c y he => exact .inl fun j => by rw [(allOutTest_frame _).2.1]; rfl
  | head h y q he => exact .inl (slot_withHead (slot_of_can he.can))
  | decided h r y q he =>
    refine .inl fun j => (slot_withHead (s := s.unbound h r.seq) ?_ j).trans (by rw [unbound_head])
    rw [unbound_head]
    exact slot_of_can he.can
  | discharged c k => exact .inl fun j => slot_of_can (endDischarge_can c k j s).1
  | ended c k h y q hp hcan =>
    refine .inl fun j => (slot_withHead (s := endDischarge c k s) ?_ j).trans (slot_of_can (endDischarge_can c k j s).1)
    exact slot_of_can (hcan.trans (endDischarge_can c k h s).1.symm)
  | noFlow c h y q he =>
    have hfreed (j : Fin 16) : (s.flowFreed h c).heads[j].slot = s.heads[j].slot := by
      rw [flowFreed_heads]
      exact slot_withHead (s := s) (h := h) (y := s.heads[h].noFlow c) (q := s.grantQueue) rfl j
    exact .inl fun j => (slot_withHead (s := s.flowFreed h c) ((slot_of_can he.can).trans (hfreed h).symm) j).trans (hfreed j)
  | granted c h z y q he => exact .inl (slot_withHead (slot_of_can he.can))
  | created h i hr hw hd hact hroom => exact .inr (.inl ⟨h, i, rfl, hr, hact, hroom⟩)
  | handedOn h => exact .inr (.inr ⟨h, rfl⟩)
  | filled es z => exact .inl (entries_slot es (s, z))
  | activated i => exact .inl fun j => by unfold slotsActivated; rw [retireSlot_eq]; rfl

/-! ## Counting -/

theorem inProcess_mono {s t : State} (h : ∀ j : Fin 16, t.heads[j].slot = s.heads[j].slot) : inProcess t = inProcess s := by
  unfold inProcess
  have hheads : t.heads.map Head.holdsCan = s.heads.map Head.holdsCan := by
    ext k hk
    simp only [Vector.getElem_map]
    exact holdsCan_of_slot (h ⟨k, hk⟩)
  have hcount (v : Vector Head 16) : v.toList.countP Head.holdsCan = (v.map Head.holdsCan).toList.countP id := by
    rw [Vector.toList_map, List.countP_map]
    rfl
  rw [hcount, hcount, hheads]

theorem pending_admitted (s : State) (h : Fin 16) (v : Bool) :
    (s.infeed.admitted.set h v).toList.countP id + (if s.infeed.admitted[h] = true then 1 else 0) =
      pendingAdmissions s + (if v = true then 1 else 0) := countP_toList_set id s.infeed.admitted h v

theorem inProcess_set (s : State) (h : Fin 16) (y : Head) :
    (s.heads.set h y).toList.countP Head.holdsCan + (if s.heads[h].holdsCan = true then 1 else 0) =
      inProcess s + (if y.holdsCan = true then 1 else 0) := countP_toList_set Head.holdsCan s.heads h y

/-- No more of the log, the same cans and no more admissions take no more room. -/
theorem roomSafe_of_le {s t : State} (h : RoomSafe s) (hlog : t.verdicts.log.length ≤ s.verdicts.log.length)
    (hin : inProcess t ≤ inProcess s) (hadm : pendingAdmissions t ≤ pendingAdmissions s) : RoomSafe t := by
  unfold RoomSafe roomTaken at *
  omega

theorem pending_of_eq {s t : State} (h : t.infeed.admitted = s.infeed.admitted) : pendingAdmissions t = pendingAdmissions s := by
  unfold pendingAdmissions
  rw [h]

theorem pending_setPosition (s : State) : pendingAdmissions (setPosition s) ≤ pendingAdmissions s := by
  unfold setPosition
  split
  · exact Nat.le_refl _
  · refine (Nat.le_of_eq ?_).trans (Nat.zero_le _)
    show (Vector.replicate 16 false).toList.countP id = 0
    decide

theorem createRecord_heads (h : Fin 16) (i : Fin 2) (s : State) : ∃ r : CanRecord, r.slot = i ∧
    (createRecord h i s).heads = s.heads.set h { s.heads[h] with record := some r, cycle := .seated } := by
  unfold createRecord
  simp only []
  split
  · exact ⟨_, bind_slot _ _, rfl⟩
  · exact ⟨_, rfl, rfl⟩

theorem admissionUsed_pending (h : Fin 16) (s : State) :
    pendingAdmissions (s.admissionUsed h) + (if s.infeed.admitted[h] = true then 1 else 0) = pendingAdmissions s :=
  pending_admitted s h false

theorem roomSafe_created {s : State} (hs : RoomSafe s) (h : Fin 16) (i : Fin 2) (hr : s.heads[h].record = none)
    (hroom : s.infeed.admitted[h] = true ∨ roomTaken (s.admissionUsed h) < 64) :
    RoomSafe (createRecord h i (s.admissionUsed h)) := by
  obtain ⟨r, -, hheads⟩ := createRecord_heads h i (s.admissionUsed h)
  have hin := inProcess_set s h { s.heads[h] with record := some r, cycle := .seated }
  rw [if_neg fun hc => holdsCan_iff.mp hc hr, if_pos (by rfl)] at hin
  have hin' : inProcess (createRecord h i (s.admissionUsed h)) = inProcess s + 1 := by
    unfold inProcess
    rw [hheads]
    exact hin
  have hadm := pending_of_eq (gateKept_createRecord h i (s.admissionUsed h)).admitted
  have hlog : (createRecord h i (s.admissionUsed h)).verdicts = s.verdicts := by
    rw [(createRecord_frame _ h i).2.2.2.2.2.2.1]
    rfl
  have hused := admissionUsed_pending h s
  have hsame : inProcess (s.admissionUsed h) = inProcess s := rfl
  have hsamelog : (s.admissionUsed h).verdicts = s.verdicts := rfl
  unfold RoomSafe roomTaken at *
  rw [hlog, hin', hadm]
  rw [hsame, hsamelog] at hroom
  rcases hroom with hyes | hfew
  · rw [if_pos hyes] at hused
    omega
  · omega

theorem roomSafe_handOn {s : State} (hs : RoomSafe s) (h : Fin 16) : RoomSafe (handOn h s) := by
  cases hr : s.heads[h].record with
  | none =>
    rw [show handOn h s = s by simp only [handOn, hr]]
    exact hs
  | some r =>
    obtain ⟨-, -, -, hheads, hver⟩ := handed_frame h r s
    have hin := inProcess_set s h s.heads[h].vacated
    have hempty : s.heads[h].vacated.holdsCan = false := by
      unfold Head.vacated
      split <;> rfl
    rw [if_pos (holdsCan_iff.mpr (hr ▸ Option.some_ne_none r)), if_neg (by rw [hempty]; exact Bool.false_ne_true)] at hin
    have hin' : inProcess (handOn h s) + 1 = inProcess s := by
      unfold inProcess at hin ⊢
      rw [handOn_handed hr, (dropReference_frame _ _).2.1, hheads]
      exact hin
    have hlog : (handOn h s).verdicts.log.length = s.verdicts.log.length + 1 := by
      rw [handOn_handed hr, (dropReference_frame _ _).2.2.2.2.2.2.2.1, hver, takeRecord_eq]
      simp
    have hadm := pending_of_eq (gateKept_handOn h s).admitted
    unfold RoomSafe roomTaken at *
    omega

theorem Act.roomSafe {b : Bool} {s t : State} (ha : Act b s t) (hs : RoomSafe s) : RoomSafe t := by
  rcases ha.slots_held with hheld | ⟨h, i, rfl, hr, -, hroom⟩ | ⟨h, rfl⟩
  · have hin := Nat.le_of_eq (inProcess_mono hheld)
    cases ha with
    | link | sensors | mask | configured | gasTable | allowance | cleared | tracker | cylinder | hold | supply
    | loaded | discarded => exact hs
    | head h y q => exact roomSafe_of_le hs (Nat.le_refl _) hin (Nat.le_refl _)
    | granted c h z y q => exact roomSafe_of_le hs (Nat.le_refl _) hin (Nat.le_refl _)
    | condition k =>
      exact roomSafe_of_le hs (by simp) hin (Nat.le_of_eq (pending_of_eq (gateKept_setCondition k s).admitted))
    | locked =>
      refine roomSafe_of_le hs ?_ hin (Nat.le_of_eq (pending_of_eq ?_))
      · unfold enterLocked; simp
      · unfold enterLocked; simp
    | slipped => exact roomSafe_of_le hs (by simp) hin (pending_setPosition (s.modTracker fun t => { t with state := .slipped }))
    | source x =>
      rw [selectSource_eq] at hin ⊢
      refine roomSafe_of_le hs (by simp [sourceSelected]) hin ?_
      rw [pending_of_eq (t := trackerReport (sourceSelected x s)) (s := sourceSelected x s) (by simp)]
      unfold pendingAdmissions sourceSelected
      simp only []
      split
      · exact (Nat.le_of_eq (by decide)).trans (Nat.zero_le _)
      · exact Nat.le_refl _
    | tested c y he =>
      refine roomSafe_of_le hs (by simp) hin (Nat.le_of_eq (pending_of_eq ?_))
      unfold allOutTest
      split
      · exact (gateKept_setCondition _ _).admitted
      · rfl
    | decided h r y q =>
      refine roomSafe_of_le hs (Nat.le_of_eq ?_) hin (Nat.le_of_eq (pending_of_eq (gateKept_unbound h r.seq s).admitted))
      show (s.unbound h r.seq).verdicts.log.length = _
      rw [← settleUnbound_eq]
      simp
    | discharged c k =>
      exact roomSafe_of_le hs (by simp) hin (Nat.le_of_eq (pending_of_eq (gateKept_endDischarge c k s).admitted))
    | ended c k h y q =>
      refine roomSafe_of_le hs (Nat.le_of_eq ?_) hin (Nat.le_of_eq (pending_of_eq (gateKept_endDischarge c k s).admitted))
      show (endDischarge c k s).verdicts.log.length = _
      simp
    | noFlow c h y q =>
      have hfreed : (s.flowFreed h c).verdicts = s.verdicts ∧ (s.flowFreed h c).infeed.admitted = s.infeed.admitted := by
        unfold State.flowFreed readyOrDisabled
        split
        · refine ⟨by simp, ?_⟩
          unfold completeDisable allOutTest
          split
          · refine (gateKept_setCondition _ _).admitted.trans ?_
            simp
          · simp
        · exact ⟨rfl, rfl⟩
      refine roomSafe_of_le hs (Nat.le_of_eq ?_) hin (Nat.le_of_eq (pending_of_eq hfreed.2))
      show (s.flowFreed h c).verdicts.log.length = _
      rw [hfreed.1]
    | infeed j he => exact roomSafe_of_le hs (Nat.le_refl _) hin (Nat.le_of_eq (pending_of_eq he.admitted))
    | gateRefused h g =>
      refine roomSafe_of_le hs (Nat.le_refl _) hin ?_
      exact (Nat.le_add_right _ _).trans (Nat.le_of_eq (pending_admitted s h false))
    | gateAdmitted h hg =>
      have hroom := ((gateAdmits_iff h s).mp hg).2.2.2
      have hadm := pending_admitted s h true
      unfold RoomSafe roomTaken at *
      show s.verdicts.log.length + inProcess s + (s.infeed.admitted.set h true).toList.countP id ≤ 64
      rw [if_pos rfl] at hadm
      omega
    | created h i hr hw hd hact hroom => exact roomSafe_created hs h i hr hroom
    | handedOn h => exact roomSafe_handOn hs h
    | filled es z =>
      refine roomSafe_of_le hs (Nat.le_of_eq ?_) hin (Nat.le_of_eq (pending_of_eq (gateKept_entries es (s, z)).admitted))
      rw [(entries_frame es (s, z)).2.2.2.2.2.2.1]
    | verdicts u he => exact roomSafe_of_le hs he.log.length_le hin (Nat.le_refl _)
    | activated i =>
      refine roomSafe_of_le hs ?_ hin (Nat.le_of_eq (pending_of_eq ?_))
      · unfold slotsActivated; rw [retireSlot_eq]; exact Nat.le_refl _
      · unfold slotsActivated; rw [retireSlot_eq]; rfl
  · exact roomSafe_created hs h i hr hroom
  · exact roomSafe_handOn hs h

/-- Settles O15, act by act. -/
theorem logAlwaysHasRoom : Obligations.LogAlwaysHasRoom := by
  refine fun s t h e => step_keeps (P := RoomSafe) (fun _ _ ha hs => ha.roomSafe hs) (fun x y s t e => ?_) (fun s _ => ?_)
    (fun _ _ hs => hs) h e
  · injection e with e; subst e
    exact lawsHoldAtReset.2.2.2.2.1
  · rw [performRestart_eq]
    show 0 + (Vector.replicate 16 Head.atReset).toList.countP Head.holdsCan + (Vector.replicate 16 false).toList.countP id ≤ 64
    decide

end Sys2Proof.Machine
end

section
/-! PROOF. The figures the host loads, the slots and the allowances stay legal (spec/01 R16, spec/06 R109, R118, spec/09 R152 to
R161). -/

namespace Sys2Proof.Machine

/-! ## What the checks let through -/

theorem require_none {p : Prop} [Decidable p] {code : RefusalCode} {f : Nat} (h : require (decide p) code f = none) : p := by
  unfold require at h
  split at h
  · exact of_decide_eq_true ‹_›
  · exact nomatch h

/-- A record that passes its checks is legal (spec/09 R154, R155). -/
theorem recipeSafe_of_check {r : Recipe} (h : recipeCheck r = none) : RecipeSafe r := by
  have hall := (firstFailure_none _).mp h
  have hcross {p : Prop} [Decidable p] {f : Nat} (hm : require (decide p) .badField f ∈ crossChecks r) : p :=
    require_none (hall _ (List.mem_append_right _ hm))
  have hranges := (rangeChecks_none recipeRanges (List.range 25) r.fields.toList).mp
    ((firstFailure_none _).mpr fun c hc => hall c (List.mem_append_left _ hc))
  refine ⟨fun f => hranges f f r.fields[f] (by simp) (by simp) recipeRanges[f] (by simp), ?_, ?_, ?_, ?_, ?_, ?_, ?_, ?_⟩
  · exact hcross (f := 3) (by simp [crossChecks])
  · exact hcross (f := 7) (by simp [crossChecks])
  · exact hcross (f := 11) (by simp [crossChecks])
  · exact hcross (f := 12) (by simp [crossChecks])
  · exact hcross (f := 14) (by simp [crossChecks])
  · exact hcross (f := 16) (by simp [crossChecks])
  · exact hcross (f := 22) (by simp [crossChecks])
  · exact hcross (f := 8) (by simp [crossChecks])

/-- What holds of the values written and of the fields as they stood holds of every field after the writing. -/
theorem writeFields_all_of {n : Nat} (P : Nat → Nat → Prop) (fs vs : List Nat) (x : Vector Nat n)
    (hx : ∀ (f : Nat) (hf : f < n), P f x[f]) (hv : ∀ k f v : Nat, fs[k]? = some f → vs[k]? = some v → f < n → P f v) (f : Nat)
    (hf : f < n) : P f (writeFields fs vs x)[f] := by
  induction fs generalizing vs x with
  | nil => exact hx f hf
  | cons g fs ih =>
    cases vs with
    | nil => exact hx f hf
    | cons v vs =>
      refine ih vs _ (fun e he => ?_) fun k e w hk hw he => hv (k + 1) e w (by simpa using hk) (by simpa using hw) he
      split
      · rename_i hg
        by_cases hge : g = e
        · subst hge
          rw [Vector.getElem_set_self]
          exact hv 0 g v rfl rfl hg
        · rw [Vector.getElem_set_ne _ _ hge]
          exact hx e he
      · exact hx e he

/-- The configuration as an accepted CONFIGURE leaves it is legal (spec/09 R161). -/
theorem configSafe_of_check {s : State} {mask : BitVec 48} {vs : List Nat} (h : configureCheck s mask vs = none)
    (hs : ConfigSafe s.config) : ConfigSafe (configured s.config mask vs) := by
  have hall := (firstFailure_none _).mp h
  have hranges := (rangeChecks_none configRanges (maskFields 41 mask) vs).mp
    ((firstFailure_none _).mpr fun c hc => hall c (by simp [hc]))
  refine ⟨fun f => ?_, fun i => ?_, ?_⟩
  · refine writeFields_all_of (fun f v => ∀ hf : f < 41, configRanges[f].1 ≤ v ∧ v ≤ configRanges[f].2) (maskFields 41 mask) vs
      s.config.fields (fun f hf _ => hs.1 ⟨f, hf⟩) (fun k f v hk hv hf hf' => ?_) f f.isLt f.isLt
    exact hranges k f v hk hv configRanges[f] (by simp [hf])
  · have hstation := hall (require (decide ((configured s.config mask vs).fields.toList.getD i 0 <
      (configured s.config mask vs).fields.toList.getD (i + 1) 0)) .badField (i + 1))
      (List.mem_append_left _ (List.mem_append_right _ (List.mem_map.mpr ⟨i, List.mem_range.mpr i.isLt, rfl⟩)))
    have hrise := require_none hstation
    rw [List.getD_eq_getElem _ _ (by simp; omega), List.getD_eq_getElem _ _ (by simp; omega)] at hrise
    exact hrise
  · exact require_none (hall _ (List.mem_append_right _ (List.mem_singleton.mpr rfl)))

/-- A gas table that passes its checks is legal (spec/06 R109). -/
theorem gasTableSafe_of_check {ps : List Nat} (hl : ps.length = 17) (h : gasTableCheck ps = none) : GasTableSafe (gasTableOf ps) := by
  obtain ⟨p, rfl⟩ : ∃ p : Vector Nat 17, p.toList = ps := ⟨⟨ps.toArray, by simpa using hl⟩, rfl⟩
  have hall := (firstFailure_none _).mp h
  rw [gasTableOf_toList]
  refine ⟨fun i => ?_, fun i => ?_⟩
  · exact require_none (hall _ (List.mem_append_left _ (List.mem_of_getElem? (pointCheck_at p i))))
  · have hrise := risingChecks_at p.toList 0 i.val p[i.val] p[i.val + 1] (by simp) (by simp)
    exact require_none (hall _ (List.mem_append_right _ (List.mem_of_getElem? hrise)))

/-! ## One slot -/

/-- A slot with its allowances and the number of cans that refer to it, as the law of the store has them. -/
structure SlotSafe (x : Slot) (a : Vector Nat 4) (cans : Nat) : Prop where
  record    : x.recipe = none ↔ x.state = .free
  recipe    : ∀ r : Recipe, x.recipe = some r → RecipeSafe r
  allowance : ∀ c : Fin 4, a[c] ≤ 2000
  free      : ∀ c : Fin 4, x.state = .free → a[c] = 0
  refs      : x.refs = cans
  used      : 0 < cans → x.state = .active ∨ x.state = .retiring
  retiring  : x.state = .retiring → 0 < x.refs

theorem cansOf_eq (s : State) (i : Fin 2) : cansOf s i = s.heads.toList.countP fun x => decide (x.slot = some i) := by
  have hheads : s.heads.toList = allHeads.map fun h => s.heads[h] :=
    List.ext_getElem (by simp [allHeads]) fun k _ _ => by simp [allHeads]
  rw [hheads, List.countP_map]
  rfl

theorem cansOf_pos (s : State) (i : Fin 2) : 0 < cansOf s i ↔ ∃ h : Fin 16, s.heads[h].slot = some i := by
  unfold cansOf
  rw [List.countP_pos_iff]
  constructor
  · rintro ⟨h, -, hh⟩
    exact ⟨h, of_decide_eq_true hh⟩
  · rintro ⟨h, hh⟩
    exact ⟨h, mem_allHeads h, decide_eq_true hh⟩

theorem cansOf_congr {s t : State} (h : ∀ j : Fin 16, t.heads[j].slot = s.heads[j].slot) (i : Fin 2) : cansOf t i = cansOf s i := by
  unfold cansOf
  refine congrArg (fun p => List.countP p allHeads) (funext fun j => ?_)
  show decide (t.heads[j].slot = some i) = decide (s.heads[j].slot = some i)
  rw [h j]

theorem cansOf_set {s t : State} {h : Fin 16} {y : Head} (ht : t.heads = s.heads.set h y) (i : Fin 2) :
    cansOf t i + (if s.heads[h].slot = some i then 1 else 0) = cansOf s i + (if y.slot = some i then 1 else 0) := by
  have hcount := countP_toList_set (fun x : Head => decide (x.slot = some i)) s.heads h y
  rw [← ht, ← cansOf_eq, ← cansOf_eq] at hcount
  simpa using hcount

theorem storeSafe_iff (s : State) : StoreSafe s ↔
    legalPair s.slots[0].state s.slots[1].state ∧ ∀ i : Fin 2, SlotSafe s.slots[i] s.allowances[i] (cansOf s i) := by
  constructor
  · intro hs
    refine ⟨hs.pair, fun i => ⟨hs.record i, hs.recipe i, hs.allowance i, hs.free i, hs.refs i, fun hc => ?_, hs.retiring i⟩⟩
    obtain ⟨h, hh⟩ := (cansOf_pos s i).mp hc
    obtain ⟨r, hr, rfl⟩ := Option.map_eq_some_iff.mp hh
    exact hs.refersTo h r hr
  · rintro ⟨hp, hs⟩
    refine ⟨hp, fun i => (hs i).record, fun i => (hs i).recipe, fun i => (hs i).allowance, fun i => (hs i).free,
      fun i => (hs i).refs, fun h r hr => ?_, fun i => (hs i).retiring⟩
    exact (hs r.slot).used ((cansOf_pos s r.slot).mpr ⟨h, by rw [Head.slot, hr]; rfl⟩)

/-- A can more refers to an ACTIVE slot. -/
theorem SlotSafe.created {x : Slot} {a : Vector Nat 4} {n : Nat} (h : SlotSafe x a n) (hx : x.state = .active) :
    SlotSafe { x with refs := x.refs + 1 } a (n + 1) :=
  { h with refs := congrArg (· + 1) h.refs, used := fun _ => .inl hx, retiring := fun _ => Nat.succ_pos _ }

/-- A PENDING record is written. -/
theorem SlotSafe.loaded {x : Slot} {a : Vector Nat 4} {n : Nat} (h : SlotSafe x a n) (hx : x.state = .pending ∨ x.state = .free)
    {r : Recipe} (hr : RecipeSafe r) : SlotSafe { x with state := .pending, recipe := some r } a n :=
  { h with
    record := ⟨fun e => (nomatch e), fun e => (nomatch e)⟩
    recipe := fun q hq => Option.some.inj hq ▸ hr
    free := fun _ e => nomatch e
    used := fun hn => by
      rcases h.used hn with hu | hu
      · rcases hx with hx | hx <;> exact nomatch hu.symm.trans hx
      · rcases hx with hx | hx <;> exact nomatch hu.symm.trans hx
    retiring := fun e => nomatch e }

/-- A slot without cans is freed. -/
theorem slotSafe_freed {y : Slot} (hn : y.refs = 0) (hs : y.state = .free)
    (hr : y.recipe = none) : SlotSafe y (Vector.replicate 4 0) 0 where
  record := iff_of_true hr hs
  recipe r e := nomatch hr.symm.trans e
  allowance c := by simp
  free c _ := by simp
  refs := hn
  used e := absurd e (Nat.lt_irrefl 0)
  retiring e := nomatch hs.symm.trans e

/-- The slot that was ACTIVE retires. -/
theorem SlotSafe.retired {x : Slot} {a : Vector Nat 4} {n : Nat} (h : SlotSafe x a n) :
    SlotSafe x.retired (if x.state = .active ∧ x.refs = 0 then Vector.replicate 4 0 else a) n := by
  unfold Slot.retired
  by_cases hx : x.state = .active
  · by_cases hn : x.refs = 0
    · obtain rfl : n = 0 := h.refs.symm.trans hn
      rw [if_pos ⟨hx, hn⟩, if_pos ⟨hx, hn⟩]
      exact slotSafe_freed hn rfl rfl
    · rw [if_neg (fun e => hn e.2), if_pos hx, if_neg (fun e => hn e.2)]
      exact { h with
        record := ⟨fun e => (nomatch hx.symm.trans (h.record.mp e)), fun e => (nomatch e)⟩
        free := fun _ e => nomatch e
        used := fun _ => .inr rfl
        retiring := fun _ => Nat.pos_of_ne_zero hn }
  · rw [if_neg (fun e => hx e.1), if_neg hx, if_neg (fun e => hx e.1)]
    exact h

/-- The PENDING slot becomes ACTIVE with the initial allowances of its recipe. -/
theorem SlotSafe.activated {x : Slot} {a : Vector Nat 4} {n : Nat} (h : SlotSafe x a n) (hx : x.state = .pending) {v : Nat}
    (hv : v ≤ 2000) : SlotSafe { x with state := .active } (Vector.replicate 4 v) n where
  record := ⟨fun e => (nomatch hx.symm.trans (h.record.mp e)), fun e => (nomatch e)⟩
  recipe := h.recipe
  allowance c := by simpa using hv
  free _ e := nomatch e
  refs := h.refs
  used _ := .inl rfl
  retiring e := nomatch e

/-- A can fewer refers to the slot; a RETIRING slot without cans is freed. -/
theorem SlotSafe.dropped {x : Slot} {a : Vector Nat 4} {n : Nat} (h : SlotSafe x a (n + 1)) :
    if x.state = .retiring ∧ x.refs ≤ 1 then SlotSafe { x with state := .free, recipe := none, refs := 0 } (Vector.replicate 4 0) n
    else SlotSafe { x with refs := x.refs - 1 } a n := by
  have hrefs := h.refs
  split
  · rename_i hx
    obtain rfl : n = 0 := by omega
    exact slotSafe_freed rfl rfl rfl
  · rename_i hx
    refine { h with refs := ?_, used := fun _ => h.used (Nat.succ_pos n), retiring := fun e => ?_ }
    · show x.refs - 1 = n
      omega
    · have : ¬x.refs ≤ 1 := fun hle => hx ⟨e, hle⟩
      show 0 < x.refs - 1
      omega

/-! ## The pair of slot states -/

theorem legalPair_symm {a b : SlotState} (h : legalPair a b) : legalPair b a := by
  revert h
  cases a <;> cases b <;> simp [legalPair]

theorem legalPair_at {s : State} (h : legalPair s.slots[0].state s.slots[1].state) (i : Fin 2) :
    legalPair s.slots[i].state s.slots[otherSlot i].state := by
  obtain rfl | rfl : i = 0 ∨ i = 1 := by omega
  · exact h
  · exact legalPair_symm h

theorem legalPair_of_at {s : State} (i : Fin 2) (h : legalPair s.slots[i].state s.slots[otherSlot i].state) :
    legalPair s.slots[0].state s.slots[1].state := by
  obtain rfl | rfl : i = 0 ∨ i = 1 := by omega
  · exact h
  · exact legalPair_symm h

theorem otherSlot_ne (i : Fin 2) : otherSlot i ≠ i := by
  revert i
  decide

theorem eq_otherSlot {i j : Fin 2} (h : j ≠ i) : j = otherSlot i := by
  revert i j
  decide

/-! ## The acts -/

theorem FiguresSafe.kept {s t : State} (h : FiguresSafe s) (hs : t.slots = s.slots) (ha : t.allowances = s.allowances)
    (hc : t.config = s.config) (hg : t.gasTable = s.gasTable) (hheld : ∀ j : Fin 16, t.heads[j].slot = s.heads[j].slot) :
    FiguresSafe t := by
  refine ⟨hc ▸ h.config, hg ▸ h.gasTable, ?_⟩
  obtain ⟨hp, hall⟩ := (storeSafe_iff s).mp h.store
  refine (storeSafe_iff t).mpr ⟨by rw [hs]; exact hp, fun i => ?_⟩
  rw [hs, ha, cansOf_congr hheld]
  exact hall i

/-- One slot and its allowances are written, and its cans counted anew; the other slot stands. -/
theorem FiguresSafe.setSlot {s t : State} (h : FiguresSafe s) (i : Fin 2) (y : Slot) (a : Vector Nat 4)
    (hs : t.slots = s.slots.set i y) (ha : t.allowances = s.allowances.set i a) (hc : t.config = s.config)
    (hg : t.gasTable = s.gasTable) (hcans : ∀ j : Fin 2, j ≠ i → cansOf t j = cansOf s j) (hy : SlotSafe y a (cansOf t i))
    (hp : legalPair s.slots[i].state s.slots[otherSlot i].state → legalPair y.state s.slots[otherSlot i].state) : FiguresSafe t := by
  refine ⟨hc ▸ h.config, hg ▸ h.gasTable, ?_⟩
  obtain ⟨hpair, hall⟩ := (storeSafe_iff s).mp h.store
  have hother : t.slots[otherSlot i] = s.slots[otherSlot i] := by rw [hs, getFin_set, if_neg (Ne.symm (otherSlot_ne i))]
  have hself : t.slots[i] = y := by rw [hs, getFin_set, if_pos rfl]
  refine (storeSafe_iff t).mpr ⟨legalPair_of_at i (by rw [hother, hself]; exact hp (legalPair_at hpair i)), fun j => ?_⟩
  by_cases hj : j = i
  · subst hj
    rw [hself, ha, getFin_set, if_pos rfl]
    exact hy
  · rw [hs, ha, getFin_set, if_neg (Ne.symm hj), getFin_set, if_neg (Ne.symm hj), hcans j hj]
    exact hall j

theorem vector_set_self {α : Type} {n : Nat} (v : Vector α n) (i : Fin n) : v = v.set i v[i] := by
  ext k hk
  simp only [Fin.getElem_fin, Vector.getElem_set]
  split
  · rename_i hik
    subst hik
    rfl
  · rfl

theorem figuresSafe_created {s : State} (hs : FiguresSafe s) (h : Fin 16) (i : Fin 2) (hr : s.heads[h].record = none)
    (hact : activeSlot s = some i) : FiguresSafe (createRecord h i (s.admissionUsed h)) := by
  have hi : s.slots[i].state = .active := by simpa using List.find?_some hact
  obtain ⟨r, hrs, hheads⟩ := createRecord_heads h i (s.admissionUsed h)
  have hcount (j : Fin 2) := cansOf_set (s := s) hheads j
  have hnone : s.heads[h].slot = none := by rw [Head.slot, hr]; rfl
  have hsome : ({ s.heads[h] with record := some r, cycle := .seated } : Head).slot = some i := congrArg some hrs
  have hslot := ((storeSafe_iff s).mp hs.store).2 i
  refine hs.setSlot i { s.slots[i] with refs := s.slots[i].refs + 1 } s.allowances[i] (createRecord_slots h i _)
    ((createRecord_frame _ h i).2.2.2.2.2.1.trans (vector_set_self s.allowances i)) (createRecord_frame _ h i).2.2.2.2.2.2.2.1
    (createRecord_frame _ h i).2.2.2.2.1 (fun j hj => ?_) ?_ id
  · have hj' := hcount j
    rw [hnone, if_neg (by simp)] at hj'
    rw [show (s.admissionUsed h).heads[h] = s.heads[h] from rfl, hsome, if_neg fun e => hj (Option.some.inj e).symm] at hj'
    exact hj'
  · have hi' := hcount i
    rw [hnone, if_neg (by simp)] at hi'
    rw [show (s.admissionUsed h).heads[h] = s.heads[h] from rfl, hsome, if_pos rfl] at hi'
    rw [show cansOf (createRecord h i (s.admissionUsed h)) i = cansOf s i + 1 from hi']
    exact hslot.created hi

theorem figuresSafe_handOn {s : State} (hs : FiguresSafe s) (h : Fin 16) : FiguresSafe (handOn h s) := by
  cases hr : s.heads[h].record with
  | none =>
    rw [show handOn h s = s by simp only [handOn, hr]]
    exact hs
  | some r =>
    obtain ⟨hsl, hal, -, hheads, -⟩ := handed_frame h r s
    obtain ⟨-, -, -, -, htab, hcfg, -⟩ := handOn_frame s h
    have hto : (handOn h s).heads = s.heads.set h s.heads[h].vacated := by
      rw [handOn_handed hr, (dropReference_frame _ _).2.1, hheads]
    have hvacant : s.heads[h].vacated.slot = none := by
      unfold Head.vacated
      split <;> rfl
    have hheld : s.heads[h].slot = some r.slot := by rw [Head.slot, hr]; rfl
    have hcount (j : Fin 2) := cansOf_set hto j
    have hself := hcount r.slot
    rw [hvacant, hheld, if_pos rfl, if_neg (by simp)] at hself
    have hslot := ((storeSafe_iff s).mp hs.store).2 r.slot
    rw [show cansOf s r.slot = cansOf (handOn h s) r.slot + 1 from hself.symm] at hslot
    have hdropped := hslot.dropped
    have hothers (j : Fin 2) (hj : j ≠ r.slot) : cansOf (handOn h s) j = cansOf s j := by
      have hj' := hcount j
      rw [hvacant, hheld, if_neg fun e => hj (Option.some.inj e).symm, if_neg (by simp)] at hj'
      exact hj'
    have hdrop := dropReference_eq r.slot (s.handed h r)
    rw [← handOn_handed hr, hsl, hal] at hdrop
    split at hdropped
    · rename_i hret
      rw [if_pos hret] at hdrop
      refine hs.setSlot r.slot _ _ (by rw [hdrop]) (by rw [hdrop]; rfl) hcfg htab hothers hdropped fun hp => ?_
      rw [hret.1] at hp
      revert hp
      cases s.slots[otherSlot r.slot].state <;> simp [legalPair]
    · rename_i hret
      rw [if_neg hret] at hdrop
      refine hs.setSlot r.slot _ s.allowances[r.slot] (by rw [hdrop]) ?_ hcfg htab hothers hdropped id
      rw [hdrop]
      exact vector_set_self _ _

theorem figuresSafe_activated {s : State} (hs : FiguresSafe s) (i : Fin 2) (hi : pendingSlot s = some i) :
    FiguresSafe (slotsActivated i s) := by
  have hpend := state_of_pendingSlot hi
  obtain ⟨hpair, hall⟩ := (storeSafe_iff s).mp hs.store
  have hpair := legalPair_at hpair i
  rw [hpend] at hpair
  obtain ⟨r, hr⟩ : ∃ r, s.slots[i].recipe = some r := Option.ne_none_iff_exists'.mp fun hn =>
    nomatch hpend.symm.trans ((hall i).record.mp hn)
  have hv : initialAllowance (slotRecipe s i) ≤ 2000 := by
    rw [slotRecipe_of_some hr]
    exact (((hall i).recipe r hr).ranges 23).2
  have hact : slotsActivated i s = { s with
      slots := (s.slots.set (otherSlot i) s.slots[otherSlot i].retired).set i { s.slots[i] with state := .active }
      allowances := (if s.slots[otherSlot i].state = .active ∧ s.slots[otherSlot i].refs = 0 then
        s.allowances.set (otherSlot i) #v[0, 0, 0, 0] else s.allowances).set i (Vector.replicate 4 (initialAllowance (slotRecipe s i)))
      infeed := { s.infeed with withhold := { s.infeed.withhold with noRecipe := false } } } := by
    unfold slotsActivated
    rw [retireSlot_eq]
    simp only [State.modSlot, State.setSlotAllowances, State.modWithhold, getFin_set, if_neg (otherSlot_ne i)]
  rw [hact]
  refine ⟨hs.config, hs.gasTable, (storeSafe_iff _).mpr ⟨legalPair_of_at i ?_, fun j => ?_⟩⟩
  · simp only [getFin_set, if_pos, if_neg (Ne.symm (otherSlot_ne i))]
    unfold Slot.retired
    revert hpair
    split_ifs
    · intro _; simp [legalPair]
    · intro _; simp [legalPair]
    · rename_i hna
      revert hna
      cases s.slots[otherSlot i].state <;> simp [legalPair]
  · show SlotSafe _ _ (cansOf s j)
    by_cases hj : j = i
    · subst hj
      simp only [getFin_set, if_pos]
      exact (hall j).activated hpend hv
    · rw [eq_otherSlot hj]
      simp only [getFin_set, if_neg (Ne.symm (otherSlot_ne i)), if_pos]
      have hret := (hall (otherSlot i)).retired
      split_ifs at hret ⊢ with hfree
      · rw [getFin_set, if_pos rfl]
        exact hret
      · exact hret

theorem Act.figuresSafe {b : Bool} {s t : State} (ha : Act b s t) (hs : FiguresSafe s) : FiguresSafe t := by
  rcases ha.slots_held with hheld | ⟨h, i, rfl, hr, hact, -⟩ | ⟨h, rfl⟩
  · have hstand (he : t.slots = s.slots ∧ t.allowances = s.allowances ∧ t.config = s.config ∧ t.gasTable = s.gasTable) :
        FiguresSafe t := hs.kept he.1 he.2.1 he.2.2.1 he.2.2.2 hheld
    cases ha with
    | link | sensors | mask | cleared | tracker | cylinder | hold | supply | head | granted | infeed | gateRefused | gateAdmitted
    | verdicts => exact hstand ⟨rfl, rfl, rfl, rfl⟩
    | condition k => exact hstand (by simp)
    | locked => exact hstand (by unfold enterLocked; simp)
    | slipped => exact hstand (by simp)
    | source x => rw [selectSource_eq] at hstand ⊢; exact hstand (by simp [sourceSelected])
    | tested c y he => exact hstand (by simp)
    | decided h r y q =>
      refine hstand ?_
      show (s.unbound h r.seq).slots = _ ∧ (s.unbound h r.seq).allowances = _ ∧ (s.unbound h r.seq).config = _ ∧
        (s.unbound h r.seq).gasTable = _
      rw [← settleUnbound_eq]
      simp
    | discharged c k => exact hstand (by simp)
    | ended c k h y q =>
      refine hstand ?_
      show (endDischarge c k s).slots = _ ∧ (endDischarge c k s).allowances = _ ∧ (endDischarge c k s).config = _ ∧
        (endDischarge c k s).gasTable = _
      simp
    | noFlow c h y q =>
      refine hstand ?_
      show (s.flowFreed h c).slots = _ ∧ (s.flowFreed h c).allowances = _ ∧ (s.flowFreed h c).config = _ ∧
        (s.flowFreed h c).gasTable = _
      simp [State.flowFreed]
    | created h i hr hw hd hact hroom => exact figuresSafe_created hs h i hr hact
    | handedOn h => exact figuresSafe_handOn hs h
    | filled es z =>
      obtain ⟨-, -, -, -, htab, hal, -, hsl, hcfg⟩ := entries_frame es (s, z)
      exact hstand ⟨hsl, hal, hcfg, htab⟩
    | loaded i r hi hr =>
      have hst := loadSlot_state hi
      refine hs.setSlot i _ s.allowances[i] rfl (vector_set_self _ _) rfl rfl (fun _ _ => rfl)
        ((((storeSafe_iff s).mp hs.store).2 i).loaded hst (recipeSafe_of_check hr)) fun hp => ?_
      rcases hst with hx | hx
      · rw [hx] at hp
        exact hp
      · have hno : s.slots[otherSlot i].state ≠ .pending := fun hpend => by
          unfold loadSlot at hi
          split at hi
          · rename_i j hj
            obtain rfl := Option.some.inj hi
            exact nomatch hx.symm.trans (state_of_pendingSlot hj)
          · rename_i hnone
            exact absurd hpend (by simpa using List.find?_eq_none.mp hnone (otherSlot i) (List.mem_finRange _))
        rw [hx] at hp
        revert hp hno
        cases s.slots[otherSlot i].state <;> simp [legalPair]
    | activated i hi => exact figuresSafe_activated hs i hi
    | discarded i hi =>
      have hpend := state_of_pendingSlot hi
      have hslot := ((storeSafe_iff s).mp hs.store).2 i
      have hzero : cansOf s i = 0 := Nat.eq_zero_of_not_pos fun hpos => by
        rcases hslot.used hpos with hu | hu <;> exact nomatch hu.symm.trans hpend
      refine hs.setSlot i { s.slots[i] with state := .free, recipe := none } (Vector.replicate 4 0) rfl rfl rfl rfl (fun _ _ => rfl)
        ?_ fun hp => ?_
      · show SlotSafe _ _ (cansOf s i)
        rw [hzero]
        exact slotSafe_freed (hslot.refs.trans hzero) rfl rfl
      · rw [hpend] at hp
        revert hp
        cases s.slots[otherSlot i].state <;> simp [legalPair]
    | configured m vs hc => exact ⟨configSafe_of_check hc hs.config, hs.gasTable, { hs.store with }⟩
    | gasTable ps hl hc => exact ⟨hs.config, gasTableSafe_of_check hl hc, { hs.store with }⟩
    | allowance i c v hv hi =>
      refine ⟨hs.config, hs.gasTable, { hs.store with allowance := fun j d => ?_, free := fun j d hf => ?_ }⟩
      · show (s.allowances.set i (s.allowances[i].set c v))[j][d] ≤ 2000
        rw [getFin_set]
        split
        · rename_i hj
          rw [getFin_set]
          split
          · exact hv
          · exact hs.store.allowance i d
        · exact hs.store.allowance j d
      · show (s.allowances.set i (s.allowances[i].set c v))[j][d] = 0
        rw [getFin_set]
        split
        · rename_i hj
          subst hj
          rcases hi with hi | hi <;> exact nomatch hi.symm.trans hf
        · exact hs.store.free j d hf
  · exact figuresSafe_created hs h i hr hact
  · exact figuresSafe_handOn hs h

/-! ## The resets -/

theorem cansOf_empty {s : State} (h : ∀ j : Fin 16, s.heads[j].slot = none) (i : Fin 2) : cansOf s i = 0 := by
  refine Nat.eq_zero_of_not_pos fun hpos => ?_
  obtain ⟨j, hj⟩ := (cansOf_pos s i).mp hpos
  exact nomatch (h j).symm.trans hj

theorem restartAllowance_free {x : Slot} (h : x.restarted.recipe = none) : restartAllowance x = 0 := by
  unfold restartAllowance
  rw [h]

theorem slotSafe_restarted {x : Slot} {a : Vector Nat 4} {n : Nat} (h : SlotSafe x a n) :
    SlotSafe x.restarted (Vector.replicate 4 (restartAllowance x)) 0 := by
  have hrec : x.restarted.recipe = none ↔ x.restarted.state = .free := by
    unfold Slot.restarted
    split
    · exact iff_of_true rfl rfl
    · exact h.record
  have hsafe (r : Recipe) (hr : x.restarted.recipe = some r) : RecipeSafe r := by
    unfold Slot.restarted at hr
    split at hr
    · exact nomatch hr
    · exact h.recipe r hr
  refine ⟨hrec, hsafe, fun c => ?_, fun c hf => ?_, ?_, fun hn => absurd hn (Nat.lt_irrefl 0), fun hret => ?_⟩
  · simp only [Fin.getElem_fin, Vector.getElem_replicate]
    cases hr : x.restarted.recipe with
    | none => rw [restartAllowance_free hr]; exact Nat.zero_le _
    | some r =>
      rw [show restartAllowance x = initialAllowance r by unfold restartAllowance; rw [hr]]
      exact ((hsafe r hr).ranges 23).2
  · simp only [Fin.getElem_fin, Vector.getElem_replicate]
    exact restartAllowance_free (hrec.mpr hf)
  · unfold Slot.restarted
    split <;> rfl
  · unfold Slot.restarted at hret
    split at hret
    · exact nomatch hret
    · exact absurd hret ‹_›

theorem figuresSafe_restart {s : State} (hs : FiguresSafe s) : FiguresSafe (performRestart s) := by
  rw [performRestart_eq]
  obtain ⟨hpair, hall⟩ := (storeSafe_iff s).mp hs.store
  refine ⟨hs.config, hs.gasTable, (storeSafe_iff _).mpr ⟨?_, fun i => ?_⟩⟩
  · show legalPair (s.slots.map Slot.restarted)[0].state (s.slots.map Slot.restarted)[1].state
    simp only [Vector.getElem_map]
    revert hpair
    unfold Slot.restarted
    split_ifs with h0 h1 h1
    · rw [h0, h1]; simp [legalPair]
    · rw [h0]; cases s.slots[1].state <;> simp [legalPair]
    · rw [h1]; cases s.slots[0].state <;> simp [legalPair]
    · exact id
  · have hzero := cansOf_empty (s := { restartStore (restartBlocks s) with
      cylinders := s.cylinders.map fun x =>
        x.restarted.refilledIdle (refillCondition (restartStore (restartBlocks s))) s.config }) (fun j => ?_) i
    · rw [hzero]
      show SlotSafe (s.slots.map Slot.restarted)[i] (Vector.ofFn fun i => Vector.replicate 4 (restartAllowance s.slots[i]))[i] 0
      simp only [Fin.getElem_fin, Vector.getElem_map, Vector.getElem_ofFn]
      exact slotSafe_restarted (hall i)
    · show (Vector.replicate 16 Head.atReset)[j].slot = none
      simp only [Fin.getElem_fin, Vector.getElem_replicate]
      rfl

/-- Settles O17, act by act. -/
theorem figuresStayLegal : Obligations.FiguresStayLegal := by
  refine fun s t h e => step_keeps (P := FiguresSafe) (fun _ _ ha hs => ha.figuresSafe hs) (fun x y s t e => ?_)
    (fun _ hs => figuresSafe_restart hs) (fun _ _ hs => ⟨hs.config, hs.gasTable, { hs.store with }⟩) h e
  injection e with e; subst e
  exact ⟨configSafe_defaults, gasTableSafe_defaults, { storeSafe_reset with }⟩

end Sys2Proof.Machine
end

section
/-! PROOF. Heads and cylinders stay paired, inlets follow pairings, and the grant queue holds the WAITING heads (spec/02 R31, R44,
spec/05 R94, R100). -/

namespace Sys2Proof.Machine

/-! ## The law as one of each head and one of the pairs -/

/-- The pairing law: each head in shape, each pairing a discharge of that head, each discharge a pairing. -/
structure Linked (s : State) : Prop where
  fits  : ∀ h : Fin 16, HeadFits s h
  owner : ∀ (h : Fin 16) (c : Fin 4), s.heads[h].paired = some c →
    s.cylinders[c].state = .discharging ∧ s.cylinders[c].owner = some h
  held  : ∀ c : Fin 4, s.cylinders[c].state = .discharging →
    ∃ h : Fin 16, s.cylinders[c].owner = some h ∧ s.heads[h].paired = some c ∧ s.cylinders[c].shot.isSome = true

theorem PairingSafe.fits {s : State} (hs : PairingSafe s) (h : Fin 16) : HeadFits s h where
  shape := {
    charging := fun hc => by
      obtain ⟨c, hp, -⟩ := hs.charging h hc
      exact ⟨c, hp⟩
    paired := hs.paired h
    inlets := hs.inlets h
    empty := hs.empty h
    probing := hs.probing h
    probeValve := hs.probeValve h
    asks := hs.asks h
    result := hs.result h
    early := hs.early h }
  queued := hs.waiting h

theorem pairingSafe_iff (s : State) : PairingSafe s ↔ Linked s := by
  constructor
  · intro hs
    refine ⟨hs.fits, fun h c hp => ?_, hs.discharging⟩
    obtain ⟨d, hd, hst, ho⟩ := hs.charging h (hs.paired h c hp)
    obtain rfl : d = c := Option.some.inj (hd.symm.trans hp)
    exact ⟨hst, ho⟩
  · intro hs
    have hshape (h : Fin 16) := (hs.fits h).shape
    refine ⟨fun h hc => ?_, fun h => (hshape h).paired, hs.held, fun h => (hshape h).inlets, fun h => (hshape h).empty,
      fun h => (hshape h).probing, fun h => (hshape h).probeValve, fun h => (hs.fits h).queued, fun h => (hshape h).asks,
      fun h => (hshape h).result, fun h => (hshape h).early⟩
    obtain ⟨c, hp⟩ := (hshape h).charging hc
    exact ⟨c, hp, hs.owner h c hp⟩

/-! ## One head written -/

/-- The grant queue after a write names the other heads as it did. -/
theorem fits_set {s t : State} {h : Fin 16} {y : Head} (hs : ∀ j : Fin 16, j ≠ h → HeadFits s j) (ht : t.heads = s.heads.set h y)
    (hy : HeadShape y) (hq : h ∈ t.grantQueue ↔ y.cycle = .waiting)
    (hother : ∀ j : Fin 16, j ≠ h → (j ∈ t.grantQueue ↔ j ∈ s.grantQueue)) (j : Fin 16) : HeadFits t j := by
  by_cases hj : j = h
  · subst hj
    have hself : t.heads[j] = y := by rw [ht, getFin_set, if_pos rfl]
    exact ⟨hself ▸ hy, hself ▸ hq⟩
  · have hself : t.heads[j] = s.heads[j] := by rw [ht, getFin_set, if_neg (Ne.symm hj)]
    refine ⟨hself ▸ (hs j hj).shape, ?_⟩
    rw [hself, hother j hj]
    exact (hs j hj).queued

theorem HeadEdit.fits {s t : State} {h : Fin 16} {y : Head} {q : List (Fin 16)} (he : HeadEdit s h y q)
    (hs : ∀ j : Fin 16, HeadFits s j) (ht : t.heads = s.heads.set h y) (hq : t.grantQueue = q) (j : Fin 16) : HeadFits t j :=
  fits_set (fun j _ => hs j) ht (he.shape (hs h)) (hq ▸ he.queued (hs h)) (fun j hj => hq ▸ he.others j hj) j

theorem fits_of_eq {s t : State} (hs : ∀ j : Fin 16, HeadFits s j) (hh : t.heads = s.heads) (hq : t.grantQueue = s.grantQueue)
    (j : Fin 16) : HeadFits t j := by
  refine ⟨?_, ?_⟩
  · rw [hh]; exact (hs j).shape
  · rw [hh, hq]; exact (hs j).queued

/-! ## The pairs -/

/-- Pairings and discharges as they stood. -/
theorem Linked.still {s t : State} (hs : Linked s) (hf : ∀ j : Fin 16, HeadFits t j)
    (hp : ∀ j : Fin 16, t.heads[j].paired = s.heads[j].paired)
    (hst : ∀ c : Fin 4, t.cylinders[c].state = .discharging ↔ s.cylinders[c].state = .discharging)
    (ho : ∀ c : Fin 4, s.cylinders[c].state = .discharging →
      t.cylinders[c].owner = s.cylinders[c].owner ∧ t.cylinders[c].shot.isSome = s.cylinders[c].shot.isSome) : Linked t where
  fits := hf
  owner h c hc := by
    rw [hp] at hc
    obtain ⟨hd, how⟩ := hs.owner h c hc
    exact ⟨(hst c).mpr hd, (ho c hd).1.trans how⟩
  held c hc := by
    have hd := (hst c).mp hc
    obtain ⟨h, how, hpair, hshot⟩ := hs.held c hd
    exact ⟨h, (ho c hd).1.trans how, (hp h).trans hpair, (ho c hd).2.trans hshot⟩

theorem Linked.of_eq {s t : State} (hs : Linked s) (hh : t.heads = s.heads) (hq : t.grantQueue = s.grantQueue)
    (hc : t.cylinders = s.cylinders) : Linked t :=
  hs.still (fits_of_eq hs.fits hh hq) (fun j => by rw [hh]) (fun c => by rw [hc]) fun c _ => by rw [hc]; exact ⟨rfl, rfl⟩

/-- One pairing is ended: the head unpaired, the cylinder no longer DISCHARGING. -/
theorem Linked.unpair {s t : State} (hs : Linked s) (hf : ∀ j : Fin 16, HeadFits t j) {h : Fin 16} {c : Fin 4}
    (hhc : s.heads[h].paired = some c) (hh : t.heads[h].paired = none)
    (hp : ∀ j : Fin 16, j ≠ h → t.heads[j].paired = s.heads[j].paired) (hcyl : t.cylinders[c].state ≠ .discharging)
    (hst : ∀ d : Fin 4, d ≠ c → t.cylinders[d] = s.cylinders[d]) : Linked t where
  fits := hf
  owner j d hd := by
    have hj : j ≠ h := by
      rintro rfl
      exact nomatch hh.symm.trans hd
    rw [hp j hj] at hd
    obtain ⟨hdis, how⟩ := hs.owner j d hd
    have hdc : d ≠ c := by
      rintro rfl
      exact hj (Option.some.inj (how.symm.trans (hs.owner h d hhc).2))
    rw [hst d hdc]
    exact ⟨hdis, how⟩
  held d hd := by
    have hdc : d ≠ c := by
      rintro rfl
      exact hcyl hd
    rw [hst d hdc] at hd ⊢
    obtain ⟨j, how, hpair, hshot⟩ := hs.held d hd
    have hj : j ≠ h := by
      rintro rfl
      exact hdc (Option.some.inj (hpair.symm.trans hhc))
    exact ⟨j, how, (hp j hj).trans hpair, hshot⟩

/-- A head not yet paired is paired with a cylinder that was not DISCHARGING. -/
theorem Linked.pair {s t : State} (hs : Linked s) (hf : ∀ j : Fin 16, HeadFits t j) {h : Fin 16} {c : Fin 4}
    (hnone : s.heads[h].paired = none) (hc : s.cylinders[c].state ≠ .discharging) (hh : t.heads[h].paired = some c)
    (hp : ∀ j : Fin 16, j ≠ h → t.heads[j].paired = s.heads[j].paired)
    (hcyl : t.cylinders[c].state = .discharging ∧ t.cylinders[c].owner = some h ∧ t.cylinders[c].shot.isSome = true)
    (hst : ∀ d : Fin 4, d ≠ c → t.cylinders[d] = s.cylinders[d]) : Linked t where
  fits := hf
  owner j d hd := by
    by_cases hj : j = h
    · subst hj
      obtain rfl : c = d := Option.some.inj (hh.symm.trans hd)
      exact ⟨hcyl.1, hcyl.2.1⟩
    · rw [hp j hj] at hd
      obtain ⟨hdis, how⟩ := hs.owner j d hd
      have hdc : d ≠ c := by
        rintro rfl
        exact hc hdis
      rw [hst d hdc]
      exact ⟨hdis, how⟩
  held d hd := by
    by_cases hdc : d = c
    · subst hdc
      exact ⟨h, hcyl.2.1, hh, hcyl.2.2⟩
    · rw [hst d hdc] at hd ⊢
      obtain ⟨j, how, hpair, hshot⟩ := hs.held d hd
      have hj : j ≠ h := by
        rintro rfl
        exact nomatch hnone.symm.trans hpair
      exact ⟨j, how, (hp j hj).trans hpair, hshot⟩

theorem paired_set {s t : State} {h : Fin 16} {y : Head} (ht : t.heads = s.heads.set h y)
    (hy : y.paired = s.heads[h].paired) (j : Fin 16) : t.heads[j].paired = s.heads[j].paired := by
  rw [ht, getFin_set]
  split
  · rename_i hj
    rw [← hj, hy]
  · rfl

theorem head_set_self {s t : State} {h : Fin 16} {y : Head} (ht : t.heads = s.heads.set h y) : t.heads[h] = y := by
  rw [ht, getFin_set, if_pos rfl]

theorem head_set_other {s t : State} {h : Fin 16} {y : Head} (ht : t.heads = s.heads.set h y) (j : Fin 16) (hj : j ≠ h) :
    t.heads[j] = s.heads[j] := by
  rw [ht, getFin_set, if_neg (Ne.symm hj)]

/-! ## Heads to which entries are bound -/

/-- A head whose can differs in its binding alone. -/
structure Head.Bound (x y : Head) : Prop where
  items  : y = { x with record := y.record }
  empty  : x.record = none → y.record = none
  record : ∀ r : CanRecord, x.record = some r → ∃ r' : CanRecord, y.record = some r' ∧
    r' = { r with tag := r'.tag, fillMass := r'.fillMass, boundLost := r'.boundLost }

theorem Head.Bound.refl (x : Head) : x.Bound x := ⟨rfl, id, fun r hr => ⟨r, hr, rfl⟩⟩

theorem Head.Bound.trans {x y z : Head} (h : x.Bound y) (k : y.Bound z) : x.Bound z where
  items := by
    have hk := k.items
    rw [h.items] at hk
    exact hk
  empty hr := k.empty (h.empty hr)
  record r hr := by
    obtain ⟨r', hr', he⟩ := h.record r hr
    obtain ⟨r'', hr'', he'⟩ := k.record r' hr'
    refine ⟨r'', hr'', he'.trans ?_⟩
    rw [he]

theorem bind_binding (r : CanRecord) (e : FillEntry) :
    r.bind e = { r with tag := (r.bind e).tag, fillMass := (r.bind e).fillMass, boundLost := (r.bind e).boundLost } := by
  unfold CanRecord.bind
  split <;> rfl

theorem bound_boundHead (a : AwaitEntry) (e : FillEntry) (x : Head) : x.Bound (boundHead a e x) := by
  rw [boundHead_eq]
  refine ⟨rfl, fun hr => ?_, fun r hr => ?_⟩
  · show x.record.map _ = none
    rw [hr]
    rfl
  · refine ⟨if r.seq = a.seq then r.bind e else r, by show x.record.map _ = _; rw [hr]; rfl, ?_⟩
    split
    · exact bind_binding r e
    · rfl

theorem entries_bound (es : List FillEntry) (x : State × FillTally) (j : Fin 16) :
    x.1.heads[j].Bound (es.foldl applyEntry x).1.heads[j] := by
  induction es generalizing x with
  | nil => exact .refl _
  | cons e es ih =>
    refine Head.Bound.trans ?_ (ih (applyEntry x e))
    rcases applyEntry_heads x e with h | ⟨a, rest, -, h⟩
    · rw [h]
      exact .refl _
    · rw [h, getFin_set]
      split
      · rename_i hj
        subst hj
        exact bound_boundHead a e _
      · exact .refl _

theorem Head.Bound.cycle {x y : Head} (h : x.Bound y) : y.cycle = x.cycle := by rw [h.items]

theorem Head.Bound.paired {x y : Head} (h : x.Bound y) : y.paired = x.paired := by rw [h.items]

theorem HeadShape.bound {x y : Head} (hx : HeadShape x) (h : x.Bound y) : HeadShape y := by
  have hnone : y.record = none ↔ x.record = none := by
    refine ⟨fun hy => ?_, h.empty⟩
    cases hr : x.record with
    | none => rfl
    | some r =>
      obtain ⟨r', hr', -⟩ := h.record r hr
      exact nomatch hy.symm.trans hr'
  rw [h.items]
  refine { hx with empty := hnone.trans hx.empty, asks := fun hc => ?_ }
  obtain ⟨⟨r, t, hr, ht⟩, hrest⟩ := hx.asks hc
  obtain ⟨r', hr', he⟩ := h.record r hr
  refine ⟨⟨r', t, hr', ?_⟩, hrest⟩
  rw [he]
  exact ht

/-! ## A new can and a hand-on -/

theorem HeadShape.created {x : Head} (hx : HeadShape x) (hr : x.record = none) (hw : x.window = .notOpen) (hd : x.decided = false)
    (r : CanRecord) : HeadShape { x with record := some r, cycle := .seated } := by
  have hc := hx.empty.mp hr
  obtain ⟨hp, hin⟩ := hx.unpaired (by rw [hc]; decide)
  exact { hx with
    charging := fun h => nomatch h
    paired := fun c h => nomatch hp.symm.trans h
    empty := ⟨fun h => (nomatch h), fun h => (nomatch h)⟩
    probing := ⟨fun _ => Cycle.noConfusion, fun _ => hx.idle_of (by rw [hc]; decide)⟩
    asks := fun h => by rcases h with h | h <;> exact nomatch h
    result := fun h => by
      rcases (hx.result h).1 with h | h | h <;> exact nomatch hc.symm.trans h
    early := fun _ => ⟨hd, fun h => nomatch hw.symm.trans h⟩ }

theorem HeadShape.vacated {x : Head} (hx : HeadShape x) (hw : x.window = .closed) (hp : x.pendingResult = none) :
    HeadShape x.vacated := by
  have hcharge : x.cycle ≠ .charging := fun hc => nomatch hw.symm.trans (hx.asks (.inr hc)).2.1
  have hprobe : x.cycle ≠ .probing := fun hc => (hx.early (.inr (.inr (.inl hc)))).2 hw
  obtain ⟨hpair, hin⟩ := hx.unpaired hcharge
  have hempty : HeadShape { x with record := none, cycle := .empty, headDown := false } :=
    { hx with
      charging := fun h => nomatch h
      paired := fun c h => nomatch hpair.symm.trans h
      empty := ⟨fun _ => rfl, fun _ => rfl⟩
      probing := ⟨fun _ => Cycle.noConfusion, fun _ => hx.idle_of hprobe⟩
      asks := fun h => by rcases h with h | h <;> exact nomatch h
      result := fun h => absurd hp h
      early := fun h => by rcases h with h | h | h | h <;> exact nomatch h }
  unfold Head.vacated
  split
  · exact { hempty with }
  · exact hempty

theorem vacated_cycle (x : Head) : x.vacated.cycle = .empty := by
  unfold Head.vacated
  split <;> rfl

theorem vacated_paired (x : Head) : x.vacated.paired = x.paired := by
  unfold Head.vacated
  split <;> rfl

theorem linked_created {s : State} (hs : Linked s) (h : Fin 16) (i : Fin 2) (hr : s.heads[h].record = none)
    (hw : s.heads[h].window = .notOpen) (hd : s.heads[h].decided = false) : Linked (createRecord h i (s.admissionUsed h)) := by
  obtain ⟨r, -, hheads⟩ := createRecord_heads h i (s.admissionUsed h)
  obtain ⟨-, hcyl, hq, -⟩ := createRecord_frame (s.admissionUsed h) h i
  have hfit := hs.fits h
  refine hs.still (fits_set (fun j _ => hs.fits j) hheads (hfit.shape.created hr hw hd r) ?_ fun j _ => by rw [hq]; rfl)
    (paired_set hheads rfl) (fun c => by rw [hcyl]; rfl) fun c _ => by rw [hcyl]; exact ⟨rfl, rfl⟩
  rw [hq, show (s.admissionUsed h).grantQueue = s.grantQueue from rfl, hfit.queued, hfit.shape.empty.mp hr]
  exact ⟨fun h => (nomatch h), fun h => (nomatch h)⟩

theorem linked_handedOn {s : State} (hs : Linked s) (h : Fin 16) (hw : s.heads[h].window = .closed)
    (hp : s.heads[h].pendingResult = none) : Linked (handOn h s) := by
  cases hr : s.heads[h].record with
  | none =>
    rw [show handOn h s = s by simp only [handOn, hr]]
    exact hs
  | some r =>
    obtain ⟨-, -, -, hheads, -⟩ := handed_frame h r s
    obtain ⟨-, hcyl, hq, -⟩ := handOn_frame s h
    have hto : (handOn h s).heads = s.heads.set h s.heads[h].vacated := by
      rw [handOn_handed hr, (dropReference_frame _ _).2.1, hheads]
    have hfit := hs.fits h
    refine hs.still (fits_set (fun j _ => hs.fits j) hto (hfit.shape.vacated hw hp) ?_ fun j _ => by rw [hq])
      (paired_set hto (vacated_paired _)) (fun c => by rw [hcyl]) fun c _ => by rw [hcyl]; exact ⟨rfl, rfl⟩
    rw [hq, hfit.queued, vacated_cycle]
    refine iff_of_false (fun hc => ?_) Cycle.noConfusion
    exact nomatch hw.symm.trans (hfit.shape.asks (.inl hc)).2.1

/-! ## The end of a discharge -/

theorem endDischarge_none {c : Fin 4} {k : EndCause} {s : State} (hc : s.cylinders[c].state ≠ .discharging) :
    endDischarge c k s = s := if_neg hc

/-- A DISCHARGING cylinder's owner is discharged, and it alone. -/
theorem Linked.endDischarge_owner {s : State} (hs : Linked s) {c : Fin 4} (k : EndCause) (hc : s.cylinders[c].state = .discharging) :
    ∃ h : Fin 16, s.cylinders[c].owner = some h ∧ s.heads[h].paired = some c ∧
      (endDischarge c k s).heads = s.heads.set h (s.heads[h].discharged c) := by
  obtain ⟨h, ho, hp, -⟩ := hs.held c hc
  refine ⟨h, ho, hp, ?_⟩
  ext j hj
  have hget := endDischarge_heads c k s ⟨j, hj⟩
  have hset := getFin_set s.heads h (s.heads[h].discharged c) ⟨j, hj⟩
  refine hget.trans (Eq.trans ?_ hset.symm)
  by_cases hjh : h = ⟨j, hj⟩
  · subst hjh
    rw [if_pos ⟨hc, ho⟩, if_pos rfl]
  · rw [if_neg hjh, if_neg fun e => hjh (Option.some.inj (ho.symm.trans e.2))]

theorem endDischarge_cylinder (c : Fin 4) (k : EndCause) (s : State) :
    (endDischarge c k s).cylinders[c].state ≠ .discharging := by
  rw [endDischarge_cylinders]
  split
  · simp [Cylinder.discharged, Cylinder.enter]
  · rename_i h
    exact fun hd => h ⟨rfl, hd⟩

theorem endDischarge_otherCylinder (c : Fin 4) (k : EndCause) (s : State) (d : Fin 4) (hd : d ≠ c) :
    (endDischarge c k s).cylinders[d] = s.cylinders[d] := by
  rw [endDischarge_cylinders, if_neg fun h => hd h.1.symm]

theorem linked_discharged {s : State} (hs : Linked s) (c : Fin 4) (k : EndCause) : Linked (endDischarge c k s) := by
  by_cases hc : s.cylinders[c].state = .discharging
  · obtain ⟨h, -, hp, hheads⟩ := hs.endDischarge_owner k hc
    have hfit := hs.fits h
    have hq : (endDischarge c k s).grantQueue = s.grantQueue := (endDischarge_frame _ _ _).2.2.1
    refine hs.unpair (fits_set (fun j _ => hs.fits j) hheads (hfit.shape.discharged hp) ?_ fun j _ => by rw [hq]) hp
      (by rw [head_set_self hheads]; rfl) (fun j hj => by rw [head_set_other hheads j hj]) (endDischarge_cylinder c k s)
      (endDischarge_otherCylinder c k s)
    rw [hq, hfit.queued, hfit.shape.paired c hp]
    exact ⟨fun h => (nomatch h), fun h => (nomatch h)⟩
  · rw [endDischarge_none hc]
    exact hs

theorem linked_ended {s : State} (hs : Linked s) {c : Fin 4} (k : EndCause) {h : Fin 16} {y : Head} {q : List (Fin 16)}
    (hp : s.heads[h].paired = some c) (he : HeadEdit s h y q) (hy : y.paired = none) :
    Linked ((endDischarge c k s).withHead h y q) := by
  obtain ⟨hc, ho⟩ := hs.owner h c hp
  obtain ⟨j, ho', -, hheads⟩ := hs.endDischarge_owner k hc
  obtain rfl : h = j := Option.some.inj (ho.symm.trans ho')
  have hto : ((endDischarge c k s).withHead h y q).heads = s.heads.set h y := by
    show (endDischarge c k s).heads.set h y = _
    rw [hheads]
    simp
  exact hs.unpair (he.fits hs.fits hto rfl) hp (by rw [head_set_self hto]; exact hy)
    (fun j hj => by rw [head_set_other hto j hj]) (endDischarge_cylinder c k s) (endDischarge_otherCylinder c k s)

theorem readyOrDisabled_state (c : Fin 4) (s : State) : (readyOrDisabled c s).cylinders[c].state ≠ .discharging := by
  have hready (f : Cylinder → Cylinder) (hf : (f s.cylinders[c]).state ≠ .discharging) :
      (s.modCyl c f).cylinders[c].state ≠ .discharging := by
    rw [State.modCyl_self]
    exact hf
  unfold readyOrDisabled
  split
  · refine (congrArg (fun v : Vector Cylinder 4 => v[c].state ≠ .discharging) (completeDisable_cylinders c s)).mpr ?_
    exact hready _ CylState.noConfusion
  · exact hready _ CylState.noConfusion

theorem readyOrDisabled_other (c d : Fin 4) (s : State) (hd : d ≠ c) : (readyOrDisabled c s).cylinders[d] = s.cylinders[d] := by
  unfold readyOrDisabled
  split
  · exact (congrArg (fun v : Vector Cylinder 4 => v[d]) (completeDisable_cylinders c s)).trans (State.modCyl_other s _ (Ne.symm hd))
  · exact State.modCyl_other s _ (Ne.symm hd)

theorem flowFreed_cylinder (h : Fin 16) (c : Fin 4) (s : State) : (s.flowFreed h c).cylinders[c].state ≠ .discharging :=
  readyOrDisabled_state c _

theorem flowFreed_otherCylinder (h : Fin 16) (c d : Fin 4) (s : State) (hd : d ≠ c) :
    (s.flowFreed h c).cylinders[d] = s.cylinders[d] :=
  (readyOrDisabled_other c d _ hd).trans (State.modCyl_other _ _ (Ne.symm hd))

theorem linked_noFlow {s : State} (hs : Linked s) {c : Fin 4} {h : Fin 16} {y : Head} {q : List (Fin 16)}
    (he : HeadEdit s h y q) (hp : s.heads[h].paired = some c) (hy : y.paired = none) :
    Linked ((s.flowFreed h c).withHead h y q) := by
  have hto : ((s.flowFreed h c).withHead h y q).heads = s.heads.set h y := by
    show (s.flowFreed h c).heads.set h y = _
    rw [flowFreed_heads]
    simp
  exact hs.unpair (he.fits hs.fits hto rfl) hp (by rw [head_set_self hto]; exact hy)
    (fun j hj => by rw [head_set_other hto j hj]) (flowFreed_cylinder h c s) (flowFreed_otherCylinder h c · s)

/-! ## The acts -/

theorem linked_cylinder {s t : State} (hs : Linked s) {c : Fin 4} {y : Cylinder} (he : CylinderEdit s.cylinders[c] y)
    (hh : t.heads = s.heads) (hq : t.grantQueue = s.grantQueue) (hc : t.cylinders = (s.modCyl c fun _ => y).cylinders) : Linked t := by
  have hcyl (d : Fin 4) : t.cylinders[d] = if c = d then y else s.cylinders[d] :=
    (congrArg (fun v : Vector Cylinder 4 => v[d]) hc).trans (State.modCyl_get ..)
  refine hs.still (fits_of_eq hs.fits hh hq) (fun j => by rw [hh]) (fun d => ?_) fun d hd => ?_
  · rw [hcyl]
    split
    · rename_i hcd
      rw [← hcd]
      exact he.discharging
    · exact Iff.rfl
  · rw [hcyl]
    split
    · rename_i hcd
      subst hcd
      exact he.owner hd
    · exact ⟨rfl, rfl⟩

theorem Act.linked {b : Bool} {s t : State} (ha : Act b s t) (hs : Linked s) : Linked t := by
  cases ha with
  | link | sensors | mask | cleared | tracker | hold | supply | infeed | gateRefused | gateAdmitted
  | verdicts | loaded | discarded | configured | gasTable | allowance => exact hs.of_eq rfl rfl rfl
  | condition k => exact hs.of_eq (by simp) (by simp) (by simp)
  | locked => exact hs.of_eq (by unfold enterLocked; simp) (by unfold enterLocked; simp) (by unfold enterLocked; simp)
  | slipped => exact hs.of_eq (by simp) (by simp) (by simp)
  | source x =>
    rw [selectSource_eq]
    exact hs.of_eq (by simp [sourceSelected]) (by simp [sourceSelected]) (by simp [sourceSelected])
  | cylinder c y he ho => exact linked_cylinder hs he rfl rfl rfl
  | tested c y he => exact linked_cylinder hs he (allOutTest_frame _).2.1 (allOutTest_frame _).2.2.2.1 (allOutTest_frame _).2.2.1
  | head h y q he hp hd =>
    have hto : (s.withHead h y q).heads = s.heads.set h y := rfl
    exact hs.still (he.fits hs.fits hto rfl) (paired_set hto hp) (fun _ => Iff.rfl) fun _ _ => ⟨rfl, rfl⟩
  | decided h r y q he hp =>
    have hto : ((s.unbound h r.seq).withHead h y q).heads = s.heads.set h y := by
      show (s.unbound h r.seq).heads.set h y = _
      rw [unbound_heads]
    have hcyl : ((s.unbound h r.seq).withHead h y q).cylinders = s.cylinders := by
      show (s.unbound h r.seq).cylinders = _
      rw [← settleUnbound_eq, (settleUnbound_frame s h r.seq).2.2.1]
    exact hs.still (he.fits hs.fits hto rfl) (paired_set hto hp) (fun c => by rw [hcyl]) fun c _ => by rw [hcyl]; exact ⟨rfl, rfl⟩
  | discharged c k => exact linked_discharged hs c k
  | ended c k h y q hp hcan hd he =>
    obtain ⟨hc, ho⟩ := hs.owner h c hp
    exact linked_ended hs k hp (he hc ho).1 (he hc ho).2
  | noFlow c h y q he hp hc hy => exact linked_noFlow hs he hp hy
  | granted c h z y q he hc hm hy =>
    have hwait := (hs.fits h).queued.mp hm
    have hto : ((s.modCyl c fun x => { x.enter .discharging with owner := some h, shot := some z }).withHead h y q).heads =
        s.heads.set h y := rfl
    have hcyl (d : Fin 4) : ((s.modCyl c fun x => { x.enter .discharging with owner := some h, shot := some z }).withHead h y
        q).cylinders[d] = if c = d then { s.cylinders[c].enter .discharging with owner := some h, shot := some z }
        else s.cylinders[d] :=
      State.modCyl_get s c d fun x => { x.enter .discharging with owner := some h, shot := some z }
    refine hs.pair (he.fits hs.fits hto rfl) ((hs.fits h).shape.unpaired (by rw [hwait]; decide)).1 (by rw [hc]; decide)
      (by rw [head_set_self hto]; exact hy) (fun j hj => by rw [head_set_other hto j hj]) ?_ fun d hd => ?_
    · rw [hcyl, if_pos rfl]
      exact ⟨rfl, rfl, rfl⟩
    · rw [hcyl, if_neg (Ne.symm hd)]
  | created h i hr hw hd => exact linked_created hs h i hr hw hd
  | handedOn h hw hp => exact linked_handedOn hs h hw hp
  | filled es z =>
    obtain ⟨-, hcyl, hq, -⟩ := entries_frame es (s, z)
    have hb := entries_bound es (s, z)
    have hcyc (j : Fin 16) : (es.foldl applyEntry (s, z)).1.heads[j].cycle = s.heads[j].cycle := (hb j).cycle
    refine hs.still (fun j => ⟨(hs.fits j).shape.bound (hb j), ?_⟩) (fun j => (hb j).paired)
      (fun c => by rw [hcyl]) fun c _ => by rw [hcyl]; exact ⟨rfl, rfl⟩
    rw [hq, hcyc]
    exact (hs.fits j).queued
  | activated i =>
    refine hs.of_eq ?_ ?_ ?_
    all_goals
      unfold slotsActivated
      rw [retireSlot_eq]
      rfl

/-! ## The resets -/

theorem restarted_rest (x : Cylinder) (v : Bool) (cfg : MachineConfig) : (x.restarted.refilledIdle v cfg).state ≠ .discharging := by
  unfold Cylinder.refilledIdle
  split
  · exact CylState.noConfusion
  · exact CylState.noConfusion

theorem linked_reset {s : State} (hh : s.heads = Vector.replicate 16 Head.atReset) (hq : s.grantQueue = [])
    (hc : ∀ c : Fin 4, s.cylinders[c].state ≠ .discharging) : Linked s := by
  refine Linked.still (s := State.reset) ((pairingSafe_iff _).mp pairingSafe_reset) (fun j => ?_) (fun j => ?_) (fun c => ?_)
    fun c hd => ?_
  · exact fits_of_eq ((pairingSafe_iff _).mp pairingSafe_reset).fits hh hq j
  · rw [hh]
    rfl
  · refine iff_of_false (hc c) ?_
    simp [State.reset, Cylinder.atReset]
  · exact absurd hd (by simp [State.reset, Cylinder.atReset])

/-- Settles O19, act by act. -/
theorem headsAndCylindersStayPaired : Obligations.HeadsAndCylindersStayPaired := by
  intro s t h e
  refine (pairingSafe_iff t).mpr (step_keeps (P := Linked) (fun _ _ ha hs => ha.linked hs) (fun x y s t e => ?_) (fun s _ => ?_)
    (fun _ _ hs => hs.of_eq rfl rfl rfl) ((pairingSafe_iff s).mp h) e)
  · injection e with e; subst e
    refine linked_reset rfl rfl fun c => ?_
    show (restartCylinders s).cylinders[c].state ≠ _
    rw [restartCylinders_eq]
    simp [Cylinder.restarted, Cylinder.atReset]
  · rw [performRestart_eq]
    refine linked_reset rfl rfl fun c => ?_
    simp only [Fin.getElem_fin, Vector.getElem_map]
    exact restarted_rest _ _ _

end Sys2Proof.Machine
end

section
/-! PROOF. The awaiting list names cans in process, one per head, not bound, the oldest not settled (spec/03 R54, R58, R61, R62). -/

namespace Sys2Proof.Machine

/-! ## A list of awaiting cans -/

/-- An entry names the can its head holds, not bound, noted as settled exactly when its decision is taken. -/
def EntryHeld (heads : Vector Head 16) (e : AwaitEntry) : Prop :=
  ∃ r : CanRecord, heads[e.head].record = some r ∧ r.seq = e.seq ∧ r.tag = none ∧ r.fillMass = none ∧ r.boundLost = false ∧
    heads[e.head].decided = e.settled

/-- One entry per head, each for the can it holds. -/
structure Waiting (l : List AwaitEntry) (heads : Vector Head 16) : Prop where
  once : (l.map AwaitEntry.head).Nodup
  held : ∀ e ∈ l, EntryHeld heads e

theorem awaitingSafe_iff (s : State) : AwaitingSafe s ↔ Waiting s.infeed.awaiting s.heads ∧
    (∀ e : AwaitEntry, s.infeed.awaiting.head? = some e → e.settled = false) ∧
    (s.infeed.fillQueue = [] ∨ s.infeed.awaiting = []) :=
  ⟨fun h => ⟨⟨h.once, h.held⟩, h.oldest, h.either⟩, fun ⟨hw, ho, he⟩ => ⟨hw.once, hw.held, ho, he⟩⟩

theorem entryHeld_congr {heads heads' : Vector Head 16} {e e' : AwaitEntry} (h : EntryHeld heads e)
    (hcan : heads'[e'.head].can = heads[e.head].can) (hseq : e'.seq = e.seq) (hd : heads'[e'.head].decided = e'.settled) :
    EntryHeld heads' e' := by
  obtain ⟨r, hr, hs, ht, hm, hb, -⟩ := h
  rw [Head.can, Head.can, hr] at hcan
  obtain ⟨r', hr', hfile⟩ := Option.map_eq_some_iff.mp hcan
  simp only [CanRecord.filing, Prod.mk.injEq] at hfile
  obtain ⟨-, hs', ht', hm', hb'⟩ := hfile
  exact ⟨r', hr', hs'.trans (hs.trans hseq.symm), ht'.trans ht, hm'.trans hm, hb'.trans hb, hd⟩

theorem head_at {heads : Vector Head 16} {i j : Fin 16} (h : i = j) : heads[i] = heads[j] :=
  congrArg (fun k : Fin 16 => heads[k]) h

/-- The list stands for heads whose named cans and decisions stand. -/
theorem Waiting.congr {l : List AwaitEntry} {heads heads' : Vector Head 16} (h : Waiting l heads)
    (hk : ∀ e ∈ l, heads'[e.head].can = heads[e.head].can ∧ heads'[e.head].decided = heads[e.head].decided) :
    Waiting l heads' := by
  refine ⟨h.once, fun e he => ?_⟩
  obtain ⟨hcan, hdec⟩ := hk e he
  obtain ⟨r, hr, hs, ht, hm, hb, hd⟩ := h.held e he
  exact entryHeld_congr (h.held e he) hcan rfl (hdec.trans hd)

/-- What an entry says of its can; what it owes apart. -/
def AwaitEntry.key (e : AwaitEntry) : Fin 16 × Nat × Bool := (e.head, e.seq, e.settled)

theorem Waiting.of_keys {l l' : List AwaitEntry} {heads : Vector Head 16} (h : Waiting l heads)
    (hk : (l'.map AwaitEntry.key).Sublist (l.map AwaitEntry.key)) : Waiting l' heads := by
  have hheads (k : List AwaitEntry) : k.map AwaitEntry.head = (k.map AwaitEntry.key).map Prod.fst := by
    rw [List.map_map]
    rfl
  refine ⟨?_, fun e he => ?_⟩
  · rw [hheads]
    exact (hheads l ▸ h.once).sublist (hk.map _)
  · obtain ⟨e0, he0, heq⟩ := List.mem_map.mp (hk.subset (List.mem_map_of_mem he))
    simp only [AwaitEntry.key, Prod.mk.injEq] at heq
    obtain ⟨hh, hs, hst⟩ := heq
    obtain ⟨r, hr, hseq, ht, hm, hb, hd⟩ := h.held e0 he0
    rw [head_at hh] at hr hd
    exact ⟨r, hr, hseq.trans hs, ht, hm, hb, hd.trans hst⟩

theorem Waiting.sublist {l l' : List AwaitEntry} {heads : Vector Head 16} (h : Waiting l heads) (hl : l'.Sublist l) :
    Waiting l' heads := h.of_keys (hl.map _)

theorem Waiting.length_le {l : List AwaitEntry} {heads : Vector Head 16} (h : Waiting l heads) : l.length ≤ 16 := by
  have := h.once.length_le_card
  simpa using this

/-- A head that holds no can is not named. -/
theorem Waiting.ne_of_empty {l : List AwaitEntry} {heads : Vector Head 16} (h : Waiting l heads) {j : Fin 16}
    (hj : heads[j].record = none) {e : AwaitEntry} (he : e ∈ l) : e.head ≠ j := by
  rintro rfl
  obtain ⟨r, hr, -⟩ := h.held e he
  exact nomatch hj.symm.trans hr

theorem oldest_dropWhile (l : List AwaitEntry) (e : AwaitEntry) (h : (l.dropWhile AwaitEntry.settled).head? = some e) :
    e.settled = false := by
  induction l with
  | nil => exact nomatch h
  | cons x l ih =>
    rw [List.dropWhile_cons] at h
    split at h
    · exact ih h
    · rename_i hx
      obtain rfl : x = e := Option.some.inj h
      simpa using hx

/-- The entry of one can taken out: no other is named anew, and its head no more. -/
theorem dropDeparted_keys (h : Fin 16) (q : Nat) (l : List AwaitEntry) :
    ((dropDeparted h q l).2.map AwaitEntry.key).Sublist (l.map AwaitEntry.key) ∧
    ((l.map AwaitEntry.head).Nodup → ∀ e ∈ (dropDeparted h q l).2, ¬(e.head = h ∧ e.seq = q)) := by
  induction l with
  | nil => exact ⟨List.Sublist.refl _, fun _ e he => nomatch he⟩
  | cons x l ih =>
    obtain ⟨hsub, hno⟩ := ih
    unfold dropDeparted
    split
    · rename_i hx
      refine ⟨List.sublist_cons_self _ _, fun hn e he hm => ?_⟩
      rw [List.map_cons, List.nodup_cons] at hn
      exact hn.1 (List.mem_map.mpr ⟨e, he, hm.1.trans hx.1.symm⟩)
    · rename_i hx
      refine ⟨hsub.cons_cons _, fun hn e he => ?_⟩
      rw [List.map_cons, List.nodup_cons] at hn
      rcases List.mem_cons.mp he with rfl | he
      · exact hx
      · exact hno hn.2 e he

/-! ## The debt -/

/-- What the infeed counts besides the debt and the awaiting list. -/
structure CountsKept (i j : Infeed) : Prop where
  nextSeq     : j.nextSeq = i.nextSeq
  fillQueue   : j.fillQueue = i.fillQueue
  expectedTag : j.expectedTag = i.expectedTag
  strayCount  : j.strayCount = i.strayCount

theorem CountsKept.trans {i j k : Infeed} (h : CountsKept i j) (g : CountsKept j k) : CountsKept i k :=
  ⟨g.1.trans h.1, g.2.trans h.2, g.3.trans h.3, g.4.trans h.4⟩

theorem CountsKept.ranges {i j : Infeed} (h : CountsKept i j) (hi : InfeedRanges i) (hd : j.debt ≤ 16) : InfeedRanges j where
  sequence := h.nextSeq ▸ hi.sequence
  queue := h.fillQueue ▸ hi.queue
  entries := h.fillQueue ▸ hi.entries
  debt := hd
  expected := h.expectedTag ▸ hi.expected
  strays := h.strayCount ▸ hi.strays

theorem setCondition_counts (k : Condition) (s : State) : CountsKept s.infeed (setCondition k s).infeed ∧
    (setCondition k s).infeed.awaiting = s.infeed.awaiting ∧ (setCondition k s).infeed.debt = s.infeed.debt := by
  obtain ⟨v, hv⟩ := setCondition_infeed k s
  rw [hv]
  exact ⟨⟨rfl, rfl, rfl, rfl⟩, rfl, rfl⟩

theorem raiseDebt_counts (n : Nat) (s : State) : CountsKept s.infeed (raiseDebt n s).infeed ∧
    (raiseDebt n s).infeed.awaiting = s.infeed.awaiting ∧ (raiseDebt n s).infeed.debt = min 16 (s.infeed.debt + n) := by
  rw [raiseDebt_eq]
  split
  · exact ⟨⟨rfl, rfl, rfl, rfl⟩, rfl, rfl⟩
  · obtain ⟨hk, ha, hd⟩ := setCondition_counts .fillSequence
      { s with infeed := { s.infeed with debt := min 16 (s.infeed.debt + n) } }
    exact ⟨⟨hk.1, hk.2, hk.3, hk.4⟩, ha, hd⟩

theorem releaseSettled_counts (n : Nat) (s : State) : CountsKept s.infeed (releaseSettled n s).infeed ∧
    (releaseSettled n s).infeed.awaiting = s.infeed.awaiting.dropWhile AwaitEntry.settled ∧
    (releaseSettled n s).infeed.debt =
      min 16 (s.infeed.debt + (n + ((s.infeed.awaiting.takeWhile AwaitEntry.settled).map AwaitEntry.debt).sum)) := by
  unfold releaseSettled
  obtain ⟨hk, ha, hd⟩ := raiseDebt_counts (n + (dropSettled s.infeed.awaiting).1)
    (s.modInfeed fun i => { i with awaiting := (dropSettled i.awaiting).2 })
  refine ⟨⟨hk.1, hk.2, hk.3, hk.4⟩, ha.trans ?_, hd.trans ?_⟩
  · show (dropSettled s.infeed.awaiting).2 = _
    rw [dropSettled_eq]
  · rw [dropSettled_eq]
    rfl

theorem departAwaiting_counts (h : Fin 16) (q : Nat) (s : State) : CountsKept s.infeed (departAwaiting h q s).infeed ∧
    (s.infeed.debt ≤ 16 → (departAwaiting h q s).infeed.debt ≤ 16) := by
  unfold departAwaiting
  split
  · obtain ⟨hk, -, hd⟩ := releaseSettled_counts (dropDeparted h q s.infeed.awaiting).1
      (s.modInfeed fun i => { i with awaiting := (dropDeparted h q s.infeed.awaiting).2 })
    exact ⟨⟨hk.1, hk.2, hk.3, hk.4⟩, fun _ => by rw [hd]; exact Nat.min_le_left _ _⟩
  · exact ⟨⟨rfl, rfl, rfl, rfl⟩, id⟩

theorem unbound_counts (h : Fin 16) (q : Nat) (s : State) : CountsKept s.infeed (s.unbound h q).infeed ∧
    (s.unbound h q).infeed.debt ≤ 16 ∧ (s.unbound h q).infeed.awaiting =
      (s.infeed.awaiting.map fun e => if e.head = h ∧ e.seq = q then { e with settled := true } else e).dropWhile
        AwaitEntry.settled := by
  rw [← settleUnbound_eq]
  unfold settleUnbound
  obtain ⟨hk, ha, hd⟩ := releaseSettled_counts 0 (s.modInfeed fun i => { i with
    awaiting := i.awaiting.map fun e => if e.head = h ∧ e.seq = q then { e with settled := true } else e })
  exact ⟨⟨hk.1, hk.2, hk.3, hk.4⟩, by rw [hd]; exact Nat.min_le_left _ _, ha⟩

/-! ## A decision, a new can, a hand-on -/

theorem AwaitingSafe.kept {s t : State} (hs : AwaitingSafe s) (ha : t.infeed.awaiting = s.infeed.awaiting)
    (hq : t.infeed.fillQueue = s.infeed.fillQueue ∨ t.infeed.fillQueue = [])
    (hk : ∀ e ∈ s.infeed.awaiting, t.heads[e.head].can = s.heads[e.head].can ∧ t.heads[e.head].decided = s.heads[e.head].decided) :
    AwaitingSafe t := by
  obtain ⟨hw, ho, he⟩ := (awaitingSafe_iff s).mp hs
  refine (awaitingSafe_iff t).mpr ⟨ha ▸ hw.congr hk, ha ▸ ho, ?_⟩
  rw [ha]
  rcases hq with hq | hq
  · rw [hq]
    exact he
  · exact .inl hq

theorem AwaitingSafe.of_eq {s t : State} (hs : AwaitingSafe s) (ha : t.infeed.awaiting = s.infeed.awaiting)
    (hq : t.infeed.fillQueue = s.infeed.fillQueue) (hh : t.heads = s.heads) : AwaitingSafe t :=
  hs.kept ha (.inl hq) fun _ _ => by rw [hh]; exact ⟨rfl, rfl⟩

/-- A head written with its can and its decision standing, or with no can, leaves the list as it is. -/
theorem AwaitingSafe.setHead {s t : State} (hs : AwaitingSafe s) (ha : t.infeed.awaiting = s.infeed.awaiting)
    (hq : t.infeed.fillQueue = s.infeed.fillQueue) {h : Fin 16} {y : Head} (hh : t.heads = s.heads.set h y)
    (hcan : y.can = s.heads[h].can) (hd : y.decided = s.heads[h].decided ∨ s.heads[h].record = none) : AwaitingSafe t := by
  obtain ⟨hw, -⟩ := (awaitingSafe_iff s).mp hs
  refine hs.kept ha (.inl hq) fun e he => ?_
  by_cases hj : e.head = h
  · rw [head_at hj, head_at hj, head_set_self hh]
    refine ⟨hcan, hd.resolve_right fun hn => hw.ne_of_empty hn he hj⟩
  · rw [head_set_other hh _ hj]
    exact ⟨rfl, rfl⟩

theorem awaitingSafe_decided {s : State} (hs : AwaitingSafe s) (h : Fin 16) (r : CanRecord) (y : Head) (q : List (Fin 16))
    (hr : s.heads[h].record = some r) (hcan : y.can = s.heads[h].can) (hy : y.decided = true) :
    AwaitingSafe ((s.unbound h r.seq).withHead h y q) := by
  obtain ⟨hw, ho, he⟩ := (awaitingSafe_iff s).mp hs
  obtain ⟨hk, -, haw⟩ := unbound_counts h r.seq s
  have hto : ((s.unbound h r.seq).withHead h y q).heads = s.heads.set h y := by
    show (s.unbound h r.seq).heads.set h y = _
    rw [unbound_heads]
  refine (awaitingSafe_iff _).mpr ⟨?_, fun e => ?_, ?_⟩
  · show Waiting (s.unbound h r.seq).infeed.awaiting _
    rw [haw]
    refine Waiting.sublist ?_ (List.dropWhile_sublist _)
    refine ⟨?_, fun e he => ?_⟩
    · rw [List.map_map, show (AwaitEntry.head ∘ fun e : AwaitEntry =>
        if e.head = h ∧ e.seq = r.seq then { e with settled := true } else e) = AwaitEntry.head from funext fun e => by
          show (if _ then _ else _ : AwaitEntry).head = _
          split <;> rfl]
      exact hw.once
    · obtain ⟨e0, he0, rfl⟩ := List.mem_map.mp he
      have hheld := hw.held e0 he0
      obtain ⟨r0, hr0, hseq, -, -, -, hd⟩ := id hheld
      by_cases hj : e0.head = h
      · have hm : e0.head = h ∧ e0.seq = r.seq := by
          refine ⟨hj, hseq.symm.trans ?_⟩
          rw [head_at hj, hr] at hr0
          rw [Option.some.inj hr0]
        rw [if_pos hm]
        refine entryHeld_congr hheld ?_ rfl ?_
        · show ((s.unbound h r.seq).withHead h y q).heads[e0.head].can = _
          rw [head_at hj, head_at hj, head_set_self hto]
          exact hcan
        · show ((s.unbound h r.seq).withHead h y q).heads[e0.head].decided = _
          rw [head_at hj, head_set_self hto]
          exact hy
      · rw [if_neg fun hm => hj hm.1]
        refine entryHeld_congr hheld ?_ rfl ?_
        · rw [head_set_other hto _ hj]
        · rw [head_set_other hto _ hj]
          exact hd
  · show (s.unbound h r.seq).infeed.awaiting.head? = some e → _
    rw [haw]
    exact oldest_dropWhile _ e
  · show (s.unbound h r.seq).infeed.fillQueue = [] ∨ (s.unbound h r.seq).infeed.awaiting = []
    rw [hk.fillQueue, haw]
    refine he.imp_right fun hnil => ?_
    rw [hnil]
    rfl

theorem awaitingSafe_handOn {s : State} (hs : AwaitingSafe s) (h : Fin 16) : AwaitingSafe (handOn h s) := by
  cases hr : s.heads[h].record with
  | none =>
    rw [show handOn h s = s by simp only [handOn, hr]]
    exact hs
  | some r =>
    obtain ⟨hw, ho, he⟩ := (awaitingSafe_iff s).mp hs
    obtain ⟨-, -, hinf, hheads, -⟩ := handed_frame h r s
    have hto : (handOn h s).heads = s.heads.set h s.heads[h].vacated := by
      rw [handOn_handed hr, (dropReference_frame _ _).2.1, hheads]
    have hin : (handOn h s).infeed = (departAwaiting h r.seq s).infeed := by
      rw [handOn_handed hr, (dropReference_frame _ _).2.2.1, hinf]
    have hseq (e : AwaitEntry) (hmem : e ∈ s.infeed.awaiting) (hj : e.head = h) : e.seq = r.seq := by
      obtain ⟨r0, hr0, hs0, -⟩ := hw.held e hmem
      rw [head_at hj, hr] at hr0
      rw [← hs0, Option.some.inj hr0]
    have hcongr (l : List AwaitEntry) (hl : Waiting l s.heads) (hno : ∀ e ∈ l, e.head ≠ h) : Waiting l (handOn h s).heads := by
      refine hl.congr fun e hmem => ?_
      rw [head_set_other hto _ (hno e hmem)]
      exact ⟨rfl, rfl⟩
    refine (awaitingSafe_iff _).mpr ?_
    rw [hin]
    unfold departAwaiting
    split
    · obtain ⟨hk, haw, -⟩ := releaseSettled_counts (dropDeparted h r.seq s.infeed.awaiting).1
        (s.modInfeed fun i => { i with awaiting := (dropDeparted h r.seq s.infeed.awaiting).2 })
      obtain ⟨hsub, hno⟩ := dropDeparted_keys h r.seq s.infeed.awaiting
      have hdropped := hw.of_keys hsub
      simp only [haw, hk.fillQueue, State.modInfeed_infeed]
      refine ⟨hcongr _ (hdropped.sublist (List.dropWhile_sublist _)) fun e hmem hj => ?_, oldest_dropWhile _, ?_⟩
      · have hmem' := (List.dropWhile_sublist _).subset hmem
        refine hno hw.once e hmem' ⟨hj, ?_⟩
        obtain ⟨r0, hr0, hs0, -⟩ := hdropped.held e hmem'
        rw [head_at hj, hr] at hr0
        rw [← hs0, Option.some.inj hr0]
      · refine he.imp_right fun hnil => ?_
        rw [hnil]
        rfl
    · rename_i hnone
      refine ⟨hcongr _ hw fun e hmem hj => hnone ?_, ho, he⟩
      exact List.any_eq_true.mpr ⟨e, hmem, decide_eq_true ⟨hj, hseq e hmem hj⟩⟩

/-- What the infeed block and the head take of a new can. -/
theorem createRecord_parts (h : Fin 16) (i : Fin 2) (s : State) : ∃ r : CanRecord, r.seq = s.infeed.nextSeq ∧ r.reasons = [] ∧
    r.shots = [] ∧ (createRecord h i s).heads = s.heads.set h { s.heads[h] with record := some r, cycle := .seated } ∧
    ((∃ e rest, s.infeed.fillQueue = e :: rest ∧ (createRecord h i s).infeed =
        { s.infeed with nextSeq := nextSequence s.infeed.nextSeq, fillQueue := rest }) ∨
      (s.infeed.fillQueue = [] ∧ r = newRecord s h i ∧ (createRecord h i s).infeed =
        { s.infeed with
          nextSeq := nextSequence s.infeed.nextSeq
          awaiting := s.infeed.awaiting ++ [{ head := h, seq := s.infeed.nextSeq, settled := false, owed := 0 }] })) := by
  unfold createRecord
  simp only []
  split
  · rename_i e rest hq
    have hb := bind_binding (newRecord s h i) e
    refine ⟨(newRecord s h i).bind e, ?_, ?_, ?_, rfl, .inl ⟨e, rest, hq, rfl⟩⟩
    · rw [hb]; rfl
    · rw [hb]; rfl
    · rw [hb]; rfl
  · rename_i hq
    exact ⟨_, rfl, rfl, rfl, rfl, .inr ⟨hq, rfl, rfl⟩⟩

theorem awaitingSafe_created {s : State} (hs : AwaitingSafe s) (h : Fin 16) (i : Fin 2) (hr : s.heads[h].record = none)
    (hd : s.heads[h].decided = false) : AwaitingSafe (createRecord h i s) := by
  obtain ⟨hw, ho, he⟩ := (awaitingSafe_iff s).mp hs
  obtain ⟨r, hseq, -, -, hto, hcases⟩ := createRecord_parts h i s
  have hcongr : Waiting s.infeed.awaiting (createRecord h i s).heads := hw.congr fun e hmem => by
    rw [head_set_other hto _ (hw.ne_of_empty hr hmem)]
    exact ⟨rfl, rfl⟩
  refine (awaitingSafe_iff _).mpr ?_
  rcases hcases with ⟨e, rest, hq, hinf⟩ | ⟨hq, hnew, hinf⟩
  · have hnil : s.infeed.awaiting = [] := he.resolve_left fun hn => nomatch hn.symm.trans hq
    simp only [hinf]
    exact ⟨hcongr, ho, .inr hnil⟩
  · simp only [hinf]
    refine ⟨⟨?_, fun e hmem => ?_⟩, fun e hhead => ?_, .inl hq⟩
    · rw [List.map_append, List.nodup_append]
      refine ⟨hw.once, List.nodup_singleton _, fun a ha b hb hab => ?_⟩
      obtain ⟨e, hmem, rfl⟩ := List.mem_map.mp ha
      exact hw.ne_of_empty hr hmem (hab.trans (List.mem_singleton.mp hb))
    · rcases List.mem_append.mp hmem with hmem | hmem
      · exact hcongr.held e hmem
      · rw [List.mem_singleton.mp hmem]
        unfold EntryHeld
        simp only [head_set_self hto]
        exact ⟨r, rfl, hseq, by rw [hnew]; rfl, by rw [hnew]; rfl, by rw [hnew]; rfl, hd⟩
    · cases ha : s.infeed.awaiting with
      | nil =>
        rw [ha] at hhead
        exact Option.some.inj hhead ▸ rfl
      | cons a rest =>
        refine ho e ?_
        rw [ha] at hhead ⊢
        exact hhead

end Sys2Proof.Machine
end

section
/-! PROOF. The entries of a fill report keep the infeed block in range and the awaiting list (spec/03 R54 to R59, R62). -/

namespace Sys2Proof.Machine

/-- A state in the course of a fill report: the awaiting list and the counters as their laws have them, and room for what of the
`n` entries still to come would join the queue. -/
structure Filling (n : Nat) (s : State) : Prop where
  awaiting : AwaitingSafe s
  ranges   : InfeedRanges s.infeed
  room     : queueBound s.infeed n + s.infeed.fillQueue.length ≤ 8

/-- An entry within its ranges. -/
def FillEntry.Legal (e : FillEntry) : Prop := e.tag < 65536 ∧ ∀ m : Nat, e.mass = some m → m ≤ 9999

theorem entry_debt_pos (e : AwaitEntry) : 1 ≤ e.debt := by
  unfold AwaitEntry.debt
  omega

/-- Each entry released raises the debt by at least one. -/
theorem length_le_dropWhile (l : List AwaitEntry) : l.length ≤
    ((l.takeWhile AwaitEntry.settled).map AwaitEntry.debt).sum + (l.dropWhile AwaitEntry.settled).length := by
  have hsum (k : List AwaitEntry) : k.length ≤ (k.map AwaitEntry.debt).sum := by
    induction k with
    | nil => exact Nat.le_refl _
    | cons e k ih =>
      have := entry_debt_pos e
      simp only [List.length_cons, List.map_cons, List.sum_cons]
      omega
  have hsplit := congrArg List.length (List.takeWhile_append_dropWhile (p := AwaitEntry.settled) (l := l))
  have := hsum (l.takeWhile AwaitEntry.settled)
  rw [List.length_append] at hsplit
  omega

/-- An entry discarded against the debt. -/
theorem filling_discarded {n : Nat} {s : State} (h : Filling (n + 1) s) (hd : 0 < s.infeed.debt) :
    Filling n (s.modInfeed fun i => { i with debt := i.debt - 1 }) where
  awaiting := h.awaiting.of_eq rfl rfl rfl
  ranges := { h.ranges with debt := (Nat.sub_le _ _).trans h.ranges.debt }
  room := by
    have := h.room
    simp only [queueBound, State.modInfeed_infeed] at this ⊢
    omega

theorem filling_setCondition {n : Nat} {s : State} (h : Filling n s) (k : Condition) : Filling n (setCondition k s) := by
  obtain ⟨hk, ha, hd⟩ := setCondition_counts k s
  refine ⟨h.awaiting.of_eq ha hk.fillQueue (by simp), hk.ranges h.ranges (hd ▸ h.ranges.debt), ?_⟩
  rw [queueBound, ha, hd, hk.fillQueue]
  exact h.room

/-- An entry bound to the oldest awaiting can, with the settled cans behind it released. -/
theorem filling_bound {n : Nat} {s : State} (h : Filling (n + 1) s) (hd : ¬0 < s.infeed.debt) {a : AwaitEntry} {rest : List AwaitEntry}
    (ha : s.infeed.awaiting = a :: rest) (f : Head → Head) :
    Filling n (releaseSettled a.owed ((s.modInfeed fun i => { i with awaiting := rest }).modHead a.head f)) := by
  obtain ⟨hw, -, he⟩ := (awaitingSafe_iff s).mp h.awaiting
  rw [ha] at hw
  have hq : s.infeed.fillQueue = [] := he.resolve_right (by simp [ha])
  obtain ⟨hk, haw, hdebt⟩ := releaseSettled_counts a.owed ((s.modInfeed fun i => { i with awaiting := rest }).modHead a.head f)
  have hheads := (releaseSettled_frame ((s.modInfeed fun i => { i with awaiting := rest }).modHead a.head f) a.owed).2.1
  generalize releaseSettled a.owed _ = t at *
  have hto : t.heads = s.heads.set a.head (f s.heads[a.head]) := hheads
  have hrest : Waiting rest t.heads := by
    refine (hw.sublist (List.sublist_cons_self a rest)).congr fun e hmem => ?_
    have hne : e.head ≠ a.head := fun hh =>
      (List.nodup_cons.mp hw.once).1 (List.mem_map.mpr ⟨e, hmem, hh⟩)
    rw [head_set_other hto _ hne]
    exact ⟨rfl, rfl⟩
  have hlen := hrest.length_le
  have hdrop := length_le_dropWhile rest
  have hroom := h.room
  have hqueue : t.infeed.fillQueue = [] := hk.fillQueue.trans hq
  have haw : t.infeed.awaiting = rest.dropWhile AwaitEntry.settled := haw
  have hdebt : t.infeed.debt =
    min 16 (s.infeed.debt + (a.owed + ((rest.takeWhile AwaitEntry.settled).map AwaitEntry.debt).sum)) := hdebt
  refine ⟨(awaitingSafe_iff t).mpr ⟨?_, ?_, .inl hqueue⟩, CountsKept.ranges (i := s.infeed) ⟨hk.1, hk.2, hk.3, hk.4⟩ h.ranges ?_, ?_⟩
  · rw [haw]
    exact hrest.sublist (List.dropWhile_sublist _)
  · rw [haw]
    exact oldest_dropWhile rest
  · rw [hdebt]
    exact Nat.min_le_left _ _
  · simp only [queueBound, hqueue, haw, hdebt, ha, hq, List.length_cons, List.length_nil] at hroom ⊢
    omega

/-- An entry queued, with no debt and no awaiting can. -/
theorem filling_joined {n : Nat} {s : State} (h : Filling (n + 1) s) (hd : ¬0 < s.infeed.debt) (ha : s.infeed.awaiting = [])
    {e : FillEntry} (he : e.Legal) : Filling n (s.modInfeed fun i => { i with fillQueue := i.fillQueue ++ [e] }) := by
  have hroom := h.room
  simp only [queueBound, ha, List.length_nil] at hroom
  obtain ⟨hw, ho, -⟩ := (awaitingSafe_iff s).mp h.awaiting
  refine ⟨(awaitingSafe_iff _).mpr ⟨hw, ho, .inr ha⟩, { h.ranges with queue := ?_, entries := fun x hx => ?_ }, ?_⟩
  · show (s.infeed.fillQueue ++ [e]).length ≤ 8
    rw [List.length_append, List.length_singleton]
    omega
  · rcases List.mem_append.mp hx with hx | hx
    · exact h.ranges.entries x hx
    · exact List.mem_singleton.mp hx ▸ he
  · simp only [queueBound, State.modInfeed_infeed, List.length_append, List.length_singleton]
    omega

theorem filling_applyEntry {n : Nat} {x : State × FillTally} (h : Filling (n + 1) x.1) {e : FillEntry} (he : e.Legal) :
    Filling n (applyEntry x e).1 := by
  unfold applyEntry
  simp only []
  split
  · rename_i hd
    simp only []
    split
    · exact filling_setCondition (filling_discarded h hd) _
    · exact filling_discarded h hd
  · rename_i hd
    split
    · rename_i a rest ha
      exact filling_bound h hd ha _
    · rename_i ha
      exact filling_joined h hd ha he

theorem filling_entries (es : List FillEntry) {x : State × FillTally} (h : Filling es.length x.1)
    (hes : ∀ e ∈ es, e.Legal) : Filling 0 (es.foldl applyEntry x).1 := by
  induction es generalizing x with
  | nil => exact h
  | cons e es ih =>
    exact ih (filling_applyEntry h (hes e List.mem_cons_self)) fun y hy => hes y (List.mem_cons_of_mem e hy)

end Sys2Proof.Machine
end

section
/-! PROOF. The counters, queues and measured values stay in range, part of the state by part (the item tables of spec/01 to 08). -/

namespace Sys2Proof.Machine

/-! ## The items of the heads -/

theorem headRanges_set {s t : State} {h : Fin 16} {y : Head} (hs : ∀ j : Fin 16, HeadRanges s.heads[j])
    (ht : t.heads = s.heads.set h y) (hy : HeadRanges y) (j : Fin 16) : HeadRanges t.heads[j] := by
  by_cases hj : j = h
  · rw [head_at hj, head_set_self ht]
    exact hy
  · rw [head_set_other ht j hj]
    exact hs j

theorem HeadRanges.bound {x y : Head} (hx : HeadRanges x) (h : x.Bound y) : HeadRanges y := by
  have hback (r' : CanRecord) (hr' : y.record = some r') : ∃ r : CanRecord, x.record = some r ∧ r'.seq = r.seq ∧
      r'.reasons = r.reasons ∧ r'.shots = r.shots := by
    cases hr : x.record with
    | none => exact nomatch hr'.symm.trans (h.empty hr)
    | some r =>
      obtain ⟨q, hq, he⟩ := h.record r hr
      obtain rfl : q = r' := Option.some.inj (hq.symm.trans hr')
      exact ⟨r, rfl, by rw [he], by rw [he], by rw [he]⟩
  have hitems := h.items
  refine ⟨by rw [hitems]; exact hx.noFlow, by rw [hitems]; exact hx.zeros, by rw [hitems]; exact hx.offset, fun r' hr' => ?_,
    fun r' hr' hd => ?_, fun r' hr' hc => ?_⟩
  · obtain ⟨r, hr, hseq, hreas, hshots⟩ := hback r' hr'
    have hrec := hx.record r hr
    exact ⟨hseq ▸ hrec.sequence, hreas ▸ hrec.reasons, hshots ▸ hrec.shots⟩
  · obtain ⟨r, hr, -, -, hshots⟩ := hback r' hr'
    rw [hitems] at hd
    exact hshots.trans (hx.undecided r hr hd)
  · obtain ⟨r, hr, -, -, hshots⟩ := hback r' hr'
    rw [hitems] at hc
    exact hshots ▸ hx.toCome r hr hc

/-- A head with a new can. -/
theorem HeadRanges.created {x : Head} (hx : HeadRanges x) {r : CanRecord} (hseq : 1 ≤ r.seq ∧ r.seq ≤ 16777215)
    (hreas : r.reasons = []) (hshots : r.shots = []) : HeadRanges { x with record := some r, cycle := .seated } where
  noFlow := hx.noFlow
  zeros := hx.zeros
  offset := hx.offset
  record q hq := by
    obtain rfl := Option.some.inj hq
    exact ⟨hseq, by rw [hreas]; exact ⟨Nat.zero_le _, List.nodup_nil⟩, by rw [hshots]; exact Nat.zero_le _⟩
  undecided q hq _ := Option.some.inj hq ▸ hshots
  toCome q hq _ := by
    obtain rfl := Option.some.inj hq
    rw [hshots]
    exact Nat.zero_le _

theorem vacated_record (x : Head) : x.vacated.record = none := by
  unfold Head.vacated
  split <;> rfl

theorem HeadRanges.vacated {x : Head} (hx : HeadRanges x) : HeadRanges x.vacated := by
  have hnone {p : CanRecord → Prop} (r : CanRecord) (hr : x.vacated.record = some r) : p r :=
    nomatch (vacated_record x).symm.trans hr
  refine ⟨?_, ?_, ?_, hnone, hnone, hnone⟩
  all_goals
    unfold Head.vacated
    split
  · exact hx.noFlow
  · exact hx.noFlow
  · exact hx.zeros
  · exact hx.zeros
  · exact hx.offset
  · exact hx.offset

/-! ## The heads an act writes -/

theorem decided_heads (s : State) (h : Fin 16) (q : Nat) (y : Head) (g : List (Fin 16)) :
    ((s.unbound h q).withHead h y g).heads = s.heads.set h y := by
  show (s.unbound h q).heads.set h y = _
  rw [unbound_heads]

theorem Linked.ended_heads {s : State} (hs : Linked s) {c : Fin 4} (k : EndCause) {h : Fin 16} (y : Head) (q : List (Fin 16))
    (hp : s.heads[h].paired = some c) : ((endDischarge c k s).withHead h y q).heads = s.heads.set h y := by
  obtain ⟨hc, ho⟩ := hs.owner h c hp
  obtain ⟨j, ho', -, hheads⟩ := hs.endDischarge_owner k hc
  obtain rfl : h = j := Option.some.inj (ho.symm.trans ho')
  show (endDischarge c k s).heads.set h y = _
  rw [hheads]
  simp

theorem noFlow_heads (s : State) (c : Fin 4) (h : Fin 16) (y : Head) (q : List (Fin 16)) :
    ((s.flowFreed h c).withHead h y q).heads = s.heads.set h y := by
  show (s.flowFreed h c).heads.set h y = _
  rw [flowFreed_heads]
  simp

theorem handOn_heads {s : State} {h : Fin 16} {r : CanRecord} (hr : s.heads[h].record = some r) :
    (handOn h s).heads = s.heads.set h s.heads[h].vacated := by
  rw [handOn_handed hr, (dropReference_frame _ _).2.1, (handed_frame h r s).2.2.2.1]

theorem handOn_empty {s : State} {h : Fin 16} (hr : s.heads[h].record = none) : handOn h s = s := by
  simp only [handOn, hr]

theorem Act.headRanges {b : Bool} {s t : State} (ha : Act b s t) (hf : FiguresSafe s) (hl : Linked s)
    (hi : 1 ≤ s.infeed.nextSeq ∧ s.infeed.nextSeq ≤ 16777215) (hs : ∀ h : Fin 16, HeadRanges s.heads[h]) :
    ∀ h : Fin 16, HeadRanges t.heads[h] := by
  have hsame (he : t.heads = s.heads) : ∀ h : Fin 16, HeadRanges t.heads[h] := he ▸ hs
  have hedit {h : Fin 16} {y : Head} {q : List (Fin 16)} (he : HeadEdit s h y q) : HeadRanges y :=
    he.ranges hf (hl.fits h) (hs h)
  cases ha with
  | link | sensors | mask | cleared | tracker | hold | supply | cylinder | infeed | gateRefused | gateAdmitted
  | verdicts | loaded | discarded | configured | gasTable | allowance => exact hs
  | condition k => exact hsame (by simp)
  | locked => exact hsame (by unfold enterLocked; simp)
  | slipped => exact hsame (by simp)
  | source x => rw [selectSource_eq] at hsame ⊢; exact hsame (by simp [sourceSelected])
  | tested c y he => exact hsame (by simp)
  | head h y q he => exact headRanges_set hs rfl (hedit he)
  | decided h r y q he => exact headRanges_set hs (decided_heads s h r.seq y q) (hedit he)
  | discharged c k =>
    by_cases hc : s.cylinders[c].state = .discharging
    · obtain ⟨h, -, hp, hheads⟩ := hl.endDischarge_owner k hc
      exact headRanges_set hs hheads ((hs h).discharged c ((hl.fits h).shape.paired c hp))
    · rw [endDischarge_none hc]
      exact hs
  | ended c k h y q hp hcan hd he =>
    obtain ⟨hc, ho⟩ := hl.owner h c hp
    exact headRanges_set hs (hl.ended_heads k y q hp) (hedit (he hc ho).1)
  | noFlow c h y q he => exact headRanges_set hs (noFlow_heads s c h y q) (hedit he)
  | granted c h z y q he => exact headRanges_set (s := s) hs rfl (hedit he)
  | created h i =>
    obtain ⟨r, hseq, hreas, hshots, hto, -⟩ := createRecord_parts h i (s.admissionUsed h)
    refine headRanges_set (s := s) hs hto ((hs h).created ?_ hreas hshots)
    rw [hseq]
    exact hi
  | handedOn h =>
    cases hr : s.heads[h].record with
    | none =>
      rw [handOn_empty hr]
      exact hs
    | some r => exact headRanges_set hs (handOn_heads hr) (hs h).vacated
  | filled es z => exact fun h => (hs h).bound (entries_bound es (s, z) h)
  | activated i => exact hsame (by unfold slotsActivated; rw [retireSlot_eq]; rfl)

/-! ## The infeed block -/

/-- The counters of the infeed block, its debt and its awaiting list stand. -/
structure Counted (i j : Infeed) : Prop extends CountsKept i j where
  awaiting : j.awaiting = i.awaiting
  debt     : j.debt = i.debt

theorem Counted.trans {i j k : Infeed} (h : Counted i j) (g : Counted j k) : Counted i k :=
  { h.toCountsKept.trans g.toCountsKept with awaiting := g.awaiting.trans h.awaiting, debt := g.debt.trans h.debt }

theorem Counted.of_eq {i j : Infeed} (h : j = i) : Counted i j := by
  subst h
  exact ⟨⟨rfl, rfl, rfl, rfl⟩, rfl, rfl⟩

theorem Counted.withheld (i : Infeed) (w : Withhold) (a : Vector Bool 16) (g : Bool) :
    Counted i { i with withhold := w, admitted := a, gateOpen := g } := ⟨⟨rfl, rfl, rfl, rfl⟩, rfl, rfl⟩

theorem Counted.ranges {i j : Infeed} (h : Counted i j) (hi : InfeedRanges i) : InfeedRanges j :=
  h.toCountsKept.ranges hi (h.debt ▸ hi.debt)

theorem counted_setCondition (k : Condition) (s : State) : Counted s.infeed (setCondition k s).infeed := by
  obtain ⟨hk, ha, hd⟩ := setCondition_counts k s
  exact ⟨hk, ha, hd⟩

theorem counted_setPosition (s : State) : Counted s.infeed (setPosition s).infeed := by
  unfold setPosition
  split
  · exact .of_eq rfl
  · exact .withheld ..

theorem counted_allOutTest (s : State) : Counted s.infeed (allOutTest s).infeed := by
  unfold allOutTest
  split
  · exact Counted.trans (Counted.withheld s.infeed { s.infeed.withhold with noCylinder := true } s.infeed.admitted s.infeed.gateOpen)
      (counted_setCondition .allCylindersOut (s.modWithhold fun w => { w with noCylinder := true }))
  · exact .withheld ..

theorem counted_flowFreed (h : Fin 16) (c : Fin 4) (s : State) : Counted s.infeed (s.flowFreed h c).infeed := by
  unfold State.flowFreed readyOrDisabled
  split
  · unfold completeDisable
    refine Counted.trans (.of_eq ?_) (counted_allOutTest _)
    simp
  · exact .of_eq rfl

theorem nextSequence_range {n : Nat} (h : 1 ≤ n ∧ n ≤ 16777215) : 1 ≤ nextSequence n ∧ nextSequence n ≤ 16777215 := by
  unfold nextSequence lastSequence
  split <;> omega

theorem infeedRanges_created {s : State} (hi : InfeedRanges s.infeed) (h : Fin 16) (i : Fin 2) :
    InfeedRanges (createRecord h i s).infeed := by
  obtain ⟨r, -, -, -, -, hcases⟩ := createRecord_parts h i s
  rcases hcases with ⟨e, rest, hq, hinf⟩ | ⟨-, -, hinf⟩
  · have hlen := hi.queue
    have hent := hi.entries
    rw [hq] at hlen hent
    rw [hinf]
    exact { hi with
      sequence := nextSequence_range hi.sequence
      queue := Nat.le_of_succ_le hlen
      entries := fun x hx => hent x (List.mem_cons_of_mem e hx) }
  · rw [hinf]
    exact { hi with sequence := nextSequence_range hi.sequence }

theorem Act.filling {b : Bool} {s t : State} (ha : Act b s t) (hl : Linked s) (hi : InfeedRanges s.infeed) (hw : AwaitingSafe s) :
    InfeedRanges t.infeed ∧ AwaitingSafe t := by
  have hsame (hc : Counted s.infeed t.infeed) (hh : t.heads = s.heads) : InfeedRanges t.infeed ∧ AwaitingSafe t :=
    ⟨hc.ranges hi, hw.of_eq hc.awaiting hc.fillQueue hh⟩
  have hset {h : Fin 16} {y : Head} (hc : Counted s.infeed t.infeed) (hh : t.heads = s.heads.set h y)
      (hcan : y.can = s.heads[h].can) (hd : y.decided = s.heads[h].decided ∨ s.heads[h].record = none) :
      InfeedRanges t.infeed ∧ AwaitingSafe t := ⟨hc.ranges hi, hw.setHead hc.awaiting hc.fillQueue hh hcan hd⟩
  cases ha with
  | link | sensors | mask | cylinder | tracker | verdicts | loaded | discarded | configured | gasTable | allowance =>
    exact hsame (.of_eq rfl) rfl
  | hold | supply | gateRefused | gateAdmitted | cleared => exact hsame (.withheld ..) rfl
  | condition k => exact hsame (counted_setCondition k s) (by simp)
  | locked =>
    have hinf : (enterLocked s).infeed = { s.infeed with withhold := { s.infeed.withhold with position := false } } := by
      unfold enterLocked
      simp
    exact hsame (hinf ▸ .withheld ..) (by unfold enterLocked; simp)
  | slipped => exact hsame (counted_setPosition (s.modTracker fun t => { t with state := .slipped })) (by simp)
  | source x =>
    have hinf : (trackerReport (sourceSelected x s)).infeed = (sourceSelected x s).infeed := by simp
    rw [selectSource_eq] at hsame ⊢
    exact hsame (hinf ▸ .withheld ..) (by simp [sourceSelected])
  | tested c y he => exact hsame (counted_allOutTest (s.modCyl c fun _ => y)) (by simp)
  | head h y q he hp hd => exact hset (.of_eq rfl) rfl he.can hd
  | decided h r y q he hp hr hd hy =>
    obtain ⟨hk, hdebt, -⟩ := unbound_counts h r.seq s
    exact ⟨hk.ranges hi hdebt, awaitingSafe_decided hw h r y q hr he.can hy⟩
  | discharged c k =>
    refine ⟨Counted.ranges (.of_eq (by simp)) hi, hw.kept (by simp) (.inl (by simp)) fun e _ => endDischarge_can c k e.head s⟩
  | ended c k h y q hp hcan hd =>
    exact hset (.of_eq (endDischarge_frame _ _ _).2.1) (hl.ended_heads k y q hp) hcan (.inl hd)
  | noFlow c h y q he hp hc hy hd => exact hset (counted_flowFreed h c s) (noFlow_heads s c h y q) he.can (.inl hd)
  | granted c h z y q he hc hm hy hd => exact hset (.of_eq rfl) rfl he.can (.inl hd)
  | infeed j he => exact ⟨he.ranges hi, hw.kept he.awaiting he.queue fun _ _ => ⟨rfl, rfl⟩⟩
  | created h i hr hwin hd =>
    have hw' : AwaitingSafe (s.admissionUsed h) := hw.of_eq rfl rfl rfl
    exact ⟨infeedRanges_created (s := s.admissionUsed h) { hi with } h i, awaitingSafe_created hw' h i hr hd⟩
  | handedOn h =>
    refine ⟨?_, awaitingSafe_handOn hw h⟩
    cases hr : s.heads[h].record with
    | none =>
      rw [handOn_empty hr]
      exact hi
    | some r =>
      obtain ⟨hk, hdebt⟩ := departAwaiting_counts h r.seq s
      rw [handOn_handed hr, (dropReference_frame _ _).2.2.1, (handed_frame h r s).2.2.1]
      exact hk.ranges hi (hdebt hi.debt)
  | filled es z hfit hes =>
    have hstart : Filling es.length s := ⟨hw, hi, of_decide_eq_true hfit⟩
    have hend := filling_entries es (x := (s, z)) hstart hes
    exact ⟨hend.ranges, hend.awaiting⟩
  | activated i =>
    have hinf : (slotsActivated i s).infeed = { s.infeed with withhold := { s.infeed.withhold with noRecipe := false } } := by
      unfold slotsActivated
      rw [retireSlot_eq]
      rfl
    exact hsame (hinf ▸ .withheld ..) (by unfold slotsActivated; rw [retireSlot_eq]; rfl)

end Sys2Proof.Machine
end

section
/-! PROOF. The measured values, the grant queue and the verdict log stay in range, and with them every item (the item tables of
spec/01 to 08). -/

namespace Sys2Proof.Machine

/-! ## The tracker, the gas supply, the grant queue and the verdict unit -/

/-- The ranges of the parts that the heads, the infeed block and the cylinders leave to them. -/
structure MeasuresSafe (s : State) : Prop where
  position    : s.tracker.position < 4096
  revolution  : s.tracker.revolution < 4294967296
  grants      : s.grantQueue.Nodup
  buffer      : s.gas.buffer ≤ 6000
  temperature : -400 ≤ s.gas.heldTemp ∧ s.gas.heldTemp ≤ 800
  unmatched   : s.verdicts.unmatched ≤ 65535
  log         : ∀ r : CanRecord, r ∈ s.verdicts.log → RecordRanges r

theorem MeasuresSafe.kept {s t : State} (h : MeasuresSafe s) (ht : t.tracker = s.tracker) (hq : t.grantQueue = s.grantQueue)
    (hg : t.gas = s.gas) (hv : t.verdicts = s.verdicts) : MeasuresSafe t where
  position := ht ▸ h.position
  revolution := ht ▸ h.revolution
  grants := hq ▸ h.grants
  buffer := hg ▸ h.buffer
  temperature := hg ▸ h.temperature
  unmatched := hv ▸ h.unmatched
  log := hv ▸ h.log

/-- A write to the tracker and to the infeed block. -/
theorem MeasuresSafe.tracked {s t : State} (h : MeasuresSafe s) (hp : t.tracker.position < 4096)
    (hr : t.tracker.revolution < 4294967296) (hq : t.grantQueue = s.grantQueue) (hg : t.gas = s.gas)
    (hv : t.verdicts = s.verdicts) : MeasuresSafe t :=
  { MeasuresSafe.kept (t := { t with tracker := s.tracker }) h rfl hq hg hv with position := hp, revolution := hr }

/-- A head written with the grant queue, where the other parts stand. -/
theorem MeasuresSafe.queued {s t : State} (h : MeasuresSafe s) (y : Head) (j : Fin 16) {q : List (Fin 16)} (hq : q.Nodup)
    (ht : t.tracker = s.tracker) (hg : t.gas = s.gas) (hv : t.verdicts = s.verdicts) : MeasuresSafe (t.withHead j y q) :=
  { MeasuresSafe.kept (t := { t with grantQueue := s.grantQueue }) h ht rfl hg hv with grants := hq }

theorem measuresSafe_handOn {s : State} (hs : MeasuresSafe s) (h : Fin 16)
    (hrec : ∀ r : CanRecord, s.heads[h].record = some r → RecordRanges r) : MeasuresSafe (handOn h s) := by
  cases hr : s.heads[h].record with
  | none =>
    rw [handOn_empty hr]
    exact hs
  | some r =>
    obtain ⟨htr, -, hq, hg, -⟩ := handOn_frame s h
    have hv : (handOn h s).verdicts = (takeRecord r s).verdicts := by
      rw [handOn_handed hr, (dropReference_frame _ _).2.2.2.2.2.2.2.1, (handed_frame h r s).2.2.2.2]
    have hkept := MeasuresSafe.kept (t := { handOn h s with verdicts := s.verdicts }) hs htr hq hg rfl
    refine { hkept with unmatched := ?_, log := fun x hx => ?_ }
    · rw [hv]
      exact hs.unmatched
    · rw [hv] at hx
      rcases List.mem_append.mp hx with hx | hx
      · exact hs.log x hx
      · obtain rfl := List.mem_singleton.mp hx
        have hrange := hrec r hr
        exact ⟨hrange.sequence, hrange.reasons, hrange.shots⟩

theorem Act.measuresSafe {b : Bool} {s t : State} (ha : Act b s t) (hl : Linked s) (hh : ∀ h : Fin 16, HeadRanges s.heads[h])
    (hs : MeasuresSafe s) : MeasuresSafe t := by
  cases ha with
  | link | sensors | mask | cleared | hold | cylinder | infeed | gateRefused | gateAdmitted | loaded | discarded | configured
  | gasTable | allowance => exact hs.kept rfl rfl rfl rfl
  | condition k => exact hs.kept (by simp) (by simp) (by simp) (by simp)
  | tracker y he => exact hs.tracked (he.position hs.position) (he.revolution hs.revolution) rfl rfl rfl
  | locked =>
    have hpos : (enterLocked s).tracker.position = 0 ∧
        (enterLocked s).tracker.revolution = (s.tracker.highWater / countsPerRev + 1) % revolutions ∧
        (enterLocked s).grantQueue = s.grantQueue ∧ (enterLocked s).gas = s.gas ∧ (enterLocked s).verdicts = s.verdicts := by
      unfold enterLocked
      simp
    obtain ⟨hp, hr, hq, hg, hv⟩ := hpos
    exact hs.tracked (hp ▸ by decide) (hr ▸ Nat.mod_lt _ (by decide)) hq hg hv
  | slipped =>
    obtain ⟨htr, -, -, hq, hg, -, -, hv, -⟩ := setPosition_frame (s.modTracker fun t => { t with state := .slipped })
    exact hs.tracked (htr ▸ hs.position) (htr ▸ hs.revolution) hq hg hv
  | source x =>
    obtain ⟨htr, -⟩ := trackerReport_frame (sourceSelected x s)
    rw [selectSource_eq]
    exact hs.tracked (htr ▸ (by decide : 0 < 4096)) (htr ▸ hs.revolution) (by simp [sourceSelected]) (by simp [sourceSelected])
      (by simp [sourceSelected])
  | supply g w he =>
    exact { hs with buffer := he.buffer hs.buffer, temperature := he.heldTemp hs.temperature }
  | tested c y he => exact hs.kept (by simp) (by simp) (by simp) (by simp)
  | head h y q he => exact hs.queued y h (he.nodup hs.grants) rfl rfl rfl
  | decided h r y q he =>
    refine hs.queued y h (he.nodup hs.grants) ?_ ?_ ?_
    all_goals
      rw [← settleUnbound_eq]
      simp
  | discharged c k => exact hs.kept (by simp) (by simp) (by simp) (by simp)
  | ended c k h y q hp hcan hd he =>
    obtain ⟨hc, ho⟩ := hl.owner h c hp
    exact hs.queued y h ((he hc ho).1.nodup hs.grants) (by simp) (by simp) (by simp)
  | noFlow c h y q he =>
    exact hs.queued y h (he.nodup hs.grants) (by simp [State.flowFreed]) (by simp [State.flowFreed]) (by simp [State.flowFreed])
  | granted c h z y q he => exact hs.queued y h (he.nodup hs.grants) rfl rfl rfl
  | created h i =>
    obtain ⟨htr, -, hq, hg, -, -, hv, -⟩ := createRecord_frame (s.admissionUsed h) h i
    exact hs.kept htr hq hg hv
  | handedOn h => exact measuresSafe_handOn hs h (hh h).record
  | filled es z =>
    obtain ⟨htr, -, hq, hg, -, -, hv, -⟩ := entries_frame es (s, z)
    exact hs.kept htr hq hg hv
  | verdicts u he => exact { hs with unmatched := he.unmatched hs.unmatched, log := fun r hr => hs.log r (he.log.subset hr) }
  | activated i =>
    unfold slotsActivated
    rw [retireSlot_eq]
    exact hs.kept rfl rfl rfl rfl

/-! ## The cylinders -/

/-- A measured pressure and a count of failures within their ranges (spec/05 R87, R91). -/
def Cylinder.Gauged (x : Cylinder) : Prop := x.pressure ≤ 4000 ∧ x.failures ≤ 3

theorem gauged_modCyl {s : State} {c : Fin 4} {f : Cylinder → Cylinder} (hs : ∀ d : Fin 4, s.cylinders[d].Gauged)
    (hf : (f s.cylinders[c]).Gauged) (d : Fin 4) : (s.modCyl c f).cylinders[d].Gauged := by
  rw [State.modCyl_get]
  split
  · exact hf
  · exact hs d

theorem gauged_endDischarge {s : State} (c : Fin 4) (k : EndCause) (hs : ∀ d : Fin 4, s.cylinders[d].Gauged) (d : Fin 4) :
    (endDischarge c k s).cylinders[d].Gauged := by
  rw [endDischarge_cylinders]
  split
  · exact hs d
  · exact hs d

theorem gauged_readyOrDisabled {s : State} (c : Fin 4) (hs : ∀ d : Fin 4, s.cylinders[d].Gauged) (d : Fin 4) :
    (readyOrDisabled c s).cylinders[d].Gauged := by
  unfold readyOrDisabled
  split
  · refine (congrArg (fun v : Vector Cylinder 4 => v[d].Gauged) (completeDisable_cylinders c s)).mpr ?_
    exact gauged_modCyl hs (f := fun x => { x.enter .disabled with disablePending := false }) (hs c) d
  · exact gauged_modCyl hs (hs c) d

theorem Act.gauged {b : Bool} {s t : State} (ha : Act b s t) (hs : ∀ c : Fin 4, s.cylinders[c].Gauged) :
    ∀ c : Fin 4, t.cylinders[c].Gauged := by
  have hsame (he : t.cylinders = s.cylinders) : ∀ c : Fin 4, t.cylinders[c].Gauged := he ▸ hs
  cases ha with
  | link | sensors | mask | cleared | tracker | hold | supply | head | infeed | gateRefused | gateAdmitted
  | verdicts | loaded | discarded | configured | gasTable | allowance => exact hs
  | condition k => exact hsame (by simp)
  | locked => exact hsame (by unfold enterLocked; simp)
  | slipped => exact hsame (by simp)
  | source x => rw [selectSource_eq] at hsame ⊢; exact hsame (by simp [sourceSelected])
  | cylinder c y he => exact gauged_modCyl hs (he.ranges (hs c))
  | tested c y he =>
    rw [(allOutTest_frame _).2.2.1]
    exact gauged_modCyl hs (he.ranges (hs c))
  | decided h r y q =>
    refine hsame ?_
    show (s.unbound h r.seq).cylinders = _
    rw [← settleUnbound_eq]
    simp
  | discharged c k => exact gauged_endDischarge c k hs
  | ended c k h y q => exact gauged_endDischarge c k hs
  | noFlow c h y q =>
    exact gauged_readyOrDisabled c (gauged_modCyl (s := s.modHead h (Head.noFlow c)) (c := c)
      (f := fun x => { x with owner := none, shot := none }) hs (hs c))
  | granted c h z y q =>
    exact gauged_modCyl (f := fun x => { x.enter .discharging with owner := some h, shot := some z }) hs (hs c)
  | created h i => exact hsame (createRecord_frame (s.admissionUsed h) h i).2.1
  | handedOn h => exact hsame (handOn_frame s h).2.1
  | filled es z => exact hsame (entries_frame es (s, z)).2.1
  | activated i => exact hsame (by unfold slotsActivated; rw [retireSlot_eq]; rfl)

/-! ## Every item -/

theorem rangesSafe_iff (s : State) : RangesSafe s ↔ MeasuresSafe s ∧ (∀ h : Fin 16, HeadRanges s.heads[h]) ∧
    InfeedRanges s.infeed ∧ AwaitingSafe s ∧ ∀ c : Fin 4, s.cylinders[c].Gauged := by
  constructor
  · intro h
    exact ⟨⟨h.position, h.revolution, h.grants, h.buffer, h.temperature, h.unmatched, h.log⟩, h.heads, h.infeed, h.awaiting,
      h.pressures⟩
  · rintro ⟨hm, hh, hi, hw, hc⟩
    exact ⟨hm.position, hm.revolution, hh, hi, hw, hc, hm.grants, hm.buffer, hm.temperature, hm.unmatched, hm.log⟩

theorem Act.rangesSafe {b : Bool} {s t : State} (ha : Act b s t) (hf : FiguresSafe s) (hl : Linked s) (hs : RangesSafe s) :
    RangesSafe t := by
  obtain ⟨hm, hh, hi, hw, hc⟩ := (rangesSafe_iff s).mp hs
  obtain ⟨hi', hw'⟩ := ha.filling hl hi hw
  exact (rangesSafe_iff t).mpr ⟨ha.measuresSafe hl hh hm, ha.headRanges hf hl hi.sequence hh, hi', hw', ha.gauged hc⟩

/-- The blocks at reset have their items in range, with any measured pressure in range. -/
theorem rangesSafe_restarted {s : State} (ht : s.tracker = .atReset) (hh : s.heads = Vector.replicate 16 .atReset)
    (hi : Counted .atReset s.infeed) (hq : s.grantQueue = []) (hv : s.verdicts = .atReset) (hb : s.gas.buffer ≤ 6000)
    (hg : -400 ≤ s.gas.heldTemp ∧ s.gas.heldTemp ≤ 800) (hc : ∀ c : Fin 4, s.cylinders[c].Gauged) : RangesSafe s := by
  have hr := rangesSafe_reset
  refine ⟨ht ▸ hr.position, ht ▸ hr.revolution, ?_, hi.ranges hr.infeed, ?_, hc, hq ▸ hr.grants, hb, hg, hv ▸ hr.unmatched,
    hv ▸ hr.log⟩
  · rw [hh]
    exact hr.heads
  · exact hr.awaiting.of_eq hi.awaiting hi.fillQueue hh

theorem gauged_restarted {x : Cylinder} (hx : x.Gauged) (v : Bool) (cfg : MachineConfig) :
    x.restarted.Gauged ∧ (x.restarted.refilledIdle v cfg).Gauged := by
  have hreset : x.restarted.Gauged := ⟨hx.1, Nat.zero_le _⟩
  refine ⟨hreset, ?_⟩
  unfold Cylinder.refilledIdle
  split
  · exact hreset
  · exact hreset

theorem rangesSafe_powerOn {x y : Bool} {s t : State} (hs : RangesSafe s) (e : exec (.powerOnReset x y) s = .next t) :
    RangesSafe t := by
  injection e with e; subst e
  refine rangesSafe_restarted rfl rfl (.of_eq rfl) rfl rfl hs.buffer rangesSafe_reset.temperature fun c => ?_
  show (restartCylinders s).cylinders[c].Gauged
  rw [restartCylinders_eq]
  simp only [Fin.getElem_fin, Vector.getElem_map]
  exact (gauged_restarted (hs.pressures c) false s.config).1

theorem rangesSafe_restart {s : State} (hs : RangesSafe s) : RangesSafe (performRestart s) := by
  rw [performRestart_eq]
  refine rangesSafe_restarted rfl rfl ?_ rfl rfl hs.buffer hs.temperature fun c => ?_
  · exact .withheld ..
  · simp only [Fin.getElem_fin, Vector.getElem_map]
    exact (gauged_restarted (hs.pressures c) _ _).2

/-- The ranges with the laws of the figures and of the pairing, on which they rest. -/
def AllInRange (s : State) : Prop := FiguresSafe s ∧ Linked s ∧ RangesSafe s

theorem Act.allInRange {b : Bool} {s t : State} (ha : Act b s t) (h : AllInRange s) : AllInRange t := by
  obtain ⟨hf, hl, hs⟩ := h
  exact ⟨ha.figuresSafe hf, ha.linked hl, ha.rangesSafe hf hl hs⟩

theorem AllInRange.pending {s : State} (h : AllInRange s) (cs : List Instr) : AllInRange { s with pending := cs } := by
  obtain ⟨hf, hl, hs⟩ := h
  exact ⟨⟨hf.config, hf.gasTable, { hf.store with }⟩, hl.of_eq rfl rfl rfl, { hs with awaiting := hs.awaiting.of_eq rfl rfl rfl }⟩

/-- Settles O18: the acts of a step keep it together with the two laws it rests on; the resets keep it by itself. -/
theorem itemsStayInRange : Obligations.ItemsStayInRange := by
  intro s t hf hp hs e
  have hlaws : AllInRange s := ⟨hf, (pairingSafe_iff s).mp hp, hs⟩
  rcases step_cases e with rfl | ⟨c, rest, -, hc⟩
  · exact hs
  · obtain ⟨hf', hl', hs'⟩ := hlaws.pending rest
    rcases acts_exec hc with ha | ⟨x, y, hx⟩ | ⟨-, ht⟩
    · exact (ha.keeps (P := AllInRange) (fun _ _ hact h => hact.allInRange h) ⟨hf', hl', hs'⟩).2.2
    · rw [hx] at hc
      exact rangesSafe_powerOn hs' hc
    · rw [ht]
      exact rangesSafe_restart hs'

end Sys2Proof.Machine
end
